-- ==== Sys2Proof/Word.lean ====
section
/-! DEFINITION. The word types of the N160 (R5): byte, halfword, word, doubleword and the 512-bit wide value. -/

namespace Sys2Proof

/-- A byte (R5). -/
abbrev Byte := BitVec 8
/-- A halfword (R5). -/
abbrev Half := BitVec 16
/-- A word, which is also a narrow value (R5). -/
abbrev Word := BitVec 32
/-- A doubleword (R5). -/
abbrev DWord := BitVec 64
/-- A wide value of 512 bits; lane i lies in bits [32i+31:32i] (R2, R5). -/
abbrev Wide := BitVec 512

end Sys2Proof
end

