-- ==== Sys2Proof/Config.lean ====
section
/-! DEFINITION. The free values: what the specification leaves open, as constants without a body.

Each is applied to a plain counter of the state or to the operands it depends on. Nothing can evaluate one, so a
statement that holds of the model holds whatever the part does there. -/

namespace Sys2Proof.Config

/-- A choice between two outcomes that a rule allows (R72, R111, R255, R68, R333): one bit for each use. -/
opaque freeBit : Nat → Bool
/-- How many cycles before its issue a bundle was fetched, 0 to 3 (R394). -/
opaque fetchLag : Nat → BitVec 2
/-- Hardware entropy (R349, and the key exchanges of chapter 21). -/
opaque entropy : Nat → BitVec 64
/-- A value that a rule leaves open, by the state's counter of free values. -/
opaque freeWord : Nat → Word
/-- TINFO where no rule states it (FETCH_POISON at fetch, SAFEPOINT_OVERRUN, SAFEPOINT_IN_LOOP). -/
opaque freeInfo : Nat → DWord
/-- A Falcon-1024 signature under the device identity key of a message (R516): signing is randomised. Of these values the
model takes only what verifies under the key. -/
opaque falconSign : Nat → List Byte → List Byte
/-- The header of a UALink request: device, source, sequence number, address, kind, size (R455). -/
opaque ualHeader : Nat → Nat → Nat → Nat → Nat → Nat → List Byte
/-- The header of a UALink response: device, sequence number, status (R455). -/
opaque ualReplyHeader : Nat → Nat → Byte → List Byte
/-- The hash of issuing tile and class that chooses a port of a route (R456). -/
opaque routeHash : Nat → Nat → Nat
/-- The state-table sections, by ID, that a complex's firmware knows (R519, R520): the firmware defines them. -/
opaque knownSection : Nat → Bool
/-- The fuse words of the part (R369, R512): words 0 and 2; word 1 is the digest of the identity key (R516). -/
opaque fuse : Nat → Wide
/-- A certificate chain of the device (R516, R517). -/
opaque idCert : List Byte
/-- The bytes of the device identity public key, which a fused seed fixes (R516). -/
opaque idPubByte : Nat → Byte
/-- The bytes of the boot ROM (R513). -/
opaque bootRom : List Byte
/-- The firmware image in the tray's boot flash (R528, R511). -/
opaque flashImage : List Byte

end Sys2Proof.Config
end

