-- ==== Sys2Proof/Syntax.lean ====
section
/-! DEFINITION. The syntax: one constructor of `Instr` per row of the opcode table.

A tile's instruction is a bundle (R87). `Bundle` is any bundle, its fields as the 256 bits give them. A row of a
socket operation is the bundle whose only move is that operation's trigger, under any header (R101 lets every other slot
be empty): `TrigMove` holds what the operation code leaves open. The rows of package events carry the numbers that
say which tile, launch, ring, page or register the event concerns. -/

namespace Sys2Proof

/-- One slot of a bundle as encoded (R88). -/
structure Slot where
  src : BitVec 12
  dst : BitVec 12
  grd : BitVec 4
  deriving DecidableEq, Repr

/-- A whole bundle as encoded: header (R87) and eight slots (R88). Slot 7 holds the literal's low bits when `l` (R89). -/
structure Bundle where
  res31 : BitVec 16
  gap : BitVec 8
  res7 : BitVec 2
  s : Bool
  l : Bool
  lithi : BitVec 4
  slots : Vector Slot 8
  deriving DecidableEq, Repr

/-- The bundle around one trigger: its header's GAP and S, the slot, source and guard of the move, and the literal when
the bundle carries one (R89). -/
structure TrigMove where
  gap : BitVec 8 := 0
  s : Bool := false
  slot : BitVec 3
  src : BitVec 12
  grd : BitVec 4 := 0
  lit : Option Word := none
  deriving DecidableEq, Repr

/-- A device's response as it arrives at a port (R460): status, header, payload, key phase and tag; its owners are those of
the request. -/
structure UalResp where
  status : Byte := 0
  header : List Byte := []
  payload : List Byte := []
  phase : Bool
  tag : BitVec 128
  deriving DecidableEq, Repr

/-- What an agent outside the modelled state answers to an access that reaches it, and the choice the spec leaves to the
translating die. `status` LINK_FAIL says that a link's retries are exhausted; `data` is a chunk that a collective's home sends,
`resp` another device's response, to be verified (R460); without one the device answers from State's `pod`. `cached` says whether a cached translation is used
where one is held (R391, R414), `readOnly` whether of an element only the read takes place now (R331, R333). -/
structure ExtReply where
  status : Byte := 0
  resp : Option UalResp := none
  data : List Byte := []
  cached : Bool := false
  readOnly : Bool := false
  deriving DecidableEq, Repr

/-- A UALink request as it arrives at a port (R455, R460). -/
structure UalReq where
  dev : BitVec 10
  src : Nat
  seq : Word
  issuer : BitVec 16
  target : BitVec 16
  phase : Bool
  tag : BitVec 128
  header : List Byte
  addr : BitVec 52
  /-- 0 read, 1 write, 2–9 the operators of Table 12-5 in order, 10 swap, 11 compare and swap. -/
  kind : Nat
  size : Nat
  payload : List Byte
  /-- The ports that a forwarded request may leave on are those of the route; the port chosen among them. -/
  outPort : Nat
  ext : ExtReply
  deriving DecidableEq, Repr

/-- What a scrub read finds in a granule (R484). -/
inductive ScrubResult where
  | clean
  | correctable
  | uncorrectable
  deriving DecidableEq, Repr

/-- The SPDM 1.3 requests of R517 that act on state the manual names. -/
inductive SpdmReq where
  /-- GET_CERTIFICATE: the chain of CRN_ID_CERT. -/
  | getCertificate
  /-- GET_MEASUREMENTS of one index, without a signature (R517). -/
  | getMeasurement (index : Nat)
  /-- GET_VERSION. -/
  | getVersion
  /-- GET_CAPABILITIES. -/
  | getCapabilities
  /-- NEGOTIATE_ALGORITHMS. -/
  | negotiateAlgorithms
  /-- CHALLENGE, with the requester's nonce. -/
  | challenge (nonce : List Byte)
  /-- GET_MEASUREMENTS of one index with a signature, and the requester's nonce. -/
  | signedMeasurement (index : Nat) (nonce : List Byte)
  /-- KEY_PROG of the CXL IDE key management in a session: the key of a stream (R473). -/
  | ideKeyProg (session stream : Nat) (key : BitVec 256)
  /-- K_SET_GO: a stream uses its key. -/
  | ideGo (session stream : Nat)
  /-- K_SET_STOP. -/
  | ideStop (session stream : Nat)
  /-- KEY_EXCHANGE and FINISH: opens a session; with MUT_AUTH the requester's public-key digest. -/
  | openSession (requester : Option Wide)
  /-- END_SESSION. -/
  | endSession (session : Nat)
  /-- An SPDM request of another version. -/
  | otherVersion
  deriving DecidableEq, Repr

/-- The steps of the opcode table: bundle issue and the socket operations, then the events of tiles, crown and package. -/
inductive Instr where
  /-- BUNDLE_ISSUE (R102). -/
  | bundleIssue (b : Bundle)
  /-- CU_JMP (R162). -/
  | cuJmp (m : TrigMove)
  /-- CU_JREL (R162). -/
  | cuJrel (m : TrigMove)
  /-- CU_JTAB (R163). -/
  | cuJtab (m : TrigMove)
  /-- CU_CALL (R162). -/
  | cuCall (m : TrigMove)
  /-- CU_CALLREL (R162). -/
  | cuCallrel (m : TrigMove)
  /-- CU_CALLTAB (R163). -/
  | cuCalltab (m : TrigMove)
  /-- CU_RET (R164). -/
  | cuRet (m : TrigMove)
  /-- CU_LOOP (R165). -/
  | cuLoop (m : TrigMove)
  /-- CU_LOOPI (R165). -/
  | cuLoopi (m : TrigMove)
  /-- CU_LOOPNEXT (R167). -/
  | cuLoopnext (m : TrigMove)
  /-- CU_LOOPEXIT (R167). -/
  | cuLoopexit (m : TrigMove)
  /-- CU_NEXTWORK (R170). -/
  | cuNextwork (m : TrigMove)
  /-- CU_SYNC (R173). -/
  | cuSync (m : TrigMove)
  /-- CU_HALT (R171). -/
  | cuHalt (m : TrigMove)
  /-- CU_TRAP (R172). -/
  | cuTrap (m : TrigMove)
  /-- CU_BRK (R172). -/
  | cuBrk (m : TrigMove)
  /-- CU_LOOPIDX (R168). -/
  | cuLoopidx (m : TrigMove)
  /-- CU_LOOPCNT (R168). -/
  | cuLoopcnt (m : TrigMove)
  /-- IA_ADD (R185). -/
  | iaAdd (u : Bool) (m : TrigMove)
  /-- IA_SUB (R185). -/
  | iaSub (u : Bool) (m : TrigMove)
  /-- IA_ADDS (R186). -/
  | iaAdds (u : Bool) (m : TrigMove)
  /-- IA_SUBS (R186). -/
  | iaSubs (u : Bool) (m : TrigMove)
  /-- IA_AND (R185). -/
  | iaAnd (u : Bool) (m : TrigMove)
  /-- IA_OR (R185). -/
  | iaOr (u : Bool) (m : TrigMove)
  /-- IA_XOR (R185). -/
  | iaXor (u : Bool) (m : TrigMove)
  /-- IA_ANDN (R185). -/
  | iaAndn (u : Bool) (m : TrigMove)
  /-- IA_SHL (R185). -/
  | iaShl (u : Bool) (m : TrigMove)
  /-- IA_SHR (R185). -/
  | iaShr (u : Bool) (m : TrigMove)
  /-- IA_SAR (R185). -/
  | iaSar (u : Bool) (m : TrigMove)
  /-- IA_ROL (R185). -/
  | iaRol (u : Bool) (m : TrigMove)
  /-- IA_MIN (R185). -/
  | iaMin (u : Bool) (m : TrigMove)
  /-- IA_MAX (R185). -/
  | iaMax (u : Bool) (m : TrigMove)
  /-- IA_MINU (R185). -/
  | iaMinu (u : Bool) (m : TrigMove)
  /-- IA_MAXU (R185). -/
  | iaMaxu (u : Bool) (m : TrigMove)
  /-- IA_EQ (R185). -/
  | iaEq (u : Bool) (m : TrigMove)
  /-- IA_NE (R185). -/
  | iaNe (u : Bool) (m : TrigMove)
  /-- IA_LT (R185). -/
  | iaLt (u : Bool) (m : TrigMove)
  /-- IA_LTU (R185). -/
  | iaLtu (u : Bool) (m : TrigMove)
  /-- IA_LE (R185). -/
  | iaLe (u : Bool) (m : TrigMove)
  /-- IA_LEU (R185). -/
  | iaLeu (u : Bool) (m : TrigMove)
  /-- IA_SEL (R185). -/
  | iaSel (u : Bool) (m : TrigMove)
  /-- IA_CLZ (R185). -/
  | iaClz (u : Bool) (m : TrigMove)
  /-- IA_POPC (R185). -/
  | iaPopc (u : Bool) (m : TrigMove)
  /-- IA_BFX (R187). -/
  | iaBfx (u : Bool) (m : TrigMove)
  /-- MD_MUL (R189). -/
  | mdMul (m : TrigMove)
  /-- MD_MULH (R189). -/
  | mdMulh (m : TrigMove)
  /-- MD_MULHU (R189). -/
  | mdMulhu (m : TrigMove)
  /-- MD_MAC (R189). -/
  | mdMac (m : TrigMove)
  /-- MD_DIV (R190). -/
  | mdDiv (m : TrigMove)
  /-- MD_DIVU (R190). -/
  | mdDivu (m : TrigMove)
  /-- MD_REM (R190). -/
  | mdRem (m : TrigMove)
  /-- MD_REMU (R190). -/
  | mdRemu (m : TrigMove)
  /-- AG_LEA (R192). -/
  | agLea (m : TrigMove)
  /-- AG_LEAS (R192). -/
  | agLeas (m : TrigMove)
  /-- AG_SEG (R200). -/
  | agSeg (m : TrigMove)
  /-- AG_SEGH (R200). -/
  | agSegh (m : TrigMove)
  /-- AG_SEGCHK (R200). -/
  | agSegchk (m : TrigMove)
  /-- AG_TID (R197). -/
  | agTid (m : TrigMove)
  /-- AG_TWIN (R198). -/
  | agTwin (m : TrigMove)
  /-- AG_INC (R192). -/
  | agInc (m : TrigMove)
  /-- AG_INCW (R194). -/
  | agIncw (m : TrigMove)
  /-- AG_BCYC (R195). -/
  | agBcyc (m : TrigMove)
  /-- AG_ILV (R202). -/
  | agIlv (m : TrigMove)
  /-- AG_FMODE (R202). -/
  | agFmode (m : TrigMove)
  /-- LS_LDB (R272). -/
  | lsLdb (m : TrigMove)
  /-- LS_LDBS (R272). -/
  | lsLdbs (m : TrigMove)
  /-- LS_LDH (R272). -/
  | lsLdh (m : TrigMove)
  /-- LS_LDHS (R272). -/
  | lsLdhs (m : TrigMove)
  /-- LS_LDW (R272). -/
  | lsLdw (m : TrigMove)
  /-- LS_LDD (R272). -/
  | lsLdd (m : TrigMove)
  /-- LS_LDV (R272). -/
  | lsLdv (m : TrigMove)
  /-- LS_LDVT (R273). -/
  | lsLdvt (m : TrigMove)
  /-- LS_LDWA (R276). -/
  | lsLdwa (m : TrigMove)
  /-- LS_LDDA (R276). -/
  | lsLdda (m : TrigMove)
  /-- LS_STB (R274). -/
  | lsStb (m : TrigMove)
  /-- LS_STH (R274). -/
  | lsSth (m : TrigMove)
  /-- LS_STW (R274). -/
  | lsStw (m : TrigMove)
  /-- LS_STD (R274). -/
  | lsStd (m : TrigMove)
  /-- LS_STV (R274). -/
  | lsStv (m : TrigMove)
  /-- LS_STVM (R274). -/
  | lsStvm (m : TrigMove)
  /-- LS_STWR (R276). -/
  | lsStwr (m : TrigMove)
  /-- LS_STDR (R276). -/
  | lsStdr (m : TrigMove)
  /-- LS_SCFG (R288). -/
  | lsScfg (m : TrigMove)
  /-- LS_SSTOP (R292). -/
  | lsSstop (m : TrigMove)
  /-- LS_RINGACQ (R287). -/
  | lsRingacq (m : TrigMove)
  /-- LS_RINGREL (R287). -/
  | lsRingrel (m : TrigMove)
  /-- LS_RMWADD (R282). -/
  | lsRmwadd (m : TrigMove)
  /-- LS_RMWSWAP (R282). -/
  | lsRmwswap (m : TrigMove)
  /-- LS_RMWCAS (R282). -/
  | lsRmwcas (m : TrigMove)
  /-- LS_RMWMIN (R282). -/
  | lsRmwmin (m : TrigMove)
  /-- LS_RMWMAX (R282). -/
  | lsRmwmax (m : TrigMove)
  /-- LS_RMWOR (R282). -/
  | lsRmwor (m : TrigMove)
  /-- VU_FADD (R230). -/
  | vuFadd (m : TrigMove)
  /-- VU_FSUB (R230). -/
  | vuFsub (m : TrigMove)
  /-- VU_FMUL (R230). -/
  | vuFmul (m : TrigMove)
  /-- VU_FMA (R231). -/
  | vuFma (m : TrigMove)
  /-- VU_FMIN (R232). -/
  | vuFmin (m : TrigMove)
  /-- VU_FMAX (R232). -/
  | vuFmax (m : TrigMove)
  /-- VU_FDIV (R222). -/
  | vuFdiv (m : TrigMove)
  /-- VU_FSQRT (R222). -/
  | vuFsqrt (m : TrigMove)
  /-- VU_FRCP (R222). -/
  | vuFrcp (m : TrigMove)
  /-- VU_FRSQ (R222). -/
  | vuFrsq (m : TrigMove)
  /-- VU_FEXP2 (R223). -/
  | vuFexp2 (m : TrigMove)
  /-- VU_FLOG2 (R224). -/
  | vuFlog2 (m : TrigMove)
  /-- VU_FRND (R233). -/
  | vuFrnd (m : TrigMove)
  /-- VU_FCMPEQ (R234). -/
  | vuFcmpeq (m : TrigMove)
  /-- VU_FCMPLT (R234). -/
  | vuFcmplt (m : TrigMove)
  /-- VU_FCMPLE (R234). -/
  | vuFcmple (m : TrigMove)
  /-- VU_VADD (R235). -/
  | vuVadd (m : TrigMove)
  /-- VU_VSUB (R235). -/
  | vuVsub (m : TrigMove)
  /-- VU_VADDS (R235). -/
  | vuVadds (m : TrigMove)
  /-- VU_VSUBS (R235). -/
  | vuVsubs (m : TrigMove)
  /-- VU_VMUL (R235). -/
  | vuVmul (m : TrigMove)
  /-- VU_VAND (R235). -/
  | vuVand (m : TrigMove)
  /-- VU_VOR (R235). -/
  | vuVor (m : TrigMove)
  /-- VU_VXOR (R235). -/
  | vuVxor (m : TrigMove)
  /-- VU_VSHL (R235). -/
  | vuVshl (m : TrigMove)
  /-- VU_VSHR (R235). -/
  | vuVshr (m : TrigMove)
  /-- VU_VSAR (R235). -/
  | vuVsar (m : TrigMove)
  /-- VU_VMIN (R235). -/
  | vuVmin (m : TrigMove)
  /-- VU_VMAX (R235). -/
  | vuVmax (m : TrigMove)
  /-- VU_VCMPEQ (R234). -/
  | vuVcmpeq (m : TrigMove)
  /-- VU_VCMPLT (R234). -/
  | vuVcmplt (m : TrigMove)
  /-- VU_CVTIF (R236). -/
  | vuCvtif (m : TrigMove)
  /-- VU_CVTFI (R236). -/
  | vuCvtfi (m : TrigMove)
  /-- VU_CVTFH (R237). -/
  | vuCvtfh (m : TrigMove)
  /-- VU_CVTFB (R237). -/
  | vuCvtfb (m : TrigMove)
  /-- VU_CVTHF (R238). -/
  | vuCvthf (m : TrigMove)
  /-- VU_CVTBF (R238). -/
  | vuCvtbf (m : TrigMove)
  /-- VU_PACKI8 (R239). -/
  | vuPacki8 (m : TrigMove)
  /-- VU_UNPKI8 (R239). -/
  | vuUnpki8 (m : TrigMove)
  /-- VU_VPERM (R240). -/
  | vuVperm (m : TrigMove)
  /-- VU_VBCAST (R240). -/
  | vuVbcast (m : TrigMove)
  /-- VU_RSUM (R241). -/
  | vuRsum (m : TrigMove)
  /-- VU_RMAX (R242). -/
  | vuRmax (m : TrigMove)
  /-- MX_OP4 (R250). -/
  | mxOp4 (m : TrigMove)
  /-- MX_OP4Z (R250). -/
  | mxOp4z (m : TrigMove)
  /-- MX_OP4D (R250). -/
  | mxOp4d (m : TrigMove)
  /-- MX_OP4I (R250). -/
  | mxOp4i (m : TrigMove)
  /-- MX_OP4S (R250). -/
  | mxOp4s (m : TrigMove)
  /-- MX_ACRD (R251). -/
  | mxAcrd (m : TrigMove)
  /-- MX_ACCLR (R251). -/
  | mxAcclr (m : TrigMove)
  /-- MX_MMA16 (R258). -/
  | mxMma16 (m : TrigMove)
  /-- MX_MMA16D (R258). -/
  | mxMma16d (m : TrigMove)
  /-- MX_MMA16I (R258). -/
  | mxMma16i (m : TrigMove)
  /-- MX_MMA16S (R258). -/
  | mxMma16s (m : TrigMove)
  /-- MX_MROW (R253). -/
  | mxMrow (m : TrigMove)
  /-- MX_MCOL (R253). -/
  | mxMcol (m : TrigMove)
  /-- MX_MROWR (R253). -/
  | mxMrowr (m : TrigMove)
  /-- MX_MCOLR (R253). -/
  | mxMcolr (m : TrigMove)
  /-- MX_MACC (R254). -/
  | mxMacc (m : TrigMove)
  /-- MX_MZERO (R254). -/
  | mxMzero (m : TrigMove)
  /-- MX_MLD (R261). -/
  | mxMld (m : TrigMove)
  /-- MX_MST (R261). -/
  | mxMst (m : TrigMove)
  /-- MX_MFMT (R256). -/
  | mxMfmt (m : TrigMove)
  /-- CH_SEND (R306). -/
  | chSend (m : TrigMove)
  /-- CH_HALO (R308). -/
  | chHalo (m : TrigMove)
  /-- CH_SPAWN (R310). -/
  | chSpawn (m : TrigMove)
  /-- CH_FLD (R299). -/
  | chFld (m : TrigMove)
  /-- CH_FLDV (R299). -/
  | chFldv (m : TrigMove)
  /-- CH_FST (R300). -/
  | chFst (m : TrigMove)
  /-- CH_FSTV (R300). -/
  | chFstv (m : TrigMove)
  /-- CH_FSTM (R301). -/
  | chFstm (m : TrigMove)
  /-- CH_FSTRED (R301). -/
  | chFstred (m : TrigMove)
  /-- CH_BADD (R304). -/
  | chBadd (m : TrigMove)
  /-- CH_BADDF (R304). -/
  | chBaddf (m : TrigMove)
  /-- CH_BADDH (R304). -/
  | chBaddh (m : TrigMove)
  /-- CH_BMIN (R304). -/
  | chBmin (m : TrigMove)
  /-- CH_BMAX (R304). -/
  | chBmax (m : TrigMove)
  /-- CH_BAND (R304). -/
  | chBand (m : TrigMove)
  /-- CH_BOR (R304). -/
  | chBor (m : TrigMove)
  /-- CH_BXOR (R304). -/
  | chBxor (m : TrigMove)
  /-- CH_BSWAP (R304). -/
  | chBswap (m : TrigMove)
  /-- CH_BCAS (R304). -/
  | chBcas (m : TrigMove)
  /-- CH_BCASD (R304). -/
  | chBcasd (m : TrigMove)
  /-- CH_BRED (R304). -/
  | chBred (m : TrigMove)
  /-- CH_DMA (R311). -/
  | chDma (m : TrigMove)
  /-- CH_DMAW (R311). -/
  | chDmaw (m : TrigMove)
  /-- CH_LAYOUT (R321). -/
  | chLayout (m : TrigMove)
  /-- CH_COLL (R314). -/
  | chColl (m : TrigMove)
  /-- CH_CCSET (R316). -/
  | chCcset (m : TrigMove)
  /-- CH_CCWAIT (R317). -/
  | chCcwait (m : TrigMove)
  /-- CH_CCCLR (R316). -/
  | chCcclr (m : TrigMove)
  /-- CH_MBCLR (R318). -/
  | chMbclr (m : TrigMove)
  /-- CH_MBWAIT (R318). -/
  | chMbwait (m : TrigMove)
  /-- CH_WADDR (R319). -/
  | chWaddr (m : TrigMove)
  /-- BAL_LOAD (R350). -/
  | balLoad (m : TrigMove)
  /-- BAL_SEED (R349). -/
  | balSeed (m : TrigMove)
  /-- BAL_BETA (R349). -/
  | balBeta (m : TrigMove)
  /-- BAL_CLAMP (R351). -/
  | balClamp (m : TrigMove)
  /-- BAL_UNCLAMP (R351). -/
  | balUnclamp (m : TrigMove)
  /-- BAL_SWEEP (R349). -/
  | balSweep (m : TrigMove)
  /-- BAL_RDSPIN (R352). -/
  | balRdspin (m : TrigMove)
  /-- BAL_RDMARG (R352). -/
  | balRdmarg (m : TrigMove)
  /-- BAL_CLRMARG (R349). -/
  | balClrmarg (m : TrigMove)
  /-- BAL_SEEDRNG (R349). -/
  | balSeedrng (m : TrigMove)
  /-- BAL_GROUP (R349). -/
  | balGroup (m : TrigMove)
  /-- BAL_LINK (R349). -/
  | balLink (m : TrigMove)
  /-- BAL_STATE_READ (R349). -/
  | balStateRead (m : TrigMove)
  /-- BAL_SPIN (R349). -/
  | balSpin (m : TrigMove)
  /-- SY_CRD (R358). -/
  | syCrd (m : TrigMove)
  /-- SY_CRW (R358). -/
  | syCrw (m : TrigMove)
  /-- SY_CRS (R358). -/
  | syCrs (m : TrigMove)
  /-- SY_CRC (R358). -/
  | syCrc (m : TrigMove)
  /-- SY_FENCE (R360). -/
  | syFence (m : TrigMove)
  /-- SY_FENCEI (R361). -/
  | syFencei (m : TrigMove)
  /-- SY_REL (R360). -/
  | syRel (m : TrigMove)
  /-- SY_ACQ (R360). -/
  | syAcq (m : TrigMove)
  /-- SY_CHKERR (R362). -/
  | syChkerr (m : TrigMove)
  /-- SY_TRET (R363). -/
  | syTret (m : TrigMove)
  /-- SY_CNT (R367). -/
  | syCnt (m : TrigMove)
  /-- SY_CNTCFG (R367). -/
  | syCntcfg (m : TrigMove)
  /-- SY_PEND (R365). -/
  | syPend (m : TrigMove)
  /-- SY_INTACK (R365). -/
  | syIntack (m : TrigMove)
  /-- KY_SHINIT (R369). -/
  | kyShinit (m : TrigMove)
  /-- KY_ABSORB (R369). -/
  | kyAbsorb (m : TrigMove)
  /-- KY_SQUEEZE (R369). -/
  | kySqueeze (m : TrigMove)
  /-- KY_FVERIFY (R370). -/
  | kyFverify (m : TrigMove)
  /-- KY_MEXTEND (R370). -/
  | kyMextend (m : TrigMove)
  /-- KY_KEYLD (R370). -/
  | kyKeyld (m : TrigMove)
  /-- KY_KEYCLR (R370). -/
  | kyKeyclr (m : TrigMove)
  /-- KY_FUSERD (R369). -/
  | kyFuserd (m : TrigMove)
  /-- QS_RINGRD (R371). -/
  | qsRingrd (m : TrigMove)
  /-- QS_RINGADV (R371). -/
  | qsRingadv (m : TrigMove)
  /-- QS_HEADPUB (R371). -/
  | qsHeadpub (m : TrigMove)
  /-- QS_ENQ (R372). -/
  | qsEnq (m : TrigMove)
  /-- QS_DEQ (R372). -/
  | qsDeq (m : TrigMove)
  /-- QS_QSTAT (R372). -/
  | qsQstat (m : TrigMove)
  /-- RESULT_COMPLETE (R104). -/
  | resultComplete (t sock : Nat)
  /-- INTERRUPT_ENTRY (R364). -/
  | interruptEntry (t : Nat)
  /-- CONTEXT_SWITCH_ENTRY (R366). -/
  | contextSwitchEntry (t : Nat)
  /-- OP4_STAGE (R251). -/
  | op4Stage (t : Nat)
  /-- MACC_WRITE (R254). -/
  | maccWrite (t : Nat)
  /-- MX_MACRO_STEP (R259). -/
  | mxMacroStep (t : Nat)
  /-- RMW_WRITE (R282). -/
  | rmwWrite (t : Nat)
  /-- RING_UPDATE (R287). -/
  | ringUpdate (t : Nat)
  /-- STREAM_FILL (R291). -/
  | streamFill (t s : Nat)
  /-- FAR_LOAD_REPLY (R299). -/
  | farLoadReply (t i : Nat)
  /-- FAR_STORE_ACK (R300). -/
  | farStoreAck (t i : Nat)
  /-- FAR_ACCESS_AT_HOME (R406). -/
  | farAccessAtHome (t i : Nat) (ext : ExtReply)
  /-- DEMAND_RESOLVED (R412). -/
  | demandResolved (asid : BitVec 16) (vpn : BitVec 35) (active : Bool)
  /-- ZEROING_DONE (R416). -/
  | zeroingDone (asid : BitVec 16) (vpn : BitVec 35)
  /-- COPY_GROUP_LAND (R307). -/
  | copyGroupLand (t i : Nat)
  /-- ESCAPEMENT_RELEASE (R174). -/
  | escapementRelease (l : Nat)
  /-- INITIAL_RELEASE (R175). -/
  | initialRelease (l : Nat)
  /-- DMA_GRANULE_DONE (R312). -/
  | dmaGranuleDone (t i g : Nat) (ext : ExtReply)
  /-- LAYOUT_ADMIT (R330). -/
  | layoutAdmit (die eng : Nat)
  /-- LAYOUT_ELEMENT_WRITE (R331). -/
  | layoutElementWrite (die eng i e : Nat) (ext : ExtReply)
  /-- SPAWN_ANSWER (R310). -/
  | spawnAnswer (t : Nat)
  /-- SPAWN_TARGET_START (R71). -/
  | spawnTargetStart (t : Nat)
  /-- WADDR_TIMEOUT (R319). -/
  | waddrTimeout (t : Nat)
  /-- BAL_PHASE_UPDATE (R347). -/
  | balPhaseUpdate (t : Nat)
  /-- BAL_HALO_LAND (R344). -/
  | balHaloLand (t i : Nat)
  /-- BAL_BARRIER_RELEASE (R347). -/
  | balBarrierRelease (t : Nat)
  /-- BAL_READOUT_LAND (R352). -/
  | balReadoutLand (t i : Nat)
  /-- FVERIFY_DONE (R370). -/
  | fverifyDone (t i : Nat)
  /-- MEXTEND_DONE (R370). -/
  | mextendDone (t i : Nat)
  /-- KEYLD_DONE (R370). -/
  | keyldDone (t i : Nat)
  /-- RING_POLL (R424). -/
  | ringPoll (q : Nat)
  /-- RING_NUDGE (R424). -/
  | ringNudge (q : Nat)
  /-- QUEUE_SLICE_EXPIRY (R430). -/
  | queueSliceExpiry (k : Nat)
  /-- LAUNCH_PACKET (R437). -/
  | launchPacket (q : Nat)
  /-- WRITE_PACKET (R433). -/
  | writePacket (q : Nat)
  /-- SIGNAL_PACKET (R433). -/
  | signalPacket (q : Nat)
  /-- WRITE_SIGNAL_PACKET (R433). -/
  | writeSignalPacket (q : Nat)
  /-- WAIT_PACKET (R435). -/
  | waitPacket (q : Nat)
  /-- LOADCODE_PACKET (R444). -/
  | loadcodePacket (q : Nat)
  /-- FENCE_PACKET (R435). -/
  | fencePacket (q : Nat)
  /-- TIMETABLE_PACKET (R445). -/
  | timetablePacket (q : Nat)
  /-- WAIT_POLL (R435). -/
  | waitPoll (q : Nat)
  /-- WAIT_TIMEOUT (R435). -/
  | waitTimeout (q : Nat)
  /-- FENCE_PACKET_DONE (R435). -/
  | fencePacketDone (q : Nat)
  /-- DEPENDENCE_POLL (R438). -/
  | dependencePoll (l d : Nat)
  /-- START_TICK_CHECK (R440). -/
  | startTickCheck (l : Nat)
  /-- LAUNCH_PLACE (R442). -/
  | launchPlace (l : Nat)
  /-- LAUNCH_RESERVATION (R443). -/
  | launchReservation (l : Nat)
  /-- SLICE_PREEMPT (R443). -/
  | slicePreempt (l : Nat)
  /-- SWAP_OUT_COMPLETE (R79). -/
  | swapOutComplete (l : Nat)
  /-- LAUNCH_RESTORE (R80). -/
  | launchRestore (l : Nat)
  /-- LAUNCH_COMPLETE (R63). -/
  | launchComplete (l : Nat)
  /-- LAUNCH_ABORT (R447). -/
  | launchAbort (q : Nat) (handle : Word)
  /-- RING_CTL_WRITE (R448). -/
  | ringCtlWrite (q : Nat) (v : Word)
  /-- RING_EXP_WRITE (R424). -/
  | ringExpWrite (q : Nat) (v : Word)
  /-- CRN_REGISTER_WRITE (R7). -/
  | crnRegisterWrite (addr : Nat) (n : Nat) (v : BitVec 256)
  /-- XL_LIVE_WRITE (R419). -/
  | xlLiveWrite (v : Word)
  /-- XL_GENERATION_RAISE (R415). -/
  | xlGenerationRaise (asid : BitVec 16)
  /-- XL_CACHE_FLUSH (R415). -/
  | xlCacheFlush
  /-- GENERATION_RAISE_DONE (R415). -/
  | generationRaiseDone
  /-- MIGRATION_GO (R417). -/
  | migrationGo (v : DWord)
  /-- MIGRATION_COPY (R417). -/
  | migrationCopy
  /-- MIGRATION_FORWARD (R417). -/
  | migrationForward
  /-- MIGRATION_DONE (R417). -/
  | migrationDone
  /-- DEMAND_ACK (R419). -/
  | demandAck
  /-- UALINK_REQUEST_IN (R458). -/
  | ualinkRequestIn (p : Nat) (r : UalReq)
  /-- KEY_PHASE_EXPIRY (R461). -/
  | keyPhaseExpiry (owner : BitVec 16)
  /-- COLL_BEGIN (R469). -/
  | collBegin (q : Nat)
  /-- COLL_CHUNK_LAND (R471). -/
  | collChunkLand (q rank chunk : Nat) (ext : ExtReply)
  /-- BR_GROUP_WRITE (R478). -/
  | brGroupWrite (q : Nat) (v : BitVec 128)
  /-- WINDOW_ACTIVATE (R478). -/
  | windowActivate (w : Nat)
  /-- WINDOW_REVOKE_START (R465). -/
  | windowRevokeStart (w : Nat)
  /-- REVOCATION_APPLY (R392). -/
  | revocationApply (w home : Nat)
  /-- REVOCATION_COMPLETE (R465). -/
  | revocationComplete (w : Nat)
  /-- WINDOW_FREE (R478). -/
  | windowFree (w : Nat)
  /-- WINDOW_EXPORT_CMD (R464). -/
  | windowExportCmd (owner : BitVec 16)
  /-- WINDOW_REVOKE_CMD (R464). -/
  | windowRevokeCmd (owner : BitVec 16)
  /-- HDM_CTL_WRITE (R478). -/
  | hdmCtlWrite (k : Nat) (v : Word)
  /-- BR_PORT_RETRY_CLEAR (R478). -/
  | brPortRetryClear (p : Nat)
  /-- GRPERR_CLEAR (R478). -/
  | grperrClear
  /-- HOST_CXL_MEM_ACCESS (R475). -/
  | hostCxlMemAccess (k : Nat) (hpa : Nat) (wr : Option (List Byte)) (ext : ExtReply)
  /-- FENCE_GO (R498). -/
  | fenceGo (f : Nat) (reason : Byte)
  /-- FENCE_COMPLETE (R498). -/
  | fenceComplete (f : Nat)
  /-- AUTO_FENCE (R501). -/
  | autoFence (l f : Nat)
  /-- TILE_PARITY_ERROR (R485). -/
  | tileParityError (t : Nat)
  /-- SCRUB_READ (R484). -/
  | scrubRead (m a : Nat) (e : ScrubResult)
  /-- EDGE_DOWN (R502). -/
  | edgeDown (e : Nat)
  /-- LINK_RETRY_REPORT (R502). -/
  | linkRetryReport (src link count : Nat)
  /-- CXL_LINK_FAIL (R502). -/
  | cxlLinkFail
  /-- TWIN_COMPARE (R491). -/
  | twinCompare (t : Nat)
  /-- TWIN_HOLD_TIMEOUT (R491). -/
  | twinHoldTimeout (t : Nat)
  /-- SELFTEST_DONE (R497). -/
  | selftestDone (t : Nat) (pass : Bool)
  /-- RETIREMENT_MAP_WRITE (R505). -/
  | retirementMapWrite (d : Nat) (bits : List Nat)
  /-- MODULE_RESET (R527). -/
  | moduleReset
  /-- BRINGUP_CHECK_DONE (R528). -/
  | bringupCheckDone (fn : Nat) (pass : Bool)
  /-- PLL_LOCK_LOSS (R535). -/
  | pllLockLoss (d : Nat)
  /-- THERMAL_TRIP (R541). -/
  | thermalTrip (d : Nat) (temp : Byte)
  /-- OVERTEMP_POWER_OFF (R541). -/
  | overtempPowerOff (d : Nat) (temp : Byte)
  /-- DIAL_TICK (R536). -/
  | dialTick
  /-- PPS_IN_EDGE (R537). -/
  | ppsInEdge
  /-- DIAL_ADJ_WRITE (R537). -/
  | dialAdjWrite (v : Word)
  /-- DIAL_STEP (R538). -/
  | dialStep (n : DWord)
  /-- STANDBY_RESET (R511). -/
  | standbyReset
  /-- STANDBY_BOOT (R511). -/
  | standbyBoot (img : BitVec 16)
  /-- BOOT_ROM_DONE (R511). -/
  | bootRomDone
  /-- HANDOVER_GO (R522). -/
  | handoverGo (v : Word)
  /-- HANDOVER_ABORT (R522). -/
  | handoverAbort
  /-- HANDOVER_DONE (R522). -/
  | handoverDone
  /-- HEARTBEAT (R522). -/
  | heartbeat
  /-- HANDOVER_TIMEOUT (R522). -/
  | handoverTimeout
  /-- HEARTBEAT_HANG (R525). -/
  | heartbeatHang
  /-- ARB_WRITE (R512). -/
  | arbWrite (n : Word)
  /-- ID_SIGN_GO (R516). -/
  | idSignGo
  /-- ID_SIGN_DONE (R516). -/
  | idSignDone
  /-- STAGE (R526). -/
  | stage (img : List Byte)
  /-- ACTIVATE (R522). -/
  | activate
  /-- SETRET (R526). -/
  | setret (map : List Byte)
  /-- SETPOD (R518). -/
  | setpod (digest : Wide)
  /-- INFO (R526). -/
  | info
  /-- SPDM_REQUEST (R517). -/
  | spdmRequest (r : SpdmReq)
  /-- SET_FABRIC_KEY (R518). -/
  | setFabricKey (session : Nat) (owner : BitVec 16) (key : BitVec 256)
  /-- CLEAR_FABRIC_KEY (R518). -/
  | clearFabricKey (session : Nat) (owner : BitVec 16)
  /-- UALINK_PORT_TRAINING_DONE (R529). -/
  | ualinkPortTrainingDone (p : Nat) (up : Bool)
  /-- UALINK_PORT_FAILURE (R502). -/
  | ualinkPortFailure (p : Nat)
  /-- THERMAL_TRIP_CLEAR (R541). -/
  | thermalTripClear (d : Nat) (temp : Byte)
  /-- HOST_SNOOP_RESPONSE (R476). -/
  | hostSnoopResponse (line : Nat)
  /-- MSIX_VECTOR_0_REPEAT (R504). -/
  | msixVector0Repeat
  deriving DecidableEq, Repr

end Sys2Proof
end

