-- ==== Sys2Proof/Machine/TileState.lean ====
section
/-! DEFINITION. What one tile holds: chapter 1 and the state that each socket's chapter adds.

Everything is plain data. A queue that the specification describes by cycles carries those cycles. -/

namespace Sys2Proof.Machine

/-- Bytes by address in one canonical form: addresses strictly rising, no entry equal to the byte 0 that an unlisted
address reads as. -/
abbrev Memory := List Host.Cell

/-- A result of a socket (R39): its completion cycle while in flight (in a snapshot: its countdown, R40), the order of
its trigger, its width, and the VSTAT flags it sets when it completes (R186, R213). -/
structure Result where
  due : Nat := 0
  seq : Nat := 0
  wide : Bool := false
  val : Wide := 0
  flags : BitVec 6 := 0
  deriving DecidableEq, Repr

/-- One socket's results: those standing, oldest first, and those in flight (R39). -/
structure SockQ where
  stand : List Result := []
  fly : List Result := []
  deriving DecidableEq, Repr

/-- One loop-stack entry (R26). `buf` is the body as the loop buffer holds it while the entry is active, each bundle with
whether a word of it was poisoned (R28, R483). -/
structure LoopEntry where
  start : BitVec 12 := 0
  stop : BitVec 12 := 0
  count : Word := 0
  index : Word := 0
  buf : List (BitVec 256 × Bool) := []
  deriving DecidableEq, Repr

/-- One captured segment-table entry (R199, R402). -/
structure Seg where
  valid : Bool := false
  lrel : Bool := false
  rdy : BitVec 9 := 0
  rdx : BitVec 9 := 0
  home : BitVec 5 := 0
  hen : Bool := false
  perm : BitVec 4 := 0
  owner : BitVec 16 := 0
  gbase : BitVec 52 := 0
  len : BitVec 48 := 0
  vbase : BitVec 48 := 0
  deriving DecidableEq, Repr

/-- An element that a stream has prefetched (R291): filled at the end of cycle `at`. -/
structure Fill where
  val : Wide
  poison : Bool
  filledAt : Nat
  deriving DecidableEq, Repr

/-- One stream register's mode, pattern and position (R288, R290). -/
structure Stream where
  on : Bool := false
  wrap : Bool := false
  ovr : Bool := false
  fin : Bool := false
  strip : Bool := false
  base : BitVec 17 := 0
  n0 : BitVec 16 := 0
  n1 : BitVec 16 := 0
  n2 : BitVec 16 := 0
  s0 : Word := 0
  s1 : Word := 0
  s2 : Word := 0
  i0 : BitVec 16 := 0
  i1 : BitVec 16 := 0
  i2 : BitVec 16 := 0
  buf : List Fill := []
  /-- The first cycle in which it can be read after its `scfg` (R288). -/
  readyAt : Nat := 0
  deriving DecidableEq, Repr

/-- A slot of a stream's buffer that waits to be filled: the cycle in which it was freed, its stream, and the first cycle
in which it can be filled (R291). -/
structure FillSlot where
  freed : Nat
  stream : Nat
  first : Nat
  deriving DecidableEq, Repr

/-- An open read-modify-write window (R282, R284): trigger cycle, operation number, address, operands, result order; the
word with its tag as read at the start of the next cycle; and whether the word has been written. -/
structure Rmw where
  cyc : Nat
  op : Nat
  addr : Nat
  d : Word
  n : Word
  seq : Nat
  old : Option (Word × Bool) := none
  written : Bool := false
  deriving DecidableEq, Repr

/-- A ring operation between its trigger and its update (R287). `words` are the descriptor's words as read at the start
of the next cycle, `bad` that one of them had a poison tag. -/
structure RingPend where
  cyc : Nat
  rel : Bool
  addr : Nat
  k : Nat
  seq : Nat
  words : Option (Word × Word × Word × Word) := none
  bad : Bool := false
  /-- Triggered in supervisor mode. -/
  sup : Bool := false
  deriving DecidableEq, Repr

/-- An `op4` form between its trigger and its stage (R250): the cycle at whose end the stage is, and the operands as read
at the trigger. -/
structure Op4 where
  stageAt : Nat
  seq : Nat
  code : Nat
  v : Word
  a : Wide
  b : List Byte
  md : BitVec 16
  /-- The value that a snapshot finished it with (R40): its checks have been made. Its stage computes anew (R265). -/
  fin : Option (Vector Word 16) := none
  /-- The value comes from a context block that was written since, and stands as it is. -/
  fixed : Bool := false
  deriving DecidableEq, Repr

/-- A `macc` between its trigger and its write (R254): the elements it writes, in order of i and j. -/
structure Macc where
  cyc : Nat
  dst : Nat
  br : Nat
  bc : Nat
  elems : List Word
  deriving DecidableEq, Repr

/-- The macro operation in progress or suspended (R257, R262). Step s takes place in cycle `base + s`; `id` names it among
the tile's accesses. -/
structure Macro where
  id : Nat := 0
  code : Nat
  v : Word
  n : Nat
  done : Nat
  base : Nat
  susp : Bool := false
  kcount : Nat := 0
  entry : BitVec 128 := 0
  scales : List Word := []
  rows : Nat := 16
  cols : Nat := 16
  deriving DecidableEq, Repr

/-- A completion counter (R315). -/
structure Counter where
  count : BitVec 30 := 0
  status : BitVec 2 := 0
  deriving DecidableEq, Repr

/-- What a far access does at its home (R299–R304, R371). -/
inductive FarKind where
  | load (bytes : Nat)
  | store (bytes : Nat)
  | multi
  | reduce (rop : Nat)
  | atomic (op : Nat) (bytes : Nat)
  | headpub
  | ringrd (ring word : Nat)
  deriving DecidableEq, Repr

/-- How far a far access has got: issued, performed at its home with a status and the bytes read, or completed and held
in supervisor mode (R43). -/
inductive FarPhase where
  | sent
  | waiting
  | performed (status : Byte) (data : List Byte) (poison : Bool)
  | held (status : Byte) (data : List Byte) (poison : Bool)
  deriving DecidableEq, Repr

/-- One destination of a far access as the home receives it (R196, R406). -/
structure FarDest where
  addr : BitVec 52
  mode : BitVec 2 := 0
  raw : Bool := false
  seg : BitVec 6 := 0
  owner : BitVec 16 := 0
  hen : Bool := false
  home : BitVec 5 := 0
  deriving DecidableEq, Repr

/-- An outstanding far access of a tile (R299, R300). -/
structure FarReq where
  id : Nat
  kind : FarKind
  dests : List FarDest
  data : Wide := 0
  issuedAt : Nat
  /-- First cycle in which its reply or acknowledgement can reach the tile (R569). -/
  replyAt : Nat := 0
  issuer : BitVec 16 := 0
  reg : Nat := 0
  wide : Bool := false
  gs : Nat := 0
  cc : Option Nat := none
  cls : Nat := 0
  acquire : Bool := false
  release : Bool := false
  scope : Nat := 0
  look : Nat := 0
  passed : Nat := 0
  /-- Issued in supervisor mode: its window counts supervisor bundles, and its reply is not held (R43, R109). -/
  sup : Bool := false
  /-- The tile has halted since: the reply is discarded on arrival (R171). -/
  drop : Bool := false
  seqNo : Word := 0
  lidx : BitVec 6 := 0
  /-- The cycle in which it was performed at its home. -/
  doneAt : Option Nat := none
  /-- Ids of accesses that must be performed before this one (R378, R384). -/
  after : List Nat := []
  /-- In a DUAL launch, the number of the egress message that must have been compared first (R491). -/
  msg : Nat := 0
  phase : FarPhase := .sent
  deriving DecidableEq, Repr

/-- A statically timed copy (R306–R308, R352, plan entries of R67). -/
inductive CopyKind where
  | send
  | halo (side : Nat)
  | plan
  | readout
  deriving DecidableEq, Repr

/-- One copy in a tile's egress: `start` is its s of R307; `groups` holds the source groups read and not yet landed as
(offset, bytes with their poison, landing cycle). -/
structure CopyReq where
  /-- The operand words of its trigger, or its plan entry, as bytes (R490). -/
  ops : List Nat := []
  id : Nat
  kind : CopyKind
  start : Nat
  src : Nat
  len : Nat
  dstTile : Nat
  dst : Nat
  travel : Nat
  read : Nat := 0
  landed : Nat := 0
  marked : Bool := false
  /-- In a DUAL launch, the number of the copy's egress message, once every byte has been read (R490, R491). -/
  msg : Option Nat := none
  groups : List (Nat × List (Byte × Bool) × Nat) := []
  deriving DecidableEq, Repr

/-- How far one DMA granule has got (R312). -/
inductive GranState where
  | waiting
  /-- Performed at its home; it lands, or its acknowledgement arrives, not before the cycle `at_`. -/
  | performed (status : Byte) (data : List (Byte × Bool)) (at_ : Nat)
  | done
  | failed (status : Byte)
  | cancelled
  deriving DecidableEq, Repr

/-- A DMA transfer (R311, R312). -/
structure Dma where
  id : Nat
  toGlobal : Bool
  dest : FarDest
  len : Nat
  blk : Nat
  p : Nat
  x0 : Nat
  y0 : Nat
  wd : Nat
  base : Nat
  cc : Nat
  cls : Nat
  issuer : BitVec 16
  firstAt : Nat
  /-- Granules that are no longer waiting (R312). -/
  grans : List (Nat × GranState)
  after : List Nat := []
  /-- In a DUAL launch, the number of the egress message that must have been compared first (R491). -/
  msg : Nat := 0
  deriving DecidableEq, Repr

/-- A spawn request on its way (R310). -/
structure SpawnReq where
  target : Nat
  entry : BitVec 12
  args : List Word
  wid : DWord
  arriveAt : Nat
  startAt : Nat
  answerAt : Nat
  answer : Option Bool := none
  /-- Triggered in supervisor mode: a handler's spawn is not the program's, whose wait it interrupts (R44, R310). -/
  sup : Bool := false
  /-- In a DUAL launch, the number of the egress message that must have been compared first (R491). -/
  msg : Nat := 0
  deriving DecidableEq, Repr

/-- A fence's hold on later accesses (R360): accesses of a class of `mask` wait until those named have been performed. -/
structure FenceHold where
  mask : BitVec 16
  ids : List Nat
  deriving DecidableEq, Repr

/-- A store held from other agents until the accesses that it follows have been performed (R276, R360, R384). -/
structure HeldStore where
  id : Nat := 0
  addr : Nat
  len : Nat
  cls : Nat := 0
  ids : List Nat
  deriving DecidableEq, Repr

/-- One export list (R344). -/
structure Link where
  addr : Nat := 0
  count : Nat := 0
  deriving DecidableEq, Repr

/-- Where a sweep stands within its phase (R347). -/
inductive BalStage where
  | updating
  | sending
  | arrived (since : Nat)
  | stopped
  /-- Stopped for a switch and restored: it arrived at the rebuilt barrier in that cycle (R356). -/
  | resumed (since : Nat)
  deriving DecidableEq, Repr

/-- A sweep trigger in progress (R349). -/
structure Sweep where
  total : Nat
  left : Nat
  marg : Bool
  prime : Bool
  beta : BitVec 16
  phase : Nat
  begun : Nat
  stage : BalStage := .updating
  updateAt : Nat := 0
  recerr : Bool := false
  seq : Nat := 0
  lastLand : Nat := 0
  /-- The halo slots as they stood when the phase began (R343). -/
  halo0 : BitVec 256 := 0
  /-- A switch was pending when the tile arrived at the barrier (R356). -/
  stopAsk : Bool := false
  /-- Triggered in supervisor mode: R27 is applied for that mode. -/
  sup : Bool := false
  deriving DecidableEq, Repr

/-- A halo spin between tiles (R344): lands in the slot at the end of `landAt`. -/
structure HaloSpin where
  dstTile : Nat
  slot : Nat
  bit : Bool
  landAt : Nat
  /-- In a DUAL launch, the number of the egress message that must have been compared first (R491). -/
  msg : Nat := 0
  deriving DecidableEq, Repr

/-- The second half of a spin image, read in the cycle after its `load` (R350): the cycle, the address, the clamped spins
among spins 512 to 1,023 and their values. -/
structure HalfLoad where
  at_ : Nat
  addr : Nat
  clamped : BitVec 512
  val : BitVec 512
  deriving DecidableEq, Repr

/-- What a `load` of cycle c replaces, as operations of cycle c + 1 still see it (R350): `at_` is c + 1. -/
structure OldLoad where
  at_ : Nat
  spins : BitVec 1024
  halo : BitVec 256
  loaded : Bool
  n : Nat
  ncol : Nat
  rbase : Nat
  desc : Nat
  deriving DecidableEq, Repr

/-- The Balance's state (chapter 14). -/
structure Bal where
  spins : BitVec 1024 := 0
  halo : BitVec 256 := 0
  marg : Vector Half 1024 := Vector.replicate 1024 0
  seed : DWord := 0
  swn : Word := 0
  loaded : Bool := false
  ent : Bool := false
  msat : Bool := false
  n : Nat := 0
  ncol : Nat := 0
  rbase : Nat := 0
  desc : Nat := 0
  group : Option (Nat × Nat × Nat × Nat) := none
  links : Vector Link 4 := Vector.replicate 4 {}
  sweep : Option Sweep := none
  sends : List HaloSpin := []
  scanAt : Option Nat := none
  half : Option HalfLoad := none
  old : Option OldLoad := none
  deriving DecidableEq, Repr

/-- An engine operation of `ky` in progress (R370). `fverify` holds the places of its key, signature and message; an
`mextend` has been applied at its trigger and holds its status (R515). -/
inductive KyJob where
  | fverify (key sig siglen : Nat) (msg : FarDest) (msglen : Nat) (issuer : BitVec 16) (result : Nat) (checkFuse : Bool) (cc : Nat)
  | mextend (status : Byte) (cc : Nat)
  | keyld (owner : BitVec 16) (addr : Nat) (cc : Nat)
  deriving DecidableEq, Repr

/-- The key socket's hash (R369). -/
structure Sha where
  lanes : Vector DWord 25 := Vector.replicate 25 0
  fill : Nat := 0
  declared : Nat := 0
  count : Nat := 0
  ready : Bool := false
  /-- The first cycle in which READY shows (R155). -/
  readyAt : Nat := 0
  padded : Bool := false
  out : List Byte := []
  deriving DecidableEq, Repr

/-- One event counter (R367). -/
structure EventCounter where
  event : Byte := 0
  ponly : Bool := false
  val : DWord := 0
  deriving DecidableEq, Repr

/-- The snapshot taken at supervisor entry (R40): latches, results with countdowns in `due`, and finished `op4` forms
with the countdowns of their stages in `stageAt` (R266). `gap` is the number of idle cycles of the last issued bundle. -/
structure Snapshot where
  latches : Vector Wide 52
  socks : Vector SockQ 13
  op4s : List Op4
  gap : Nat := 0
  deriving DecidableEq, Repr

/-- A tile's place with respect to its launch and its sequencer (R60, R54, R37, R485). -/
inductive RunState where
  /-- Belongs to no placed launch, or waits for its launch's initial release. -/
  | unplaced
  | waitRelease
  | computing
  | arrived
  | halted
  | notStarted
  | idle
  deriving DecidableEq, Repr

/-- Why the tile's next bundle last did not issue (Table 2-4, R367). -/
inductive Stall where
  | none
  | locked
  | late
  | classW
  | queue
  deriving DecidableEq, Repr

/-- Kind of a switch point (R366). -/
inductive SwitchKind where
  | safePoint (index : BitVec 12)
  | arrival
  | wait
  deriving DecidableEq, Repr

/-- An egress message of a DUAL launch's tile waiting for its comparison (R490, R491). -/
structure Egress where
  k : Nat
  kind : Nat
  words : List Nat
  since : Nat
  deriving DecidableEq, Repr

/-- A tile. -/
structure Tile where
  -- register files (R19, R20)
  x : Vector Word 64 := Vector.replicate 64 0
  v : Vector Wide 32 := Vector.replicate 32 0
  /-- g1–g7 in bits 1–7; bit 0 is never read. -/
  g : Byte := 0
  -- sockets (R17, R39)
  latches : Vector Wide 52 := Vector.replicate 52 0
  socks : Vector SockQ 13 := Vector.replicate 13 {}
  seq : Nat := 0
  -- sequencer (R26)
  pc : Word := 0
  loops : Vector LoopEntry 6 := Vector.replicate 6 {}
  depth : Nat := 0
  -- control registers of Table 1-5
  tctl : Word := 0
  vctl : Word := 0
  vstat : Word := 0
  /-- The flags that results of a cycle have set: (cycle, flags). A `sy` write of VSTAT in that cycle keeps them (R213). -/
  flagsAt : Nat × BitVec 6 := (0, 0)
  mshape : Vector Word 4 := Vector.replicate 4 0
  cir : Word := 0
  relmask : Word := 0xFFFF
  beta : Word := 0
  wid : DWord := 0
  widf : DWord := 0
  segt : Word := 0
  fmtt : Word := 0
  spcnt : Word := 0
  mxown : Word := 0
  /-- The launch and linear index whose block is recorded for the id that MXOWN names (R34, R267, R268). -/
  mxOwner : Option (Nat × Nat) := none
  tstat : Word := 1
  tcause : Word := 0
  tepc : Word := 0
  tinfo : DWord := 0
  tvec : Word := 0xB80
  tscr : DWord := 0
  ctxb : DWord := 0
  -- captured segment table (R199), and whether SEGT has been written at all
  segtSet : Bool := false
  segs : Vector Seg 64 := Vector.replicate 64 {}
  /-- Dial sample (R25). -/
  dialSample : DWord := 0
  -- local store (R27), its poisoned words (R281), its words with pending deliveries (R283)
  ls : Memory := []
  lsPoison : List Nat := []
  lsPending : List Nat := []
  /-- The poison tags as they stood at the start of cycle k, listed as (k + 1, tags) once one has changed in it. -/
  tagsWas : Nat × List Nat := (0, [])
  /-- The words whose marks landings of cycle k have removed, listed as (k + 1, words). -/
  landedIn : Nat × List Nat := (0, [])
  /-- Bytes written in the last cycles: (cycle from which visible, address, old byte, old tag of its word), for fetch
  (R394, R483). -/
  recent : List (Nat × Nat × Byte × Bool) := []
  /-- The cycle as of which the bundle that is tried was fetched (R394). -/
  fetchedAt : Nat := 0
  /-- First cycle in which a fetch after the last redirection or `fencei` can take place (R394). -/
  freshAt : Nat := 0
  -- load/store socket (chapter 11)
  streams : Vector Stream 8 := Vector.replicate 8 {}
  fillQ : List FillSlot := []
  fillCount : Nat × Nat := (0, 0)
  rmws : List Rmw := []
  rings : List RingPend := []
  heldStores : List HeldStore := []
  -- matrix socket (chapter 10)
  ac : Vector Word 16 := Vector.replicate 16 0
  acOld : Option (Nat × Vector Word 16) := none
  m : Vector (Vector Word 256) 4 := Vector.replicate 4 (Vector.replicate 256 0)
  op4s : List Op4 := []
  maccs : List Macc := []
  mac : Option Macro := none
  -- channel socket (chapter 12)
  cc : Vector Counter 16 := Vector.replicate 16 {}
  mb : Vector Word 4 := Vector.replicate 4 0
  lstat : Byte := 0
  lcc : BitVec 4 := 0
  lidx : BitVec 6 := 0
  nack : Bool := false
  reqNo : Nat := 0
  /-- The number of the next held store: no number of a request, since a twin may hold other stores than its primary. -/
  holdNo : Nat := 0
  seqNo : Word := 0
  far : List FarReq := []
  copies : List CopyReq := []
  egressFree : Nat := 0
  ingressAt : Nat := 0
  dmas : List Dma := []
  dmaFree : Nat := 0
  spawns : List SpawnReq := []
  /-- A spawn that this tile has accepted and not yet started (R310, R73). -/
  spawnIn : Option SpawnReq := none
  fences : List FenceHold := []
  layoutWait : Option Nat := none
  colls : Nat := 0
  waddrAt : Option Nat := none
  waddrOut : Bool := false
  -- the Balance, key socket, system socket
  bal : Bal := {}
  kyJobs : List (Nat × KyJob) := []
  sha : Sha := {}
  pend : BitVec 16 := 0
  counters : Vector EventCounter 8 := Vector.replicate 8 {}
  /-- A `cntcfg` of this cycle: the counter and its new setting, zeroed at the end of the cycle (R367). -/
  cntNew : Option (Nat × EventCounter) := none
  -- supervisor entry (R40)
  snap : Option Snapshot := none
  -- sequencing of issue
  run : RunState := .unplaced
  dead : Bool := false
  fenced : Bool := false
  nextAt : Nat := 0
  /-- The cycle in which the GAP idle cycles of the last bundle, or those owed at trap return, end (R41, R367). -/
  idleEnd : Nat := 0
  /-- The cycle f + 1 from which countdowns are taken, f the cycle of the last issued program bundle; after a trap return
  the cycle that stands to f′ as f + 1 stood to the end of that bundle's idle cycles (R40, R41). -/
  kBase : Nat := 0
  /-- The first cycle in which an interrupt can be taken: after the last issued bundle, or after trap return (R41, R44). -/
  intFrom : Nat := 0
  /-- The cycle in which the idle cycles owed by the last bundle end (R103, R157). -/
  gapEnd : Nat := 0
  stall : Stall := .none
  -- launch (chapter 2)
  launch : Option Nat := none
  tlin : Nat := 0
  isSpawn : Bool := false
  sstep : Half := 0
  arrivedAt : Nat := 0
  plandir : Nat := 0
  switchPend : Bool := false
  switchAt : Option SwitchKind := none
  saved : Bool := false
  -- DUAL launches (chapter 20)
  egress : List Egress := []
  egressNo : Nat := 0
  /-- A message of the tile has failed its comparison: nothing more of the pair is forwarded (R494). -/
  diverged : Bool := false
  deriving DecidableEq, Repr

end Sys2Proof.Machine
end

