-- ==== Sys2Proof/Machine/CrownState.lean ====
section
/-! DEFINITION. What the package holds beside its tiles: launches and the crown front end (chapter 18), translation
(17), the bridge and the host attachment (19), reliability (20), firmware (21), bring-up, Dial and power (22), and the
layout engines (13). Tables of many registers are lists of (number, contents) with rising numbers; a number not listed
holds its reset value. -/

namespace Sys2Proof.Machine

/-- Launch states (R52). -/
inductive LaunchState where
  | queued
  | placed
  | running
  | swapping
  | swapped
  | restoring
  | ended
  deriving DecidableEq, Repr

/-- One entry of an object's safe-point table (R133). -/
structure SafePoint where
  index : Nat
  xmask : DWord
  vmask : Word
  deriving DecidableEq, Repr

/-- What an object tells beside what runs: symbols with the offset of a linkage entry or a bundle index, and the launch
template (R135). -/
structure ObjTables where
  imports : List (List Byte × Nat) := []
  exports : List (List Byte × Nat) := []
  template : List Byte := []
  deriving DecidableEq, Repr

/-- A code object as the crown keeps it (R129–R135, R444). -/
structure CodeObj where
  owner : BitVec 16
  handle : Nat
  base : Nat
  entry : BitVec 12
  image : List Byte
  segt : Word
  fmtt : Word
  plandir : Word
  safe : List SafePoint
  tables : ObjTables := {}
  deriving DecidableEq, Repr

/-- One dependence of a launch (R438). -/
structure Dep where
  addr : BitVec 52
  strict : Bool
  handle : Word
  satisfied : Bool := false
  deriving DecidableEq, Repr

/-- A tile's context (R34, R45, R80): its block of Table 1-7, which is kept from placement to the launch's end, and what
the crown firmware records beside it: escapement state and superstep number, the bundle and idle cycles at which to
resume, the poison tags of the saved words, and what no field of the block tells: whether SEGT was ever written, which
in-flight results of `mx` are `op4` forms, the scales of a suspended macro operation, and the count and mode of a
suspended sweep. -/
structure SavedCtx where
  tlin : Nat
  run : RunState := .unplaced
  tepc : Word := 0
  gaprem : Nat := 0
  sstep : Half := 0
  segtSet : Bool := false
  poison : List Nat := []
  /-- Idle cycles of the last issued bundle. -/
  gap : Nat := 0
  /-- `op4` forms between trigger and stage, each with the place of its result among those of `mx` in flight. -/
  op4s : List (Nat × Op4) := []
  scales : List Word := []
  sweep : Option (Nat × Bool) := none
  block : Memory := []
  deriving DecidableEq, Repr

/-- Mailbox data held for a swapped launch (R85). -/
structure HeldMail where
  tlin : Nat
  doff : Nat
  ctr : Nat
  data : List Byte
  deriving DecidableEq, Repr

/-- What a completion record says beside its packet (R431). -/
structure RecordInfo where
  status : Byte
  tlin : Word := 0xFFFFFFFF
  tcause : Word := 0
  tinfo : DWord := 0
  deriving DecidableEq, Repr

/-- A launch from its acceptance (R437, Table 18-6). -/
structure Launch where
  id : Nat
  owner : BitVec 16
  handle : Word
  ring : Nat
  slotSeq : Word := 0
  cscope : Nat
  caddr : BitVec 52
  state : LaunchState := .queued
  code : CodeObj
  preemptible : Bool
  balance : Bool
  dual : Bool
  w : Nat
  h : Nat
  dmask : BitVec 16
  srows : Nat
  prio : Nat
  tstart : DWord
  late : Word
  lead : Word
  widf : DWord
  counts : List Nat
  items : Nat
  segt : Word
  fmtt : Word
  plandir : Word
  segBytes : List Byte := []
  hasSeg : Bool := false
  deps : List Dep := []
  -- waiting and placement (R442, R443)
  waitTicks : Nat := 0
  waitSince : Nat := 0
  reserved : Bool := false
  /-- Tiles that victims have freed for this launch (R443). -/
  heldTiles : List Nat := []
  checked : Bool := false
  ox : Nat := 0
  oy : Nat := 0
  tox : Nat := 0
  toy : Nat := 0
  placedDone : Bool := false
  placeNo : Nat := 0
  ranSince : Nat := 0
  -- escapement (R174, R175)
  releaseAt : Option Nat := none
  escT : Nat := 0
  /-- The contexts of its tiles, from placement on (R34, R45, R79, R80). -/
  ctxs : List SavedCtx := []
  -- swap (R79, R85)
  mail : List HeldMail := []
  mailWords : Nat := 0
  abortWanted : Bool := false
  /-- Accepted by a TIMETABLE, whose record is the packet's own (R435, R445). -/
  table : Bool := false
  -- ending: what the record says, and whether it is still to be written (R431, R524)
  record : Option RecordInfo := none
  recordOwed : Bool := false
  deriving DecidableEq, Repr

/-- What a presented packet does while it blocks its ring (R426, R435). -/
inductive RingWait where
  | wait (since : Nat) (met : Option Byte)
  | fence (done : Bool)
  | room
  deriving DecidableEq, Repr

/-- One producer ring (R420, Table 18-8). -/
structure Ring where
  base : DWord := 0
  owner : BitVec 16 := 0
  queue : Byte := 0
  en : Bool := false
  lgn : Nat := 0
  exp : Word := 0
  head : DWord := 0
  errseq : Word := 0
  err : Bool := false
  /-- The merge unit has found the expected slots valid (R424, R428). -/
  ready : Bool := false
  /-- A packet is presented and not yet consumed (R429), and its number of slots. -/
  presented : Bool := false
  slots : Nat := 1
  /-- EN has been written 0, which STATE shows as disabled; after a reset STATE is 0 (Table 18-8). -/
  off : Bool := false
  blocked : Option RingWait := none
  headOwed : Bool := false
  deriving DecidableEq, Repr

/-- A record of an atomic applied and not yet confirmed (R418). A store with several destinations has one for each. -/
structure Applied where
  src : Nat
  seqNo : Word
  old : List Byte
  poison : Bool
  die : Nat
  /-- The address it was applied to, and for a paged one its address space. -/
  addr : Nat
  asid : Option (BitVec 16)
  deriving DecidableEq, Repr

/-- A translation cached by the memory controller of a page's home (R411, R414): the 64 KiB page it was read for, entry
bits, the generation it was read under, and whether the tree was in force (R413). -/
structure CachedXl where
  die : Nat
  asid : BitVec 16
  vpn : BitVec 35
  entry : BitVec 128
  gen : BitVec 16
  tree : Bool
  deriving DecidableEq, Repr

/-- The migration in progress (R417). -/
structure Migration where
  asid : BitVec 16
  vpn : BitVec 35
  oldDie : Nat
  oldFrame : Nat
  newDie : Nat
  newFrame : Nat
  large : Bool
  phase : Nat
  copied : Nat := 0
  raised : Bool := false
  deriving DecidableEq, Repr

/-- Why an access waits at a die (R412). -/
inductive HoldWhy where
  | zeroing
  | demand
  | migrating
  deriving DecidableEq, Repr

/-- Who makes an access: a far access, a granule of DMA, an element of a layout command, a collective, an engine of `ky`, the
crown for itself, another device, the host. -/
inductive Agent where
  | far
  | dma
  | layout
  | coll
  | ky
  | crown
  | fabric
  | host
  deriving DecidableEq, Repr

/-- An access held at a die, in arrival order (R412, R417); `inside` is false while it waits at the die's ingress. -/
structure HeldAccess where
  die : Nat
  agent : Agent
  tile : Nat
  req : Nat
  addr : Nat
  asid : BitVec 16
  vpn : BitVec 35
  why : HoldWhy
  inside : Bool
  deriving DecidableEq, Repr

/-- Translation state (Table 17-7). -/
structure Xl where
  live : BitVec 16 := 0
  lock : Bool := false
  tree : Bool := false
  tasid : BitVec 16 := 0
  troot : DWord := 0
  genSel : BitVec 16 := 0
  gens : List (Nat × BitVec 16) := []
  /-- The raise in progress: its ASID (R415); `genQueue` the commands waiting. -/
  genBusy : Option (BitVec 16) := none
  genQueue : List Word := []
  genLast : BitVec 16 := 0
  miga : DWord := 0
  migb : DWord := 0
  migErr : Bool := false
  mig : Option Migration := none
  migPhase : Nat := 0
  demand : List (Nat × BitVec 16 × BitVec 35) := []
  held : List HeldAccess := []
  cache : List CachedXl := []
  applied : List Applied := []
  ptb : Vector DWord 16 := Vector.replicate 16 0
  deriving DecidableEq, Repr

/-- A fabric key with its phase, and the previous one with the cycle of its expiry (R461). -/
structure FabricKey where
  owner : BitVec 16
  key : BitVec 256
  phase : Bool := false
  prev : Option (BitVec 256 × Nat) := none
  deriving DecidableEq, Repr

/-- A window-table entry (Table 19-2) and the homes that have applied its revocation (R465): dies 0–15, 16 the bridge,
17 the CXL port. -/
structure Window where
  state : BitVec 2 := 0
  perm : BitVec 4 := 0
  importer : BitVec 16 := 0
  exporter : BitVec 16 := 0
  len : BitVec 48 := 0
  gbase : BitVec 52 := 0
  applied : List Nat := []
  deriving DecidableEq, Repr

/-- A group-table entry (Table 19-4) with its ranks' expectations (R468). -/
structure Group where
  en : Bool := false
  rm1 : BitVec 10 := 0
  owner : BitVec 16 := 0
  mlist : BitVec 20 := 0
  exps : List Nat := []
  /-- The number of the next collective to begin (R469). -/
  next : Nat := 0
  stopped : Option Byte := none
  deriving DecidableEq, Repr

/-- A submission of a collective (R468). -/
structure Submission where
  group : Nat
  rank : Nat
  seqNo : Nat
  tile : Nat
  kind : Nat
  rop : Nat
  len : Nat
  src : FarDest
  dst : FarDest
  cc : Nat
  /-- Issuer owners of the source and of the destination access (R406). -/
  issuer : BitVec 16
  dissuer : BitVec 16 := 0
  arriveAt : Nat
  accepted : Bool := false
  held : Bool := false
  after : List Nat := []
  /-- The other device that submitted it, at the group's home (R467), and the chunks of its contribution (R471). -/
  dev : Option Nat := none
  /-- That device could not read its source (R472). -/
  failed : Option Byte := none
  chunks : List (Nat × List (Byte × Bool)) := []
  /-- In a DUAL launch, the number of the egress message that must have been compared first (R491). -/
  msg : Nat := 0
  deriving DecidableEq, Repr

/-- A collective in progress (R469, R471): result bytes with their poison, and the chunks landed at each rank. Where the
group's home is another device, the chunks that have arrived from it, by rank and number. -/
structure Collective where
  group : Nat
  seqNo : Nat
  kind : Nat
  result : List (Byte × Bool)
  landed : List (Nat × Nat)
  arrived : List (Nat × Nat × List (Byte × Bool)) := []
  deriving DecidableEq, Repr

/-- What bridges say to one another about a group's collectives (R467, R471, R472). A member's bridge forwards a submission
and its contribution to the group's home; the home sends result chunks, or rejects a submission. Any bridge tells the others
that a collective has failed, or that the group takes no more submissions. -/
inductive CollMsg where
  | submit (rank seqNo kind rop len : Nat)
  | contribution (rank seqNo chunk : Nat) (bytes : List (Byte × Bool))
  | result (rank seqNo chunk : Nat) (bytes : List (Byte × Bool))
  | rejected (rank seqNo : Nat) (status : Byte)
  | failed (seqNo : Nat) (status : Byte)
  | stopped (status : Byte)
  deriving DecidableEq, Repr

/-- A UALink flit that the module sends (R455, R460): a request, a response with its status, a forwarded request, or a NACK
(`reply` 0xFF), with owners, phase and tag. -/
structure Flit where
  port : Nat
  dev : Nat
  reply : Option Byte := none
  issuer : BitVec 16 := 0
  target : BitVec 16 := 0
  phase : Bool := false
  tag : BitVec 128 := 0
  header : List Byte := []
  payload : List Byte := []
  deriving DecidableEq, Repr

/-- An answer to the host's CXL.mem (R475): the address, and for a read its bytes with their poison. -/
structure HostAnswer where
  hpa : Nat
  data : List (Byte × Bool)
  deriving DecidableEq, Repr

/-- One UALink port (Table 19-6). -/
structure UalPort where
  en : Bool := false
  state : BitVec 3 := 0
  retries : Half := 0
  deriving DecidableEq, Repr

/-- One HDM decoder (Table 19-6). -/
structure Hdm where
  hbase : DWord := 0
  gbase : DWord := 0
  en : Bool := false
  size : BitVec 15 := 0
  owner : BitVec 16 := 0
  deriving DecidableEq, Repr

/-- A window command page (Table 19-3). -/
structure CmdPage where
  cmd : Word := 0
  gbase : DWord := 0
  len : DWord := 0
  arg : Word := 0
  status : Word := 0
  busy : Bool := false
  order : Nat := 0
  revoking : Option Nat := none
  deriving DecidableEq, Repr

/-- The bridge and the host attachment (chapter 19). -/
structure Bridge where
  id : BitVec 10 := 0x3FF
  lock : Bool := false
  fwd : Bool := false
  cen : Bool := false
  grperr : DWord := 0
  ports : Vector UalPort 24 := Vector.replicate 24 {}
  routes : List (Nat × BitVec 24) := []
  rgown : List (Nat × BitVec 16) := []
  /-- What the owners written in this cycle were before it (R400, R466). -/
  rgownWas : List (Nat × BitVec 16) := []
  windows : List (Nat × Window) := []
  groups : List (Nat × Group) := []
  subs : List Submission := []
  colls : List Collective := []
  keys : List FabricKey := []
  hdm : Vector Hdm 8 := Vector.replicate 8 {}
  /-- Lines the host has read (R476), and those with a snoop outstanding. -/
  snoopLines : List Nat := []
  snoopWait : List Nat := []
  pages : List (Nat × CmdPage) := []
  cmdNo : Nat := 0
  /-- Requests of other devices that wait for a page, with their port, in order (R412, R458). -/
  ualHeld : List (Nat × UalReq) := []
  /-- Accesses of the host that wait for a page, in order (R412, R475): decoder, address, data, answer from outside. -/
  hostHeld : List (Nat × Nat × Option (List Byte) × ExtReply) := []
  /-- Flits sent, in order (R455–R460). -/
  sent : List Flit := []
  /-- What collectives have sent to other devices, in order: device, group, message (R467, R471, R472). -/
  collOut : List (Nat × Nat × CollMsg) := []
  /-- Answers to the host's accesses, in order (R475). -/
  hostAnswers : List HostAnswer := []
  /-- The CXL link is down: what goes to host memory completes with LINK_FAIL (R502). -/
  cxlDown : Bool := false
  deriving DecidableEq, Repr

/-- One fence (R498). `stage` 0 idle, 1 waits for an overlapping fence, 2 in progress, 3 waits for self-tests. -/
structure Fence where
  rect : DWord := 0
  busy : Bool := false
  err : Bool := false
  reason : Byte := 0
  stage : Nat := 0
  since : Nat := 0
  launches : List Nat := []
  tests : List Nat := []
  info : RecordInfo := { status := 0 }
  deriving DecidableEq, Repr

/-- An automatic fence asked for and not yet started (R501). -/
structure FenceWish where
  launch : Nat
  reason : Byte
  info : RecordInfo
  since : Nat
  deriving DecidableEq, Repr

/-- An error event not yet written (R503): its source's number and the Dial were taken when it was raised. -/
structure ErrEvent where
  source : Nat
  kind : Nat
  ssn : Word
  dial : DWord
  tile : Nat
  handle : Nat
  word7 : Nat
  deriving DecidableEq, Repr

/-- Reliability state (Table 20-7). -/
structure Rel where
  evBase : DWord := 0
  evEn : Bool := false
  evLgn : Nat := 0
  evCons : DWord := 0
  evLost : Word := 0
  evSeq : Word := 0
  scrub : Byte := 24
  cethr : Half := 16
  dual : Word := 0x00030064
  repthr : BitVec 14 := 64
  replace : Bool := false
  reason : BitVec 3 := 0
  edges : BitVec 24 := 0
  fences : Vector Fence 16 := Vector.replicate 16 {}
  wishes : List FenceWish := []
  /-- Retired tiles, and tiles chosen while held (R505, R506), by tile id. -/
  retired : List Nat := []
  retirePend : List Nat := []
  ssns : List (Nat × Word) := []
  lostOf : List Nat := []
  /-- Events whose write waits for a snoop or for a page of the ring, in order (R412, R476). -/
  owed : List ErrEvent := []
  /-- Corrections of a source not yet reported, and the cycle of its last CE event (R503). -/
  ceSince : List (Nat × Nat × Nat) := []
  /-- Corrections in tiles' local stores, as (tile, cycle) (R506). -/
  ceTile : List (Nat × Nat) := []
  /-- Divergences of tiles, as (tile, cycle) (R497). -/
  divCount : List (Nat × Nat) := []
  testing : List Nat := []
  unread : Bool := false
  msix0At : Nat := 0
  /-- Pairs of primary and twin under self-test after a divergence (R497). -/
  diverged : List (Nat × Nat) := []
  deriving DecidableEq, Repr

/-- An SPDM session (R517). -/
structure Session where
  id : Nat
  requester : Option Wide
  deriving DecidableEq, Repr

/-- Standby states (CRN_FW_SBSTAT). -/
inductive SbState where
  | reset
  | booting
  | ready
  | refused
  deriving DecidableEq, Repr

/-- Handover phases (Table 21-5). -/
inductive HoPhase where
  | idle
  | switched
  | committed
  | rolledBack
  deriving DecidableEq, Repr

/-- Firmware state (Tables 21-6 and 21-7). -/
structure Fw where
  /-- The active complex: 0 Crown A, 1 Crown B. -/
  act : Nat := 0
  sb : SbState := .reset
  sbReason : Byte := 0
  img : BitVec 16 := 0
  booting : Option Nat := none
  phase : HoPhase := .idle
  hang : Bool := false
  table : BitVec 16 := 0
  switchedAt : Nat := 0
  lastBeat : Nat := 0
  watch : Bool := false
  /-- Writes to crown space of the provisional complex, in order: (address, bytes) (R523). -/
  heldWrites : List (Nat × List Byte) := []
  arb : Option (BitVec 6) := none
  idErr : Bool := false
  idBusy : Bool := false
  idMsg : DWord := 0
  /-- CRN_ID_MSG as the GO of the signature in progress found it (R516). -/
  idJob : DWord := 0
  blocks : Vector Wide 32 := Vector.replicate 32 0
  sessions : List Session := []
  sessionNo : Nat := 0
  pod : Option Wide := none
  -- firmware mailbox, BAR 4 (Table 21-6)
  mbCmd : Byte := 0
  mbArg : DWord := 0
  mbLen : DWord := 0
  mbStatus : Word := 0
  mbBusy : Bool := false
  /-- Commands written and not yet served, with their argument bytes, in order (R521). -/
  mbQueue : List (Nat × List Byte) := []
  info : List Byte := []
  versions : Vector (Half × Half × Word) 2 := Vector.replicate 2 (0, 0, 0)
  /-- IMMAJ of each complex's image, the state-table major that it imports (Table 21-1). -/
  imMaj : Vector Half 2 := Vector.replicate 2 0
  /-- EXMAJ and EXMIN of each complex's image, the version of the state table that it exports (Table 21-1). -/
  exVer : Vector (Half × Half) 2 := Vector.replicate 2 (0, 0)
  /-- The digest m of each complex's image (R511). -/
  imgM : Vector Wide 2 := Vector.replicate 2 0
  /-- Doorbell writes latched during a handover, in arrival order: the ring, and the handle of an abort (R524). -/
  doorbells : List (Nat × Option Word) := []
  /-- Rings whose NUDGE came while the merge unit was off, in arrival order (R424, R524). -/
  nudged : List Nat := []
  /-- Keys of the IDE streams of the CXL link, and the streams that are going (R473, R517). -/
  ideKeys : List (Nat × BitVec 256) := []
  ideOn : List Nat := []
  /-- End notices not yet served (R524), by launch. -/
  notices : List Nat := []
  /-- The supervisor image that the firmware keeps in the top 4 KiB of every ready tile (R54, R364). -/
  supImage : List Byte := []
  /-- Crown A's image was refused: only INFO and STAGE are served (R530). -/
  recovery : Bool := false
  /-- Answers of the DOE mailbox and the raised MSI-X vectors, in order: what the host has been sent. -/
  replies : List (Nat × List Byte) := []
  deriving DecidableEq, Repr

/-- Bring-up, Dial and power (Table 22-2). -/
structure Bu where
  ready : Word := 0
  failed : Word := 0
  dial : DWord := 0
  dialAcc : Nat := 0
  /-- The cycle in which the present tick began. -/
  tickAt : Nat := 0
  cap : DWord := 0
  adj : Word := 0
  /-- The rate in force since the last tick (R537). -/
  rate : Word := 0
  budget : BitVec 14 := 7200
  base : BitVec 14 := 1302
  tile : Half := 36
  ttrip : Byte := 100
  temps : Vector Byte 16 := Vector.replicate 16 0
  ppsOut : Nat := 0
  /-- The Dial as this cycle's readers see it, where a step has moved it within the cycle (R536, R537). -/
  dialWas : Option DWord := none
  tripped : List Nat := []
  unpowered : List Nat := []
  /-- MSI-X vectors raised: how often vector 0 and vector 1. -/
  msix0 : Nat := 0
  msix1 : Nat := 0
  heldInReset : Bool := false
  deriving DecidableEq, Repr

/-- How far an element of a layout command has got (R331, R335). -/
inductive ElemState where
  | waiting
  /-- Its source has been read, and it is still to be written. -/
  | read (bs : List (Byte × Bool))
  | written
  | failed (status : Byte) (destSide : Bool)
  | cancelled
  deriving DecidableEq, Repr

/-- A layout command in its engine (R321–R336). -/
structure LayoutCmd where
  tile : Nat
  launch : Option Nat
  admitted : Nat
  dmw : BitVec 128
  shape : List Byte
  src : FarDest
  dst : Option FarDest
  blk : Nat
  p : Nat
  x0 : Nat
  y0 : Nat
  wd : Nat
  base : Nat
  cc : Nat
  cls : Nat
  /-- Issuer owners of the source and of the destination access (R406). -/
  issuer : BitVec 16
  dissuer : BitVec 16 := 0
  /-- Elements that are no longer waiting, by number (R331). -/
  elems : List (Nat × ElemState)
  after : List Nat
  /-- In a DUAL launch, the number of the egress message that must have been compared first (R491). -/
  msg : Nat := 0
  deriving DecidableEq, Repr

/-- One layout engine (R330). -/
structure Engine where
  cmds : List LayoutCmd := []
  /-- Commands of DUAL launches that have issued and not yet entered the queue, in order of issue (R337). -/
  dualQ : List LayoutCmd := []
  lastAdmitted : Option Nat := none
  admitAt : Nat := 0
  /-- The waiting tile that the engine has admitted, and in which cycle (R330). -/
  grant : Option (Nat × Nat) := none
  deriving DecidableEq, Repr

end Sys2Proof.Machine
end

