-- ==== Sys2Proof/Machine/Keccak.lean ====
section
/-! DEFINITION. SHAKE256 of FIPS 202 (R369): the permutation, the sponge at rate 136 with domain suffix 0x1F, the
extension of a measurement block (R370), and KMAC256 of NIST SP 800-185 (R460). -/

namespace Sys2Proof.Machine

/-- The 64 bytes of a wide value. -/
def toBytes64 (w : Wide) : List Byte := (List.range 64).map fun i => BitVec.ofNat 8 (w.toNat >>> (8 * i))

/-- The wide value of 64 bytes. -/
def ofBytes64 (bs : List Byte) : Wide := BitVec.ofNat 512 (bs.foldr (fun b n => b.toNat + 256 * n) 0)

/-- Lane (x, y) of the state. -/
def kLane (a : List DWord) (x y : Nat) : DWord := a.getD (x % 5 + 5 * (y % 5)) 0

/-- A state from a function of (x, y). -/
def kBuild (f : Nat → Nat → DWord) : List DWord := (List.range 25).map fun i => f (i % 5) (i / 5)

/-- Rotation offsets of rho, by x + 5y. -/
def rhoOff : List Nat := [0, 1, 62, 28, 27, 36, 44, 6, 55, 20, 3, 10, 43, 25, 39, 41, 45, 15, 21, 8, 18, 2, 61, 56, 14]

/-- Round constants of iota. -/
def iotaRc : List DWord :=
  [0x0000000000000001, 0x0000000000008082, 0x800000000000808A, 0x8000000080008000, 0x000000000000808B, 0x0000000080000001,
   0x8000000080008081, 0x8000000000008009, 0x000000000000008A, 0x0000000000000088, 0x0000000080008009, 0x000000008000000A]
  ++ [0x000000008000808B, 0x800000000000008B, 0x8000000000008089, 0x8000000000008003, 0x8000000000008002,
   0x8000000000000080, 0x000000000000800A, 0x800000008000000A, 0x8000000080008081, 0x8000000000008080,
   0x0000000080000001, 0x8000000080008008]

/-- One round. -/
def kRound (a : List DWord) (rc : DWord) : List DWord :=
  let c := fun x => kLane a x 0 ^^^ kLane a x 1 ^^^ kLane a x 2 ^^^ kLane a x 3 ^^^ kLane a x 4
  let d := (List.range 5).map fun x => c ((x + 4) % 5) ^^^ (c ((x + 1) % 5)).rotateLeft 1
  let t := kBuild fun x y => kLane a x y ^^^ d.getD x 0
  let b := kBuild fun x y =>
    let sx := (x + 3 * y) % 5
    (kLane t sx x).rotateLeft (rhoOff.getD (sx + 5 * x) 0)
  let e := kBuild fun x y => kLane b x y ^^^ (~~~(kLane b (x + 1) y) &&& kLane b (x + 2) y)
  (e.headD 0 ^^^ rc) :: e.drop 1

/-- The permutation of 24 rounds. -/
def keccakF (a : List DWord) : List DWord := iotaRc.foldl kRound a

/-- A byte into position i of the state. -/
def kXor (a : List DWord) (i : Nat) (b : Byte) : List DWord :=
  a.set (i / 8) (a.getD (i / 8) 0 ^^^ (b.setWidth 64 <<< (8 * (i % 8))))

/-- One byte absorbed at a fill; a full block is permuted. -/
def kAbsorb (st : List DWord × Nat) (b : Byte) : List DWord × Nat :=
  let a := kXor st.1 st.2 b
  if st.2 + 1 = 136 then (keccakF a, 0) else (a, st.2 + 1)

/-- Padding: a domain suffix, and the last bit of the block. -/
def kPadBy (suffix : Byte) (st : List DWord × Nat) : List DWord := keccakF (kXor (kXor st.1 st.2 suffix) 135 0x80)

/-- Padding of SHAKE256: suffix 0x1F. -/
def kPad (st : List DWord × Nat) : List DWord := kPadBy 0x1F st

/-- The rate's bytes of a state. -/
def kBlock (a : List DWord) : List Byte :=
  (List.range 136).map fun i => BitVec.ofNat 8 ((a.getD (i / 8) 0).toNat >>> (8 * (i % 8)))

/-- The empty state. -/
def kZero : List DWord := List.replicate 25 0

/-- The first 64 bytes of SHAKE256 of a message. -/
def shake512 (m : List Byte) : List Byte := (kBlock (kPad (m.foldl kAbsorb (kZero, 0)))).take 64

/-- A measurement block extended by 64 bytes (R370). -/
def extendBlock (old : Wide) (m : List Byte) : Wide := ofBytes64 (shake512 (toBytes64 old ++ m.take 64))

/-! ### KMAC256 of NIST SP 800-185 (R460) -/

/-- `left_encode` of a number below 65,536. PRESUMED: SP 800-185, which R13 makes part of the manual. -/
def leftEncode (x : Nat) : List Byte :=
  if x < 256 then [1, BitVec.ofNat 8 x] else [2, BitVec.ofNat 8 (x / 256), BitVec.ofNat 8 x]

/-- `encode_string` of bytes. -/
def encodeString (bs : List Byte) : List Byte := leftEncode (8 * bs.length) ++ bs

/-- `bytepad` to the rate of 136 bytes. -/
def bytepad (bs : List Byte) : List Byte :=
  let l := leftEncode 136 ++ bs
  l ++ List.replicate ((136 - l.length % 136) % 136) 0

/-- The first `n` bytes, at most 136, of KMAC256 with a key, a message and a customisation string, for an output length of
`n` bytes below 32: cSHAKE256 with the function name KMAC, its suffix 0x04. -/
def kmacBytes (n : Nat) (key msg custom : List Byte) : List Byte :=
  let head := bytepad (encodeString [0x4B, 0x4D, 0x41, 0x43] ++ encodeString custom)
  let body := bytepad (encodeString key) ++ msg ++ [BitVec.ofNat 8 (8 * n), 1]
  (kBlock (kPadBy 0x04 ((head ++ body).foldl kAbsorb (kZero, 0)))).take n

/-- The 128-bit tag of a message under a fabric key, with the customisation string HVN160 (R460). -/
def kmac (key : BitVec 256) (msg : List Byte) : BitVec 128 :=
  let bytes := (List.range 32).map fun i => BitVec.ofNat 8 (key.toNat >>> (8 * i))
  BitVec.ofNat 128 ((kmacBytes 16 bytes msg [0x48, 0x56, 0x4E, 0x31, 0x36, 0x30]).foldr (fun b n => b.toNat + 256 * n) 0)

end Sys2Proof.Machine
end

