-- ==== Sys2Proof/Machine/State.lean ====
section
/-! DEFINITION. The state of the module, its reset, and the reasons a step can stop. -/

namespace Sys2Proof.Machine

/-- Why the machine stops. -/
inductive Fault where
  /-- Raised by `step` and `exec` while the crown holds the whole module in reset after its PLL lost lock: the
  specification gives the module no further step until power is cycled (R535). Safe: nothing runs in the hardware. -/
  | heldInReset
  deriving DecidableEq, Repr

/-- Why an instruction has no meaning. -/
inductive Refusal where
  /-- An instruction the model gives no meaning yet, by its mnemonic. Safe. -/
  | notModelled (mnemonic : String)
  deriving DecidableEq, Repr

/-- What comes to the module from its asynchronous agents and from outside, at a cycle. -/
inductive Input where
  /-- A step of the opcode table. -/
  | event (i : Instr)
  /-- The host, or a device behind it, writes bytes of its own memory at a host physical address. -/
  | hostWrite (addr : Nat) (bytes : List Byte)
  /-- The host writes `n` bytes of value `v` at an offset of BAR 0, 2 or 4 (R474). -/
  | barWrite (bar off n : Nat) (v : Nat)
  /-- The crown firmware takes up a supervisor image and puts it into every tile (R54, R364). -/
  | supervisorImage (image : List Byte)
  /-- Power is cycled (R527, R535). -/
  | powerCycle
  /-- The crown firmware writes a message to the supervisor of a tile (source 0), or requests a debug stop (source 2)
  (Table 15-1). -/
  | interrupt (t source : Nat)
  /-- The memory that holds a launch's context blocks is written: bytes at an offset of the block of a linear index. -/
  | contextWrite (launch tlin off : Nat) (bytes : List Byte)
  /-- The supervisor supplied with the module serves the entry of a tile (R407); where no image of one has been given. -/
  | supervisor (t : Nat)
  /-- The firmware of the complex that has become active in a handover imports the state table (R519, R520). -/
  | importTable
  /-- The firmware of the active complex exports its state table to an offset of crown SRAM: minor version, and the
  sections (ID, REQUIRED, SVER, bytes), which the firmware defines (R519). -/
  | exportTable (off : BitVec 16) (sections : List (Nat × Bool × Nat × List Byte))
  /-- The SRAM self-test of a die that is starting finds tiles that fail, by bit of its retirement map (R529). -/
  | tilesFail (d : Nat) (bad : List Nat)
  /-- Bytes of the memory of another device of the pod change, at an address of that device (R456). -/
  | deviceWrite (dev addr : Nat) (bytes : List Byte)
  /-- From now on another device answers accesses of this module with a status; OK from then on where it is 0 (R456). -/
  | deviceStatus (dev : Nat) (status : Byte)
  /-- The CXL link comes up or goes down (R502). -/
  | cxlLink (up : Bool)
  /-- The crown firmware gives an owner's context area in HBM room for a number of contexts (R443). -/
  | contextArea (owner : BitVec 16) (contexts : Nat)
  /-- The router of another device confirms the answer to one of its atomics (R418). -/
  | fabricConfirm (src : Nat) (seqNo : Word)
  /-- A verified flit of a collective arrives from another device (R460, R467, R471, R472). -/
  | collMessage (dev group : Nat) (m : CollMsg)
  deriving DecidableEq, Repr

/-- The module. -/
structure State where
  /-- The TCLK cycle, counted from reset (R6, R534). -/
  clk : Nat := 0
  /-- What the agents whose timing the specification leaves open do, and when: the earliest first. -/
  agenda : List (Nat × Input) := []
  /-- The tile whose bundle issues (a tile id of R9; crown tile i of complex k is 0x40000 + 32k + i). -/
  cur : Nat := 0x40000
  /-- Counter of free values. -/
  free : Nat := 0
  tiles : List (Nat × Tile) := []
  launches : List (Nat × Launch) := []
  accepted : Nat := 0
  placeCount : Nat := 0
  objects : List CodeObj := []
  /-- How many contexts an owner's context area in HBM has room for (R443), by owner; an owner not listed has room for all. -/
  ctxAreas : List (Nat × Nat) := []
  engines : List (Nat × Engine) := []
  /-- Accesses of fenced tiles that had passed the boundary and wait for a page: they are still performed at their home, and their
  replies dropped (R412, R499). By tile. -/
  orphans : List (Nat × FarReq) := []
  -- memories (R398, R399, R401, R466); `host` is the memory behind the CXL port
  bank : Memory := []
  bankPoison : List Nat := []
  hbm : Vector Memory 16 := Vector.replicate 16 []
  hbmPoison : Vector (List Nat) 16 := Vector.replicate 16 []
  csram : Memory := []
  csramPoison : List Nat := []
  rsram : Memory := []
  rsramPoison : List Nat := []
  host : Memory := []
  /-- The memory of the pod's other devices, as far as this module sees it: the byte at an address of device d stands at
  d × 2^52 + the address (R456). -/
  pod : Memory := []
  /-- Devices that answer with a status other than OK. -/
  podDown : List (Nat × Byte) := []
  bankOwner : List (Nat × BitVec 16) := []
  /-- What the entries of the bank-owner tables that have been written in this cycle held before it (R400). -/
  bankOwnerWas : List (Nat × BitVec 16) := []
  -- crown front end (Table 18-8)
  feCtrl : Word := 0
  schAge : Word := 1000000
  schSlice : Word := 0
  schReserve : Word := 10000
  schQslice : Word := 0x0A40
  rings : List (Nat × Ring) := []
  queues : List (Nat × List DWord) := []
  /-- What `enq` has appended and is not yet visible: the cycle from which it is, the queue, the word (R155, R372). -/
  enqueued : List (Nat × Nat × DWord) := []
  serveQueue : Nat := 0
  servePkts : Nat := 0
  serveSince : Nat := 0
  /-- The last ring that contributed to each logical queue's turn (R428). -/
  turns : List (Nat × Nat) := []
  xl : Xl := {}
  br : Bridge := {}
  rel : Rel := {}
  fw : Fw := {}
  bu : Bu := {}
  deriving DecidableEq, Repr

/-- The device identity public key: 1,793 bytes (R516). -/
def idPub : List Byte := (List.range 1793).map Config.idPubByte

/-- The anti-rollback counter (R512): fuse word 2 lane 0 until it has been burnt. -/
def arbAt (arb : Option (BitVec 6)) : BitVec 6 := arb.getD ((Config.fuse 2).setWidth 6)

/-- Fuse word i of a part whose counter has been burnt to `arb` (R369, R512, R516). -/
def fuseAt (arb : Option (BitVec 6)) (i : Nat) : Wide :=
  if i = 2 then (arbAt arb).setWidth 512 else if i = 1 then ofBytes64 (shake512 idPub) else Config.fuse i

/-- Measurement blocks at reset: zero, and blocks 0 and 2 extended by the hashes of the boot ROM and of the fuse words
(R370, R513). -/
def resetBlocks (arb : Option (BitVec 6)) : Vector Wide 32 :=
  let z : Vector Wide 32 := Vector.replicate 32 0
  let fuses := (toBytes64 (fuseAt arb 0)) ++ toBytes64 (fuseAt arb 1) ++ toBytes64 (fuseAt arb 2)
  (z.setIfInBounds 0 (extendBlock 0 (shake512 Config.bootRom))).setIfInBounds 2 (extendBlock 0 (shake512 fuses))

/-- The state right after a module reset: Crown A is active and its boot ROM runs (R509, R527); every register has the
value its table gives. -/
def State.reset : State := { fw := { blocks := resetBlocks none } }

end Sys2Proof.Machine
end

