-- ==== Sys2Proof/Machine/Ops.lean ====
section
/-! DEFINITION. Named operations over memories, tables and tiles, taking a trap or an interrupt, and the return.

The rules cited are those of the specification. -/

namespace Sys2Proof.Machine

/-! ### Tables with rising keys -/

/-- The entry of key `k`, or `d`. -/
def tabGet {α : Type} (d : α) : List (Nat × α) → Nat → α
  | [], _ => d
  | (j, a) :: l, k => if j = k then a else tabGet d l k

/-- `l` with key `k` holding `a`, keys kept rising. -/
def tabSet {α : Type} : List (Nat × α) → Nat → α → List (Nat × α)
  | [], k, a => [(k, a)]
  | (j, b) :: l, k, a =>
    if k < j then (k, a) :: (j, b) :: l
    else if j = k then (k, a) :: l
    else (j, b) :: tabSet l k a

/-! ### Memories (R2) -/

/-- The canonical form of a memory: addresses strictly rising, no listed byte 0. -/
def Memory.wfFrom : Nat → Memory → Bool
  | _, [] => true
  | lo, (a, b) :: m => decide (lo ≤ a) && decide (b ≠ 0) && Memory.wfFrom (a + 1) m

/-- The canonical form of a memory. -/
def Memory.wf (m : Memory) : Bool := Memory.wfFrom 0 m

/-- The byte at `a`; an unlisted address reads 0. -/
def Memory.get : Memory → Nat → Byte
  | [], _ => 0
  | (j, b) :: m, a => if j = a then b else Memory.get m a

/-- The byte at `a` listed as `b`. -/
def Memory.list : Memory → Nat → Byte → Memory
  | [], a, b => [(a, b)]
  | (j, c) :: m, a, b =>
    if a < j then (a, b) :: (j, c) :: m
    else if j = a then (a, b) :: m
    else (j, c) :: Memory.list m a b

/-- The byte at `a` becomes `b`; the canonical form is kept. -/
def Memory.set (m : Memory) (a : Nat) (b : Byte) : Memory :=
  if b = 0 then m.filter fun c => decide (c.1 ≠ a) else m.list a b

/-- `n` bytes from `a` upward. -/
def Memory.read (m : Memory) (a : Nat) : Nat → List Byte
  | 0 => []
  | n + 1 => m.get a :: Memory.read m (a + 1) n

/-- The bytes `bs` from `a` upward. -/
def Memory.write (m : Memory) (a : Nat) : List Byte → Memory
  | [] => m
  | b :: bs => Memory.write (m.set a b) (a + 1) bs

/-- The little-endian value of bytes (R2). -/
def ofBytes : List Byte → Nat
  | [] => 0
  | b :: bs => b.toNat + 256 * ofBytes bs

/-- The `n` low bytes of a value, little-endian (R2). -/
def toBytes : Nat → Nat → List Byte
  | 0, _ => []
  | n + 1, x => BitVec.ofNat 8 x :: toBytes n (x / 256)

/-- `n` bytes at `a` as a little-endian number: `mem(a, n)` of R8. -/
def Memory.num (m : Memory) (a n : Nat) : Nat := ofBytes (m.read a n)

/-- Bits [hi:lo] of a number (R1, R8). -/
def bits (x hi lo : Nat) : Nat := (x / 2 ^ lo) % 2 ^ (hi + 1 - lo)

/-- The low `n` bits of a number as a two's-complement integer: `sext` of R8. -/
def sextNat (x n : Nat) : Int :=
  if x % 2 ^ n < 2 ^ (n - 1) then (x % 2 ^ n : Nat) else ((x % 2 ^ n : Nat) : Int) - (2 ^ n : Nat)

/-- Bit `i` of a number. -/
def bit (x i : Nat) : Bool := (x / 2 ^ i) % 2 = 1

/-- A number of 0 or 1. -/
def ofBool (b : Bool) : Nat := if b then 1 else 0

/-- `0, 1, …, n − 1`. -/
def upTo : Nat → List Nat
  | 0 => []
  | n + 1 => upTo n ++ [n]

/-- Insertion into a rising list without repeats. -/
def insertNat (a : Nat) : List Nat → List Nat
  | [] => [a]
  | b :: l => if a < b then a :: b :: l else if a = b then b :: l else b :: insertNat a l

/-- Removes one occurrence. -/
def removeOne (a : Nat) : List Nat → List Nat
  | [] => []
  | b :: l => if a = b then l else b :: removeOne a l

/-- Element `i`, or a default. -/
def nth {α : Type} (d : α) (l : List α) (i : Nat) : α := l.getD i d

/-- `l` with element `i` changed. -/
def modNth {α : Type} (f : α → α) : List α → Nat → List α
  | [], _ => []
  | a :: l, 0 => f a :: l
  | a :: l, n + 1 => a :: modNth f l n

/-- A vector's element at a number, or a default beyond it. -/
def vget {α : Type} {n : Nat} (d : α) (v : Vector α n) (i : Nat) : α := v[i]?.getD d

/-- A vector with the element at a number set; beyond it unchanged. -/
def vset {α : Type} {n : Nat} (v : Vector α n) (i : Nat) (a : α) : Vector α n := v.setIfInBounds i a

/-! ### Wide values (R2) -/

/-- Lane `i` of a wide value (R2, R8). -/
def lane (w : Wide) (i : Nat) : Word := BitVec.ofNat 32 (w.toNat >>> (32 * i))

/-- The wide value of sixteen words, lane 0 first. -/
def ofLanes : List Word → Nat
  | [] => 0
  | x :: xs => x.toNat + 2 ^ 32 * ofLanes xs

/-- The wide value with lane i = `f i`. -/
def mkWide (f : Nat → Word) : Wide := BitVec.ofNat 512 (ofLanes ((upTo 16).map f))

/-- A narrow value in lane 0 (R17, R96). -/
def wideOf (x : Word) : Wide := x.setWidth 512

/-- Lane 0 of a wide value (R96). -/
def narrowOf (w : Wide) : Word := w.setWidth 32

/-- The 64 bytes of a wide value. -/
def wideBytes (w : Wide) : List Byte := toBytes 64 w.toNat

/-! ### Tile ids (R9, R10) -/

/-- The die of a tile id. -/
def tileDie (t : Nat) : Nat := bits t 17 14
/-- The die-relative row. -/
def tileRow (t : Nat) : Nat := bits t 13 7
/-- The die-relative column. -/
def tileCol (t : Nat) : Nat := bits t 6 0
/-- Global column (R10). -/
def tileGx (t : Nat) : Nat := 128 * (tileDie t % 4) + tileCol t
/-- Global row (R10). -/
def tileGy (t : Nat) : Nat := 80 * (tileDie t / 4) + tileRow t
/-- The id names a compute tile (R9). -/
def isTile (t : Nat) : Bool := decide (t < 0x40000) && decide (tileRow t < 80)
/-- The id of the tile at global (gx, gy) (R9, R10). -/
def tileAt (gx gy : Nat) : Nat :=
  (gx / 128 + 4 * (gy / 80)) * 16384 + (gy % 80) * 128 + gx % 128
/-- The key of a crown tile (R509). -/
def isCrown (t : Nat) : Bool := decide (0x40000 ≤ t)
/-- The complex of a crown tile: 0 Crown A, 1 Crown B. -/
def crownComplex (t : Nat) : Nat := (t - 0x40000) / 32

/-- Absolute difference. -/
def dist (a b : Nat) : Nat := (a - b) + (b - a)

/-- Mesh hops between two tiles (R450). -/
def hops (a b : Nat) : Nat := dist (tileGx a) (tileGx b) + dist (tileGy a) (tileGy b)

/-- Die edges crossed between two dies (R450). -/
def dieEdges (a b : Nat) : Nat := dist (a % 4) (b % 4) + dist (a / 4) (b / 4)

/-- The smallest k with 2^k ≥ x (R174). -/
def lg (x : Nat) : Nat := ((upTo 20).find? fun k => decide (x ≤ 2 ^ k)).getD 20

/-- One-way latency of the escapement tree over the rectangle (ox, oy, w, h) (R174). -/
def treeG (ox oy w h : Nat) : Nat :=
  6 + 2 * (lg w + lg h) +
    38 * (((ox + w - 1) / 128 - ox / 128) + ((oy + h - 1) / 80 - oy / 80))

/-! ### Reaching tiles and launches -/

/-- The tile of a key. -/
def State.tile (s : State) (k : Nat) : Tile := tabGet {} s.tiles k
/-- The state with a tile replaced. -/
def State.setTile (s : State) (k : Nat) (t : Tile) : State := { s with tiles := tabSet s.tiles k t }
/-- The state with a tile changed. -/
def State.modTile (s : State) (k : Nat) (f : Tile → Tile) : State := s.setTile k (f (s.tile k))
/-- The state with each of the tiles changed. -/
def State.modTiles (s : State) (ks : List Nat) (f : Tile → Tile) : State :=
  ks.foldl (fun s k => s.modTile k f) s
/-- The launch of a number, if there is one. -/
def State.launch? (s : State) (l : Nat) : Option Launch := s.launches.lookup l
/-- The state with a launch replaced. -/
def State.setLaunch (s : State) (l : Nat) (x : Launch) : State := { s with launches := tabSet s.launches l x }
/-- The state with a launch changed, if it exists. -/
def State.modLaunch (s : State) (l : Nat) (f : Launch → Launch) : State :=
  match s.launch? l with
  | none => s
  | some x => s.setLaunch l (f x)

/-- The tile keys of a rectangle, row by row (R49). -/
def rectTiles (ox oy w h : Nat) : List Nat :=
  (upTo h).flatMap fun dy => (upTo w).map fun dx => tileAt (ox + dx) (oy + dy)

/-- The tiles of a launch's primary rectangle, by `tlin` (R50). -/
def Launch.tiles (l : Launch) : List Nat := rectTiles l.ox l.oy l.w l.h
/-- The tiles of the twin rectangle of a DUAL launch (R488). -/
def Launch.twins (l : Launch) : List Nat := if l.dual then rectTiles l.tox l.toy l.w l.h else []
/-- G of a launch (R174); of a DUAL launch the greater of its two rectangles', since both are released in one cycle
(R493). -/
def Launch.latency (l : Launch) : Nat :=
  if l.dual then max (treeG l.ox l.oy l.w l.h) (treeG l.tox l.toy l.w l.h) else treeG l.ox l.oy l.w l.h
/-- Every tile that the launch holds. -/
def Launch.allTiles (l : Launch) : List Nat := l.tiles ++ l.twins
/-- The tile of a linear index. -/
def Launch.tileOf (l : Launch) (tlin : Nat) : Nat := tileAt (l.ox + tlin % l.w) (l.oy + tlin / l.w)
/-- Its twin. -/
def Launch.twinOf (l : Launch) (tlin : Nat) : Nat := tileAt (l.tox + tlin % l.w) (l.toy + tlin / l.w)
/-- The worker count T (R50). -/
def Launch.workers (l : Launch) : Nat := l.w * (l.h - l.srows)
/-- The launch holds a rectangle. -/
def Launch.holds (l : Launch) : Bool :=
  match l.state with
  | .placed | .running | .swapping | .restoring => true
  | _ => false

/-! ### Registers of a tile (R19, R20, R29) -/

/-- Supervisor mode (R35). -/
def Tile.sup (t : Tile) : Bool := t.tstat.getLsbD 0
/-- `g` register i; `g0` reads as 1 (R20). -/
def Tile.guard (t : Tile) (i : Nat) : Bool := decide (i = 0) || t.g.getLsbD i
/-- A write of a guard; one of `g0` has no effect (R20). -/
def Tile.setGuard (t : Tile) (i : Nat) (b : Bool) : Tile :=
  if i = 0 then t
  else { t with g := if b then t.g ||| ((1 : Byte) <<< i) else t.g &&& ~~~((1 : Byte) <<< i) }
/-- Register `x`i. -/
def Tile.getX (t : Tile) (i : Nat) : Word := vget 0 t.x i
/-- A write of `x`i. -/
def Tile.setX (t : Tile) (i : Nat) (a : Word) : Tile := { t with x := vset t.x i a }
/-- Register `v`i. -/
def Tile.getV (t : Tile) (i : Nat) : Wide := vget 0 t.v i
/-- A write of `v`i. -/
def Tile.setV (t : Tile) (i : Nat) (a : Wide) : Tile := { t with v := vset t.v i a }
/-- Operand latch p of the socket of an index (R15). -/
def Tile.latch (t : Tile) (sock p : Nat) : Wide := vget 0 t.latches (4 * sock + p)
/-- A narrow operand latch. -/
def Tile.latchN (t : Tile) (sock p : Nat) : Word := narrowOf (t.latch sock p)
/-- A write of an operand latch. -/
def Tile.setLatch (t : Tile) (sock p : Nat) (a : Wide) : Tile := { t with latches := vset t.latches (4 * sock + p) a }
/-- The results of a socket. -/
def Tile.sock (t : Tile) (i : Nat) : SockQ := vget {} t.socks i
/-- The results of a socket replaced. -/
def Tile.setSock (t : Tile) (i : Nat) (q : SockQ) : Tile := { t with socks := vset t.socks i q }
/-- A loop-stack entry (R26). -/
def Tile.loop (t : Tile) (i : Nat) : LoopEntry := vget {} t.loops i
/-- A loop-stack entry replaced. -/
def Tile.setLoop (t : Tile) (i : Nat) (e : LoopEntry) : Tile := { t with loops := vset t.loops i e }
/-- A loop entry takes a value of LSA (R26). -/
def Tile.writeLsa (t : Tile) (i v : Nat) : Tile :=
  t.setLoop i { t.loop i with
    start := BitVec.ofNat 12 v, stop := BitVec.ofNat 12 (v / 2 ^ 12), count := BitVec.ofNat 32 (v / 2 ^ 32), buf := [] }
/-- The control registers that are the loop stack: LSTK, LSA0–5, LSI0–5 (Table 1-5). -/
def cregLoop (n : Nat) : Bool := n = 0x0B || decide (0x10 ≤ n ∧ n ≤ 0x1B)
/-- One of them takes a value (R26, R169). -/
def Tile.writeLoopReg (t : Tile) (n v : Nat) : Tile :=
  if n = 0x0B then { t with depth := v % 8 }
  else if n ≤ 0x15 then t.writeLsa (n - 0x10) v
  else t.setLoop (n - 0x16) { t.loop (n - 0x16) with index := BitVec.ofNat 32 v }
/-- The context id of TSTAT (R30). -/
def Tile.cid (t : Tile) : BitVec 16 := t.tstat.extractLsb' 16 16
/-- GAPREM of TSTAT (R30). -/
def Tile.gaprem (t : Tile) : Nat := bits t.tstat.toNat 15 8
/-- TSTAT of its fields (R30). -/
def mkTstat (cid : BitVec 16) (gaprem : Nat) (intp sup : Bool) : Word :=
  BitVec.ofNat 32 (cid.toNat * 65536 + (min gaprem 255) * 256 + 4 * ofBool intp + ofBool sup)
/-- Socket of an index is data-locked (R30); in supervisor mode every socket is free-running (R178). -/
def Tile.locked (t : Tile) (i : Nat) : Bool := !t.sup && t.tctl.getLsbD i
/-- The early-read checker is on (R30). -/
def Tile.erchk (t : Tile) : Bool := t.tctl.getLsbD 16
/-- The tile is set to issue bundles: in the supervisor, or running a program that has not been switched out (R62, R171,
R364, R366). -/
def Tile.mayIssue (t : Tile) : Bool :=
  !t.dead && !t.fenced && (t.sup || (!t.saved && decide (t.run = .computing)))
/-- CIR with a bit set (R30). -/
def Tile.setCir (t : Tile) (i : Nat) : Tile := { t with cir := t.cir ||| ((1 : Word) <<< i) }

/-! ### The local store (R27, R281, R283, R394) -/

/-- Size of the local store. -/
def lsSize : Nat := 0x18000
/-- First supervisor address (R27). -/
def supBase : Nat := 0x17000

/-- `n` bytes of the local store. -/
def Tile.lsRead (t : Tile) (a n : Nat) : List Byte := t.ls.read a n
/-- `mem(a, n)` of the local store. -/
def Tile.mem (t : Tile) (a n : Nat) : Nat := t.ls.num a n
/-- The aligned words that a range touches. -/
def wordsOf (a n : Nat) : List Nat :=
  if n = 0 then [] else (upTo ((a + n - 1) / 4 - a / 4 + 1)).map fun i => (a / 4 + i) * 4
/-- Some word of the range has a poison tag (R281). -/
def Tile.poisoned (t : Tile) (a n : Nat) : Bool := (wordsOf a n).any fun w => t.lsPoison.contains w
/-- Some word of the range has a pending delivery (R283). -/
def Tile.pending (t : Tile) (a n : Nat) : Bool := (wordsOf a n).any fun w => t.lsPending.contains w
/-- The lowest word of the range with a pending delivery. -/
def Tile.firstPending (t : Tile) (a n : Nat) : Option Nat := (wordsOf a n).find? fun w => t.lsPending.contains w
/-- The words that a range covers whole. -/
def wholeWords (a n : Nat) : List Nat := (wordsOf a n).filter fun w => decide (a ≤ w) && decide (w + 4 ≤ a + n)

/-- The byte at `a` as it stood in cycle `cyc`, at most 3 cycles back: writes visible only later are taken away (R394). -/
def Tile.byteAt (t : Tile) (cyc a : Nat) : Byte :=
  match t.recent.find? fun r => decide (cyc < r.1) && decide (r.2.1 = a) with
  | some r => r.2.2.1
  | none => t.ls.get a
/-- `n` bytes at `a` as they stood in cycle `cyc`. -/
def Tile.bytesAt (t : Tile) (cyc a n : Nat) : List Byte := (upTo n).map fun i => t.byteAt cyc (a + i)
/-- `mem(a, n)` as the local store stood in cycle `cyc`. -/
def Tile.memAt (t : Tile) (cyc a n : Nat) : Nat := ofBytes (t.bytesAt cyc a n)

/-- The tag of the word of byte `a` as it stood in cycle `cyc` (R394, R483). -/
def Tile.tagOf (t : Tile) (cyc a : Nat) : Bool :=
  match t.recent.find? fun r => decide (cyc < r.1) && decide (r.2.1 = a) with
  | some r => r.2.2.2
  | none => t.lsPoison.contains (a / 4 * 4)

/-- The log of recent writes, kept for the bundles that fetch may have read before them (R394). -/
def Tile.logWrite (t : Tile) (clk a n : Nat) : List (Nat × Nat × Byte × Bool) :=
  t.recent.filter (fun r => decide (clk < r.1 + 3)) ++
    (upTo n).map fun i => (clk + 1, a + i, t.ls.get (a + i), t.lsPoison.contains ((a + i) / 4 * 4))

/-- The poison tags as they stood at the start of cycle `clk`, the present one. -/
def Tile.tagsAt (t : Tile) (clk : Nat) : List Nat := if t.tagsWas.1 = clk + 1 then t.tagsWas.2 else t.lsPoison
/-- Some word of the range had a poison tag then. -/
def Tile.poisonedAt (t : Tile) (clk a n : Nat) : Bool := (wordsOf a n).any fun w => (t.tagsAt clk).contains w
/-- Some word of the range had a pending delivery at the start of the present cycle (R283). -/
def Tile.pendingAt (t : Tile) (clk a n : Nat) : Bool :=
  t.pending a n || (decide (t.landedIn.1 = clk + 1) && (wordsOf a n).any fun w => t.landedIn.2.contains w)

/-- A write of bytes from a register, visible from the next cycle: it clears the tag of each word that it covers whole
(R281, R483). -/
def Tile.lsWrite (t : Tile) (clk a : Nat) (bs : List Byte) : Tile :=
  { t with
    recent := t.logWrite clk a bs.length
    ls := t.ls.write a bs
    tagsWas := (clk + 1, t.tagsAt clk)
    lsPoison := t.lsPoison.filter fun w => !(wholeWords a bs.length).contains w }

/-- A write of bytes that keeps the tags of the words it touches (R281). -/
def Tile.lsWriteKeep (t : Tile) (clk a : Nat) (bs : List Byte) : Tile :=
  { t with recent := t.logWrite clk a bs.length, ls := t.ls.write a bs }

/-- A landing of bytes with their tags (R279, R483): the tag of each word becomes that of the bytes that cover it. -/
def Tile.lsLand (t : Tile) (clk a : Nat) (bs : List (Byte × Bool)) : Tile :=
  let t' := t.lsWrite clk a (bs.map Prod.fst)
  let bad := ((upTo bs.length).filter fun i => (nth (0, false) bs i).2).map fun i => (a + i) / 4 * 4
  { t' with lsPoison := bad.foldl (fun l w => insertNat w l) t'.lsPoison }

/-- Bytes with the tags of their words. -/
def Tile.lsTagged (t : Tile) (a n : Nat) : List (Byte × Bool) :=
  (upTo n).map fun i => (t.ls.get (a + i), t.lsPoison.contains ((a + i) / 4 * 4))

/-- Bytes with the tags of their words as they stood at the start of cycle `clk`, the present one: what a reader other than
the tile's own bundle finds (R274, R279). -/
def Tile.taggedAt (t : Tile) (clk a n : Nat) : List (Byte × Bool) :=
  (upTo n).map fun i => (t.byteAt clk (a + i), (t.tagsAt clk).contains ((a + i) / 4 * 4))

/-- Marks the words of a range pending (R283). -/
def Tile.mark (t : Tile) (a n : Nat) : Tile := { t with lsPending := (wordsOf a n) ++ t.lsPending }
/-- A landing removes one mark of each word of a range (R283). -/
def Tile.unmark (t : Tile) (clk a n : Nat) : Tile :=
  { t with
    lsPending := (wordsOf a n).foldl (fun l w => removeOne w l) t.lsPending
    landedIn := (clk + 1, wordsOf a n ++ if t.landedIn.1 = clk + 1 then t.landedIn.2 else []) }

/-- The bank of a local-store address (R282). -/
def bankOf (a : Nat) : Nat := bits a 8 6

/-- A read-modify-write's window is open in this cycle (R284). -/
def Rmw.opens (r : Rmw) (clk : Nat) : Bool := decide (r.cyc < clk) && decide (clk ≤ r.cyc + 2)

/-- A read-modify-write window holds the bank of some byte of the range in this cycle (R284). -/
def Tile.rmwHolds (t : Tile) (clk a n : Nat) : Bool :=
  t.rmws.any fun r => r.opens clk && (upTo n).any fun i => decide (bankOf (a + i) = bankOf r.addr)

/-! ### Results (R39, R104–R106, R141) -/

/-- The completion cycle of a result whose operation has no fixed end (R153, R355): it is given its cycle when the
operation ends. -/
def openEnd : Nat := 2 ^ 64

/-- Results of a socket, standing and in flight (R39). -/
def SockQ.size (q : SockQ) : Nat := q.stand.length + q.fly.length

/-- A result that completes stands: in free-running mode it replaces the one that stands (R39). -/
def SockQ.standing (q : SockQ) (locked : Bool) (r : Result) : SockQ :=
  { q with stand := if locked then q.stand ++ [r] else [r] }

/-- A result of an operation triggered in this cycle, due `lat` cycles later (R104). -/
def Tile.result (t : Tile) (sock clk lat : Nat) (wide : Bool) (val : Wide) (flags : BitVec 6 := 0) : Tile :=
  let q := t.sock sock
  { t.setSock sock { q with fly := q.fly ++ [{ due := clk + lat, seq := t.seq, wide, val, flags }] } with
    seq := t.seq + 1 }

/-- A narrow result. -/
def Tile.resultN (t : Tile) (sock clk lat : Nat) (val : Word) : Tile := t.result sock clk lat false (wideOf val)

/-- The results of a socket that complete in this cycle take their places, in trigger order (R105, R106). -/
def SockQ.complete (q : SockQ) (locked : Bool) (clk : Nat) : SockQ :=
  let now := q.fly.filter fun r => decide (r.due ≤ clk)
  now.foldl (fun q r => q.standing locked r)
    { q with fly := q.fly.filter fun r => decide (clk < r.due) }

/-- Gives a value to the result in flight of a given order. -/
def SockQ.fill (q : SockQ) (seq : Nat) (val : Wide) : SockQ :=
  { q with fly := q.fly.map fun r => if r.seq = seq then { r with val } else r }

/-- VSTAT with flags set (R186, R213). -/
def Tile.setFlags (t : Tile) (f : BitVec 6) : Tile := { t with vstat := t.vstat ||| f.setWidth 32 }

/-- The flags set in a cycle so far (R213). -/
def Tile.flagsOf (t : Tile) (clk : Nat) : BitVec 6 := if t.flagsAt.1 = clk then t.flagsAt.2 else 0

/-- RESULT_COMPLETE: results due stand, and set their flags (R104, R186). -/
def Tile.complete (t : Tile) (sock clk : Nat) : Tile :=
  let q := t.sock sock
  let f := (q.fly.filter fun r => decide (r.due ≤ clk)).foldl (fun f r => f ||| r.flags) (0 : BitVec 6)
  { (t.setSock sock (q.complete (t.locked sock) clk)).setFlags f with flagsAt := (clk, t.flagsOf clk ||| f) }

/-! ### Trap causes (R373) -/

/-- Trap causes by name (Table 15-2). -/
inductive Cause where
  | interrupt | ctxSwitch | swtrap | breakpoint
  | illegalBundle | privilege | lsRange | fetchPoison | safepointOverrun | safepointInLoop | resultEmpty
  | illegalCreg | loopStack | loopRange | planRange | syncMode | noLaunch
  | segMiss | addrMode | scopeInvalid
  | lsAlign | ringInvalid | streamCfg | rmwSlot | earlyRead
  | mxOwner | mxBusy | mxUnconfigured | mxShape | mxRange | mxFormat
  | chOperand | farAlign | farPerm | spawnRange | spawnBusy | layoutDmw
  | balOff | balBusy | balState | entropyDual | balRange | balRecord | balIndex
  | kyState | qsFull | qsEmpty
  deriving DecidableEq, Repr

/-- The code of a cause (Table 15-2). -/
def Cause.code : Cause → Nat
  | .interrupt => 0x01 | .ctxSwitch => 0x02 | .swtrap => 0x03 | .breakpoint => 0x04
  | .illegalBundle => 0x08 | .privilege => 0x09 | .lsRange => 0x0A | .fetchPoison => 0x0B
  | .safepointOverrun => 0x0C | .safepointInLoop => 0x0D | .resultEmpty => 0x0E | .illegalCreg => 0x0F
  | .loopStack => 0x10 | .loopRange => 0x11 | .planRange => 0x12 | .syncMode => 0x13
  | .noLaunch => 0x14 | .segMiss => 0x18 | .addrMode => 0x19 | .scopeInvalid => 0x1A
  | .lsAlign => 0x20 | .ringInvalid => 0x21 | .streamCfg => 0x22 | .rmwSlot => 0x23 | .earlyRead => 0x24
  | .mxOwner => 0x28 | .mxBusy => 0x29 | .mxUnconfigured => 0x2A | .mxShape => 0x2B | .mxRange => 0x2C
  | .mxFormat => 0x2D | .chOperand => 0x30 | .farAlign => 0x31 | .farPerm => 0x32 | .spawnRange => 0x33
  | .spawnBusy => 0x34 | .layoutDmw => 0x35 | .balOff => 0x38 | .balBusy => 0x39 | .balState => 0x3A
  | .entropyDual => 0x3B | .balRange => 0x3C | .balRecord => 0x3D | .balIndex => 0x3E
  | .kyState => 0x40 | .qsFull => 0x41 | .qsEmpty => 0x42

/-- A trap that a bundle raises: its cause, TINFO, and whether a format-table entry was read with poison (R36). -/
structure Trap where
  cause : Cause
  info : Nat := 0
  poison : Bool := false
  /-- No rule states TINFO for this cause here: it takes a free value. -/
  open_ : Bool := false
  deriving DecidableEq, Repr

/-- TINFO of a cause of order 6: slot and trigger code, with a detail above (R144, R181). -/
def trapInfo (slot code : Nat) (detail : Nat := 0) : Nat := slot + 256 * code + detail

/-! ### Read-modify-write, rings and `macc` completed (R282, R287, R254) -/

/-- The new word of a read-modify-write, or none when a compare fails (R282). -/
def rmwNew (op : Nat) (old d n : Word) : Option Word :=
  match op with
  | 0x16 => some (old + d)
  | 0x17 => some d
  | 0x18 => if old = d then some n else none
  | 0x19 => some (if d.slt old then d else old)
  | 0x1A => some (if old.slt d then d else old)
  | _ => some (old ||| d)

/-- The word of a read-modify-write with its tag, as the tile's local store holds them. -/
def Tile.rmwRead (t : Tile) (r : Rmw) : Word × Bool := (BitVec.ofNat 32 (t.mem r.addr 4), t.lsPoison.contains r.addr)

/-- RMW_WRITE of one window: the new word is written, and the old value becomes the result (R282, R281). One that a
supervisor entry completes early reads the word then. -/
def Tile.rmwApply (t : Tile) (clk : Nat) (r : Rmw) : Tile :=
  let old := r.old.getD (t.rmwRead r)
  let t := if old.2 then t.setCir 0 else t
  let t := t.setSock 5 ((t.sock 5).fill r.seq (wideOf old.1))
  match rmwNew r.op old.1 r.d r.n with
  | none => t
  | some w => t.lsWriteKeep clk r.addr (toBytes 4 w.toNat)

/-- The windows triggered in a cycle before `c` whose words are still to be written. -/
def Tile.rmwDue (t : Tile) (c : Nat) : List Rmw := t.rmws.filter fun r => decide (r.cyc < c) && !r.written

/-- RMW_WRITE of every such window (R282). A window holds its bank until its cycle is over (R284). -/
def Tile.rmwWrite (t : Tile) (clk c : Nat) : Tile :=
  (t.rmwDue c).foldl (fun t r => t.rmwApply clk r)
    { t with rmws := t.rmws.map fun r => if r.cyc < c then { r with written := true } else r }

/-- The four words of a ring descriptor. -/
def Tile.ringWords (t : Tile) (a : Nat) : Word × Word × Word × Word :=
  (BitVec.ofNat 32 (t.mem a 4), BitVec.ofNat 32 (t.mem (a + 4) 4),
   BitVec.ofNat 32 (t.mem (a + 8) 4), BitVec.ofNat 32 (t.mem (a + 12) 4))

/-- A ring descriptor's words keep R286 for the tile's mode. -/
def ringOk (sup : Bool) (d : Word × Word × Word × Word) : Bool :=
  let w0 := d.1.toNat
  let w1 := d.2.1.toNat
  let lgv := bits w0 20 17
  let n := bits w1 3 0
  let base := bits w0 16 0
  decide (w0 < 2 ^ 21) && decide (w1 < 16) && decide (6 ≤ lgv) && decide (lgv ≤ 14) && decide (n ≤ 8) &&
    decide (base % 2 ^ lgv = 0) && decide (base + 2 ^ (lgv + n) ≤ if sup then lsSize else supBase)

/-- The result of a ring operation and the HEAD or TAIL it leaves, by R287; none when the ring cannot supply. -/
def ringStep (rel : Bool) (k : Nat) (d : Word × Word × Word × Word) : Word × Option Word :=
  let w0 := d.1.toNat
  let lgv := bits w0 20 17
  let n := 2 ^ bits d.2.1.toNat 3 0
  let base := bits w0 16 0
  let head := d.2.2.1
  let tail := d.2.2.2
  let used := (head - tail).toNat
  let slot (q : Word) : Word := BitVec.ofNat 32 (base + (q.toNat % n) * 2 ^ lgv)
  if rel then
    if k = 0 then (slot tail, none)
    else if k ≤ used then (slot tail, some (tail + BitVec.ofNat 32 k))
    else (0xFFFFFFFF, none)
  else
    if k = 0 then (slot head, none)
    else if used + k ≤ n then (slot head, some (head + BitVec.ofNat 32 k))
    else (0xFFFFFFFF, none)

/-- RING_UPDATE of one ring operation: the descriptor is written and the result stands next cycle (R287). -/
def Tile.ringUpdate (t : Tile) (clk : Nat) (r : RingPend) : Tile :=
  let d := r.words.getD (t.ringWords r.addr)
  let res := if ringOk r.sup d then ringStep r.rel r.k d else (0xFFFFFFFF, none)
  let t := if r.bad || (r.words.isNone && t.poisoned r.addr 16) then t.setCir 0 else t
  let t := t.setSock 5 ((t.sock 5).fill r.seq (wideOf res.1))
  match res.2 with
  | none => t
  | some w => t.lsWrite clk (r.addr + if r.rel then 12 else 8) (toBytes 4 w.toNat)

/-- Every ring operation of an earlier cycle takes effect. -/
def Tile.ringUpdates (t : Tile) (clk : Nat) : Tile :=
  let due := t.rings.filter fun r => decide (r.cyc < clk)
  due.foldl (fun t r => t.ringUpdate clk r) { t with rings := t.rings.filter fun r => !decide (r.cyc < clk) }

/-- MSHAPE fields (R30). -/
def mshRows (w : Word) : Nat := bits w.toNat 3 0
/-- Columns − 1. -/
def mshCols (w : Word) : Nat := bits w.toNat 7 4
/-- Element format: true INT32. -/
def mshInt (w : Word) : Bool := w.getLsbD 8
/-- Configured. -/
def mshCfg (w : Word) : Bool := w.getLsbD 9
/-- MSHAPE with DIRTY set or cleared. -/
def mshDirty (w : Word) (b : Bool) : Word := if b then w ||| 0x400 else w &&& ~~~0x400

/-- Element (r, c) of `mi` exists (R252). -/
def elemExists (sh : Word) (r c : Nat) : Bool := decide (r ≤ mshRows sh) && decide (c ≤ mshCols sh)

/-- Element (r, c) of a tile register. -/
def elemGet (m : Vector Word 256) (r c : Nat) : Word := vget 0 m (16 * r + c)
/-- Element (r, c) set. -/
def elemSet (m : Vector Word 256) (r c : Nat) (a : Word) : Vector Word 256 := vset m (16 * r + c) a

/-- The elements that a `macc` writes into its block (R254). -/
def maccApply (sh : Word) (m : Vector Word 256) (a : Macc) : Vector Word 256 :=
  (upTo 16).foldl (fun m i =>
    let r := 4 * a.br + i / 4
    let c := 4 * a.bc + i % 4
    if elemExists sh r c then elemSet m r c (nth 0 a.elems i) else m) m

/-- MACC_WRITE of one `macc` (R254, R32). -/
def Tile.maccWrite (t : Tile) (a : Macc) : Tile :=
  let sh := vget 0 t.mshape a.dst
  { t with
    m := vset t.m a.dst (maccApply sh (vget (Vector.replicate 256 0) t.m a.dst) a)
    mshape := vset t.mshape a.dst (mshDirty sh true) }

/-- Every pending `macc` is written at once: an interrupt in between completes it early (R255). -/
def Tile.maccFlush (t : Tile) : Tile := t.maccs.foldl (fun t a => t.maccWrite a) { t with maccs := [] }

/-! ### Entering the supervisor (R35, R40) and returning (R41) -/

/-- Results finished into the snapshot, with countdowns from `base` (R40). -/
def SockQ.snap (q : SockQ) (base : Nat) : SockQ :=
  { q with fly := q.fly.map fun r =>
      { r with due := if openEnd ≤ r.due then openEnd else r.due - base, flags := 0 } }

/-- The flags of the results in flight, which they set at the snapshot (R186). -/
def Tile.flyFlags (t : Tile) : BitVec 6 :=
  t.socks.toList.foldl (fun f q => q.fly.foldl (fun f r => f ||| r.flags) f) 0

/-- The idle cycles still owed by the last issued bundle (R35). -/
def Tile.owed (t : Tile) (clk : Nat) : Nat := t.gapEnd - clk

/-- The pieces of the snapshot that finish at once: read-modify-write, rings, `macc` (R284, R287, R255). -/
def Tile.finish (t : Tile) (clk : Nat) : Tile :=
  let t := ((t.rmwWrite clk (clk + 1)).ringUpdates (clk + 1)).maccFlush
  { t with rmws := [] }

/-- A macro operation suspends at a step count with its countdown (R262). -/
def Macro.suspend (m : Macro) (base : Nat) : Macro :=
  { m with susp := true, kcount := m.base + m.n + 1 - base }

/-- The snapshot of R40, which leaves every port empty (R178). Pending `op4` forms have been finished and a macro
operation has been run to its boundary before. -/
def Tile.takeSnapshot (t : Tile) (clk : Nat) : Tile :=
  let t := t.finish clk
  let f := t.flyFlags
  { t.setFlags f with
    snap := some { latches := t.latches, socks := t.socks.map fun q => q.snap t.kBase
                   op4s := t.op4s.map fun o => { o with stageAt := o.stageAt - t.kBase }, gap := t.gapEnd - t.kBase }
    socks := Vector.replicate 13 {}
    op4s := []
    mac := t.mac.map fun m => m.suspend t.kBase }

/-- Supervisor entry from program mode (R35, R177): `intp` for an interrupt. A safe point at which the tile stood is passed:
a switch that is pending takes place at the next switch point after trap return (R77, R81). -/
def Tile.enter (t : Tile) (clk : Nat) (cause source info : Nat) (intp : Bool) : Tile :=
  let t := t.takeSnapshot clk
  { t with
    tcause := BitVec.ofNat 32 (cause + 256 * source)
    tinfo := BitVec.ofNat 64 info
    tepc := t.pc
    tstat := mkTstat t.cid (t.owed clk) intp true
    pc := t.tvec
    nextAt := clk + 1
    gapEnd := clk + 1
    idleEnd := 0
    freshAt := clk
    layoutWait := none
    waddrAt := none
    waddrOut := false
    bal := { t.bal with scanAt := none }
    switchAt := none
    stall := .none }

/-- A trap raised in supervisor mode halts the tile (R37). -/
def Tile.supHalt (t : Tile) (cause info : Nat) : Tile :=
  { t with dead := true, tcause := BitVec.ofNat 32 cause, tinfo := BitVec.ofNat 64 info }

/-- The last cycle in which a result of the handler completes (R41). -/
def Tile.handlerDone (t : Tile) : Nat :=
  t.socks.toList.foldl (fun d q => q.fly.foldl (fun d r => if r.due < openEnd then max d r.due else d) d) 0

/-- The result in flight of an order gets its value; it stands next cycle, or, when the tile has entered the supervisor
since its trigger, before the first resumed bundle (R355). -/
def Tile.finishResult (t : Tile) (sock clk seq : Nat) (val : Wide) : Tile :=
  let put (due : Nat) (q : SockQ) : SockQ :=
    { q with fly := q.fly.map fun r => if r.seq = seq && decide (openEnd ≤ r.due) then { r with val, due } else r }
  let t := t.setSock sock (put (clk + 1) (t.sock sock))
  match t.snap with
  | none => t
  | some sn => { t with snap := some { sn with socks := vset sn.socks sock (put 0 (vget {} sn.socks sock)) } }

/-- A suspended macro continues so that it completes `kcount` cycles after cycle `f` (R262). -/
def Macro.resume (m : Macro) (f : Nat) : Macro :=
  if m.susp then { m with susp := false, base := f + m.kcount - (m.n + 1) } else m

/-- A result that the handler triggered has no fixed end yet, so that trap return waits for it (R41). -/
def Tile.handlerOpen (t : Tile) : Bool := t.socks.toList.any fun q => q.fly.any fun r => decide (openEnd ≤ r.due)

/-- The flags of the handler's results that complete in a cycle (R186). -/
def Tile.flagsDue (t : Tile) (c : Nat) : BitVec 6 :=
  t.socks.toList.foldl (fun f q => q.fly.foldl (fun f r => if r.due = c then f ||| r.flags else f) f) 0

/-- Trap return in cycle `clk` (R41, R363): the handler's results complete, setting their flags in their cycles, and are
discarded; the first resumed bundle is due in cycle f′, after GAPREM idle cycles. A countdown counts from the cycle that
lies as many cycles before f′ as the last issued bundle had idle cycles, so that the program finds every result where it
would have found it without the interruption (R41, R549). Of TSTAT only SUP changes. -/
def Tile.trapReturn (t : Tile) (clk : Nat) : Tile :=
  let d := max (clk + 1) t.handlerDone
  let f := d + t.gaprem
  let k := f - t.snap.elim 0 Snapshot.gap
  let t' : Tile := { t.setFlags t.flyFlags with
    flagsAt := (d, t.flagsDue d)
    tstat := t.tstat &&& ~~~1
    pc := t.tepc
    nextAt := f, gapEnd := f, idleEnd := f, kBase := k, intFrom := d, freshAt := clk + 1
    mac := t.mac.map fun m => m.resume k
    snap := none }
  match t.snap with
  | none => { t' with socks := Vector.replicate 13 {} }
  | some sn => { t' with
      latches := sn.latches
      socks := sn.socks.map fun q => { q with fly := q.fly.map fun r => { r with due := r.due + k } }
      op4s := sn.op4s.map fun o => { o with stageAt := o.stageAt + k } }

/-! ### Counting (R367) -/

/-- Adds one to each event counter that counts event `e` (R367). -/
def Tile.countEvent (t : Tile) (e : Nat) : Tile :=
  { t with counters := t.counters.map fun c =>
      if c.event.toNat = e && !(c.ponly && t.sup) then { c with val := c.val + 1 } else c }

/-! ### Completion counters (R315) -/

/-- A landing of `k` bytes into a counter; true when it overruns (R315). -/
def Counter.land (c : Counter) (k : Nat) : Counter × Bool :=
  if c.status ≠ 0 then (c, false)
  else if c.count.toNat < k then ({ count := 0, status := 2 }, true)
  else ({ c with count := c.count - BitVec.ofNat 30 k }, false)

/-- A landing of `k` bytes into counter `i` of a tile (R315). -/
def Tile.count (t : Tile) (i k : Nat) : Tile :=
  let r := (vget {} t.cc i).land k
  let t := { t with cc := vset t.cc i r.1 }
  if r.2 then t.setCir 3 else t

/-- A non-OK far completion shows in `ch.s` (R296). -/
def Tile.nackWith (t : Tile) (status : Byte) (lidx : BitVec 6 := 0) : Tile :=
  { t with lstat := status, nack := true, lidx := lidx }

/-- A fault of counter `i` with a status (R315): a counter already frozen keeps its count and status. It is a far completion
that is not OK (R297), and an event counter counts it (R367). -/
def Tile.faultCount (t : Tile) (i : Nat) (status : Byte) : Tile :=
  let c := vget {} t.cc i
  let t := (t.nackWith status).countEvent 9
  if c.status ≠ 0 then t else { t with cc := vset t.cc i { c with status := 1 }, lcc := BitVec.ofNat 4 i }

/-! ### The Dial and times -/

/-- TCLK cycles of a microsecond (R534). -/
def usClk : Nat := 3300

/-- The package Dial (R536). -/
def State.dialNow (s : State) : DWord := s.bu.dialWas.getD s.bu.dial

/-- A fresh free-value index; the counter moves on. -/
def State.takeFree (s : State) : Nat × State := (s.free, { s with free := s.free + 1 })

end Sys2Proof.Machine
end

