-- ==== Sys2Proof/Machine/Float.lean ====
section
/-! DEFINITION. Number formats and arithmetic (chapter 8), exactly: a finite value is a sign, a natural significand and
an integer exponent, and a rounding is made once, at the end. -/

namespace Sys2Proof.Machine

/-- A floating format by its significand width, exponent width and bias (Table 8-2). -/
structure FFmt where
  p : Nat
  ew : Nat
  bias : Nat
  deriving DecidableEq, Repr

/-- binary32. -/
def fp32 : FFmt := ⟨24, 8, 127⟩
/-- binary16. -/
def fp16 : FFmt := ⟨11, 5, 15⟩
/-- binary32 truncated to its upper half. -/
def bf16 : FFmt := ⟨8, 8, 127⟩

/-- Exponent of the lowest bit of a subnormal. -/
def FFmt.grid (f : FFmt) : Int := 2 - (f.bias : Int) - f.p
/-- Exponent of the smallest normal value. -/
def FFmt.emin (f : FFmt) : Int := 1 - (f.bias : Int)
/-- Canonical NaN (R208). -/
def FFmt.qnan (f : FFmt) : Nat := (2 ^ f.ew - 1) * 2 ^ (f.p - 1) + 2 ^ (f.p - 2)
/-- Infinity of a sign. -/
def FFmt.inf (f : FFmt) (neg : Bool) : Nat := ofBool neg * 2 ^ (f.ew + f.p - 1) + (2 ^ f.ew - 1) * 2 ^ (f.p - 1)
/-- Largest finite value of a sign. -/
def FFmt.maxFin (f : FFmt) (neg : Bool) : Nat := f.inf neg - 1

/-- A value (R211): a NaN with whether it signals, an infinity, or sign, significand and exponent. -/
inductive FVal where
  | nan (snan : Bool)
  | inf (neg : Bool)
  | fin (neg : Bool) (m : Nat) (e : Int)
  deriving DecidableEq, Repr

/-- `val(x)` of an encoding (R206, R207). -/
def FFmt.val (f : FFmt) (x : Nat) : FVal :=
  let neg := bit x (f.ew + f.p - 1)
  let ex := bits x (f.ew + f.p - 2) (f.p - 1)
  let fr := x % 2 ^ (f.p - 1)
  if ex = 2 ^ f.ew - 1 then (if fr = 0 then .inf neg else .nan !(bit x (f.p - 2)))
  else if ex = 0 then .fin neg fr f.grid
  else .fin neg (fr + 2 ^ (f.p - 1)) ((ex : Int) - f.bias - (f.p - 1 : Nat))

/-- Rounding modes (R210): 0 to nearest even, 1 toward zero, 2 up, 3 down. -/
abbrev RMode := Nat

/-- A magnitude `q + r / d`, with 0 ≤ r < d, rounded to an integer for a sign under a mode. -/
def roundUnit (mode : RMode) (neg : Bool) (q r d : Nat) : Nat :=
  let up := match mode with
    | 0 => decide (d < 2 * r) || (decide (2 * r = d) && decide (q % 2 = 1))
    | 1 => false
    | 2 => !neg && decide (0 < r)
    | _ => neg && decide (0 < r)
  if up then q + 1 else q

/-- `m · 2^e` as an integer count of 2^g units, rounded. -/
def roundAt (mode : RMode) (neg : Bool) (m : Nat) (e g : Int) : Nat :=
  if g ≤ e then m * 2 ^ (e - g).toNat
  else
    let d := 2 ^ (g - e).toNat
    roundUnit mode neg (m / d) (m % d) d

/-- Bit length. -/
def bitLen (m : Nat) : Nat := if m = 0 then 0 else Nat.log2 m + 1

/-- Flag bits of VSTAT (R30). -/
def fIV : BitVec 6 := 1
/-- Division by zero. -/
def fDZ : BitVec 6 := 2
/-- Overflow. -/
def fOF : BitVec 6 := 4
/-- Underflow. -/
def fUF : BitVec 6 := 8
/-- Inexact. -/
def fNX : BitVec 6 := 16
/-- Saturated. -/
def fSAT : BitVec 6 := 32

/-- The encoding of a sign and an integer count of 2^g units that the format holds exactly. -/
def FFmt.encode (f : FFmt) (neg : Bool) (m : Nat) (g : Int) : Nat :=
  let s := ofBool neg * 2 ^ (f.ew + f.p - 1)
  if m = 0 then s
  else
    let n := if f.grid ≤ g then m * 2 ^ (g - f.grid).toNat else m / 2 ^ (f.grid - g).toNat
    let l := bitLen n
    if l < f.p then s + n
    else s + (l - f.p + 1) * 2 ^ (f.p - 1) + (n / 2 ^ (l - f.p) - 2 ^ (f.p - 1))

/-- `round_fp(v, F, m)` (R212): the encoding and the flags raised. -/
def roundFp (f : FFmt) (mode : RMode) (v : FVal) : Nat × BitVec 6 :=
  match v with
  | .nan _ => (f.qnan, 0)
  | .inf n => (f.inf n, 0)
  | .fin neg m e =>
    if m = 0 then (f.encode neg 0 0, 0)
    else
      let l := bitLen m
      let g := e + ((l : Int) - f.p)
      let q := roundAt mode neg m e g
      let g' := g + ((bitLen q : Int) - f.p)
      -- q · 2^g has leading bit at exponent g' + p − 1
      let top : Int := g' + f.p - 1
      if ((2 ^ f.ew - 2 : Nat) : Int) - f.bias < top then
        let big := match mode with
          | 0 => true
          | 1 => false
          | 2 => !neg
          | _ => neg
        (if big then f.inf neg else f.maxFin neg, fOF ||| fNX)
      else if top < f.emin then
        let r := roundAt mode neg m e f.grid
        let exact := decide (f.grid ≤ e) || decide (r * 2 ^ (f.grid - e).toNat = m)
        (f.encode neg r f.grid, if exact then 0 else fUF ||| fNX)
      else
        let exact := decide (g ≤ e) || decide (q * 2 ^ (g - e).toNat = m)
        (f.encode neg q g, if exact then 0 else fNX)

/-- A value negated. -/
def FVal.neg : FVal → FVal
  | .nan s => .nan s
  | .inf n => .inf !n
  | .fin n m e => .fin (!n) m e

/-- The value is a signalling NaN. -/
def FVal.snan : FVal → Bool
  | .nan s => s
  | _ => false

/-- The value is a NaN. -/
def FVal.isNan : FVal → Bool
  | .nan _ => true
  | _ => false

/-- The value is a zero. -/
def FVal.isZero : FVal → Bool
  | .fin _ m _ => decide (m = 0)
  | _ => false

/-- Significand as a signed integer. -/
def signedMag (neg : Bool) (m : Nat) : Int := if neg then -(m : Int) else m

/-- Exact sum; a zero takes its sign by the rule of R212. Infinities of opposite sign give a signalling NaN, which
stands for the invalid operation. -/
def FVal.add (mode : RMode) (a b : FVal) : FVal :=
  match a, b with
  | .nan s, .nan t => .nan (s || t)
  | .nan s, _ => .nan s
  | _, .nan t => .nan t
  | .inf n, .inf k => if n = k then .inf n else .nan true
  | .inf n, _ => .inf n
  | _, .inf k => .inf k
  | .fin n m e, .fin k j d =>
    let g := min e d
    let x := signedMag n (m * 2 ^ (e - g).toNat) + signedMag k (j * 2 ^ (d - g).toNat)
    if x = 0 then .fin (if n = k then n else decide (mode = 3)) 0 0
    else .fin (decide (x < 0)) x.natAbs g

/-- Exact product; 0 × ∞ gives a signalling NaN, which stands for the invalid operation. -/
def FVal.mul (a b : FVal) : FVal :=
  match a, b with
  | .nan s, .nan t => .nan (s || t)
  | .nan s, _ => .nan s
  | _, .nan t => .nan t
  | .inf n, .inf k => .inf (n != k)
  | .inf n, .fin k j _ => if j = 0 then .nan true else .inf (n != k)
  | .fin n m _, .inf k => if m = 0 then .nan true else .inf (n != k)
  | .fin n m e, .fin k j d => .fin (n != k) (m * j) (e + d)

/-- Rounds a value that an operation formed; a NaN that signals raises IV (R214). -/
def roundOp (f : FFmt) (mode : RMode) (v : FVal) : Nat × BitVec 6 :=
  let r := roundFp f mode v
  if v.snan then (r.1, fIV) else r

/-- `fadd` (R230). -/
def fadd (mode : RMode) (a x : Word) : Nat × BitVec 6 :=
  roundOp fp32 mode (FVal.add mode (fp32.val a.toNat) (fp32.val x.toNat))
/-- `fsub` (R230). -/
def fsub (mode : RMode) (a x : Word) : Nat × BitVec 6 :=
  roundOp fp32 mode (FVal.add mode (fp32.val a.toNat) (fp32.val x.toNat).neg)
/-- `fmul` (R230). -/
def fmul (mode : RMode) (a x : Word) : Nat × BitVec 6 :=
  roundOp fp32 mode (FVal.mul (fp32.val a.toNat) (fp32.val x.toNat))
/-- `fma` (R231): 0 × ∞ raises IV whatever the addend holds. -/
def ffma (mode : RMode) (a x b : Word) : Nat × BitVec 6 :=
  roundOp fp32 mode (FVal.add mode (FVal.mul (fp32.val a.toNat) (fp32.val x.toNat)) (fp32.val b.toNat))

/-- The quotient of two finite nonzero magnitudes, exact to a sticky bit below 64 fraction bits. -/
def quotSticky (m : Nat) (e : Int) (j : Nat) (d : Int) : Nat × Int :=
  let k := 64 + bitLen j
  let n := m * 2 ^ k
  (2 * (n / j) + ofBool (decide (n % j ≠ 0)), e - d - (k + 1 : Nat))

/-- `fdiv` (R222). -/
def fdiv (mode : RMode) (a x : Word) : Nat × BitVec 6 :=
  match fp32.val a.toNat, fp32.val x.toNat with
  | .nan s, .nan t => (fp32.qnan, if s || t then fIV else 0)
  | .nan s, _ => (fp32.qnan, if s then fIV else 0)
  | _, .nan t => (fp32.qnan, if t then fIV else 0)
  | .inf _, .inf _ => (fp32.qnan, fIV)
  | .inf n, .fin k _ _ => (fp32.inf (n != k), 0)
  | .fin n _ _, .inf k => (fp32.encode (n != k) 0 0, 0)
  | .fin n m e, .fin k j d =>
    if j = 0 then (if m = 0 then (fp32.qnan, fIV) else (fp32.inf (n != k), fDZ))
    else if m = 0 then (fp32.encode (n != k) 0 0, 0)
    else
      let q := quotSticky m e j d
      roundFp fp32 mode (.fin (n != k) q.1 q.2)

/-- `frcp` (R222). -/
def frcp (mode : RMode) (x : Word) : Nat × BitVec 6 := fdiv mode 0x3F800000 x

/-- Integer square root by bits: the largest r with r² ≤ n. -/
def isqrtGo (n : Nat) : Nat → Nat → Nat
  | 0, r => r
  | k + 1, r => isqrtGo n k (if (r + 2 ^ k) * (r + 2 ^ k) ≤ n then r + 2 ^ k else r)

/-- The square root of a finite nonzero magnitude, exact to a sticky bit. -/
def sqrtSticky (m : Nat) (e : Int) : Nat × Int :=
  let k : Nat := if e % 2 = 0 then 100 else 101
  let n := m * 2 ^ k
  let r := isqrtGo n 80 0
  (2 * r + ofBool (decide (r * r ≠ n)), (e - k) / 2 - 1)

/-- `fsqrt` (R222). -/
def fsqrt (mode : RMode) (x : Word) : Nat × BitVec 6 :=
  match fp32.val x.toNat with
  | .nan s => (fp32.qnan, if s then fIV else 0)
  | .inf n => if n then (fp32.qnan, fIV) else (fp32.inf false, 0)
  | .fin n m e =>
    if m = 0 then (x.toNat, 0)
    else if n then (fp32.qnan, fIV)
    else
      let q := sqrtSticky m e
      roundFp fp32 mode (.fin false q.1 q.2)

/-- `frsq` (R222): the reciprocal root, exact to a sticky bit as the root of the quotient 2^k ÷ m. -/
def frsq (mode : RMode) (x : Word) : Nat × BitVec 6 :=
  match fp32.val x.toNat with
  | .nan s => (fp32.qnan, if s then fIV else 0)
  | .inf n => if n then (fp32.qnan, fIV) else (fp32.encode false 0 0, 0)
  | .fin n m e =>
    if m = 0 then (fp32.inf n, fDZ)
    else if n then (fp32.qnan, fIV)
    else
      -- 1 / (m 2^e); with k of e's parity, floor(sqrt(2^k / m)) and whether it is exact
      let k : Nat := if e % 2 = 0 then 160 else 161
      let w := 2 ^ k / m
      let r := isqrtGo w 90 0
      let exact := decide (r * r * m = 2 ^ k)
      roundFp fp32 mode (.fin false (2 * r + ofBool (!exact)) ((-e - k) / 2 - 1))

/-- `round_int(v, m)` of a finite value as a magnitude (R211). -/
def roundInt (mode : RMode) (neg : Bool) (m : Nat) (e : Int) : Nat := roundAt mode neg m e 0

/-- `frnd` (R233). -/
def frnd (mode : RMode) (x : Word) : Nat × BitVec 6 :=
  match fp32.val x.toNat with
  | .nan s => (fp32.qnan, if s then fIV else 0)
  | .inf _ => (x.toNat, 0)
  | .fin n m e =>
    if decide (m = 0) || decide (0 ≤ e) then (x.toNat, 0)
    else
      let r := roundInt mode n m e
      (fp32.encode n r 0, if r * 2 ^ (-e).toNat = m then 0 else fNX)

/-- Order of two values that are no NaN, −0 and +0 equal: a < b. -/
def FVal.lt (a b : FVal) : Bool :=
  match a, b with
  | .inf n, .inf k => n && !k
  | .inf n, _ => n
  | _, .inf k => !k
  | .fin n m e, .fin k j d =>
    let g := min e d
    decide (signedMag n (m * 2 ^ (e - g).toNat) < signedMag k (j * 2 ^ (d - g).toNat))
  | _, _ => false

/-- Order of R232, with −0 below +0. -/
def FVal.ltz (a b : FVal) : Bool :=
  match a, b with
  | .fin n 0 _, .fin k 0 _ => n && !k
  | _, _ => FVal.lt a b

/-- `fmin` and `fmax` (R232). -/
def fminmax (isMax : Bool) (a x : Word) : Nat × BitVec 6 :=
  let va := fp32.val a.toNat
  let vx := fp32.val x.toNat
  let fl := if va.snan || vx.snan then fIV else 0
  if va.isNan && vx.isNan then (fp32.qnan, fl)
  else if va.isNan then (x.toNat, fl)
  else if vx.isNan then (a.toNat, fl)
  else if isMax then ((if FVal.ltz va vx then x else a).toNat, fl)
  else ((if FVal.ltz vx va then x else a).toNat, fl)

/-- Floating comparisons (R234): 0 equal, 1 less, 2 less or equal. -/
def fcmp (rel : Nat) (a x : Word) : Bool × BitVec 6 :=
  let va := fp32.val a.toNat
  let vx := fp32.val x.toNat
  if va.isNan || vx.isNan then
    (false, if rel = 0 then (if va.snan || vx.snan then fIV else 0) else fIV)
  else
    let l := FVal.lt va vx
    let g := FVal.lt vx va
    (match rel with | 0 => !l && !g | 1 => l | _ => !g, 0)

/-- `cvt_fi` to a signed range (R219). -/
def cvtFi (mode : RMode) (lo hi : Int) (v : FVal) : Int × BitVec 6 :=
  match v with
  | .nan _ => (0, fIV)
  | .inf n => (if n then lo else hi, fIV)
  | .fin n m e =>
    let r := roundInt mode n m e
    let q := signedMag n r
    if q < lo then (lo, fIV)
    else if hi < q then (hi, fIV)
    else (q, if decide (0 ≤ e) || decide (r * 2 ^ (-e).toNat = m) then 0 else fNX)

/-- `cvtif` (R236). -/
def cvtIf (mode : RMode) (x : Word) : Nat × BitVec 6 :=
  let v := x.toInt
  roundFp fp32 mode (.fin (decide (v < 0)) v.natAbs 0)

/-- A conversion of an FP32 element to a 16-bit format (R237). -/
def cvtDown (f : FFmt) (mode : RMode) (x : Word) : Nat × BitVec 6 := roundOp f mode (fp32.val x.toNat)

/-- A conversion of a 16-bit element to FP32, exact (R238). -/
def cvtUp (f : FFmt) (x : Nat) : Nat × BitVec 6 := roundOp fp32 0 (f.val x)

/-- Coefficients of Table 8-8, from C[8] down to C[0]. -/
def exp2Coef : List Nat :=
  [2838, 32755, 330788, 2863360, 20654775, 119194166, 515882496, 1488522236, 2147483648]

/-- `fexp2` (R223). -/
def fexp2 (x : Word) : Nat × BitVec 6 :=
  match fp32.val x.toNat with
  | .nan s => (fp32.qnan, if s then fIV else 0)
  | .inf n => if n then (0, 0) else (fp32.inf false, 0)
  | .fin n m e =>
    let v := signedMag n m
    let scaled : Int := if 0 ≤ e + 24 then v * 2 ^ (e + 24).toNat else v / (2 ^ (-(e + 24)).toNat : Nat)
    if 128 * 2 ^ 24 ≤ scaled then (fp32.inf false, fOF ||| fNX)
    else if FVal.lt (.fin n m e) (.fin true 151 0) then (0, fUF ||| fNX)
    else
      let k := scaled / (2 ^ 24 : Nat)
      let g := (scaled % (2 ^ 24 : Nat)).toNat * 128
      let a := exp2Coef.foldl (fun a c => c + a * g / 2 ^ 31) 219
      roundFp fp32 0 (.fin false a (k - 31))

/-- Coefficients of Table 8-9, from Dk[3] down to Dk[0]. -/
def log2Coef : List Nat := [221297429, 309816401, 516360668, 1549082005]

/-- `flog2` (R224). -/
def flog2 (x : Word) : Nat × BitVec 6 :=
  match fp32.val x.toNat with
  | .nan s => (fp32.qnan, if s then fIV else 0)
  | .inf n => if n then (fp32.qnan, fIV) else (fp32.inf false, 0)
  | .fin n m e =>
    if m = 0 then (fp32.inf true, fDZ)
    else if n then (fp32.qnan, fIV)
    else
      let mm := m * 2 ^ (24 - bitLen m)
      let ex : Int := e + bitLen m - 1
      let big := decide (0xB504F3 ≤ mm)
      let dv : Nat := if big then 2 ^ 24 else 2 ^ 23
      let ex := if big then ex + 1 else ex
      let nn : Int := (mm : Int) - dv
      let tt : Int := (if nn < 0 then -1 else 1) * ((nn.natAbs * 2 ^ 31 / (mm + dv) : Nat) : Int)
      let u := tt.natAbs * tt.natAbs / 2 ^ 31
      let pn : Nat := log2Coef.foldl (fun p d => d + p * u / 2 ^ 31) 172120223
      let l : Int := (tt * (pn : Int)) / ((2 ^ 29 : Nat) : Int)
      let z := ex * (2 ^ 31 : Nat) + l
      roundFp fp32 0 (.fin (decide (z < 0)) z.natAbs (-31))

/-! ### Matrix arithmetic (R215, R216) -/

/-- A value with a subnormal of its format replaced by zero. -/
def FFmt.valFtz (f : FFmt) (x : Nat) : FVal :=
  match f.val x with
  | .fin n m e => if m < 2 ^ (f.p - 1) then .fin n 0 0 else .fin n m e
  | v => v

/-- `round_m` (R215). -/
def roundM (v : FVal) : Nat :=
  match v with
  | .nan _ => fp32.qnan
  | .inf n => fp32.inf n
  | .fin neg m e =>
    if m = 0 then fp32.encode neg 0 0
    else
      let g := e + ((bitLen m : Int) - 24)
      let q := roundAt 0 neg m e g
      let top : Int := g + bitLen q - 1
      if 127 < top then fp32.inf neg
      else if top < -126 then fp32.encode neg 0 0
      else fp32.encode neg q g

/-- `mstep` (R216) of an accumulator and two factors already read through `ftz`. -/
def mstep (acc : Word) (a b : FVal) : Word :=
  BitVec.ofNat 32 (roundM (FVal.add 0 (fp32.valFtz acc.toNat) (FVal.mul a b)))

/-- A BF16 factor. -/
def bfVal (x : Nat) : FVal := bf16.valFtz x

/-- One term of a DYAD8 byte, in units of 2^-6 (R209). -/
def dyadTerm (s : Bool) (e : Nat) : Int := if e = 7 then 0 else signedMag s (2 ^ (6 - e))

/-- `dyad(w)` (R209). -/
def dyadVal (w : Nat) : FVal :=
  let d := dyadTerm (bit w 7) (bits w 6 4) + dyadTerm (bit w 3) (bits w 2 0)
  .fin (decide (d < 0)) d.natAbs (-6)

/-- The scaled element of R218. -/
def scaleElem (e s : Word) : Word :=
  BitVec.ofNat 32 (roundM (FVal.mul (fp32.valFtz e.toNat) (fp32.valFtz s.toNat)))

/-- The floating add of `macc` (R254). -/
def maccAdd (e a : Word) : Word :=
  BitVec.ofNat 32 (roundM (FVal.add 0 (fp32.valFtz e.toNat) (fp32.valFtz a.toNat)))

/-! ### Reduction operators (R303) -/

/-- One 32-bit element combined under an operator of Table 12-5. -/
def redElem (rop : Nat) (e s : Word) : Word :=
  match rop with
  | 0 => e + s
  | 1 => BitVec.ofNat 32 (roundFp fp32 0 (FVal.add 0 (fp32.val e.toNat) (fp32.val s.toNat))).1
  | 2 =>
    let half (i : Nat) : Nat :=
      (roundFp bf16 0 (FVal.add 0 (bf16.val (bits e.toNat (16 * i + 15) (16 * i)))
        (bf16.val (bits s.toNat (16 * i + 15) (16 * i))))).1
    BitVec.ofNat 32 (half 0 + 65536 * half 1)
  | 3 => if s.slt e then s else e
  | 4 => if e.slt s then s else e
  | 5 => e &&& s
  | 6 => e ||| s
  | _ => e ^^^ s

/-- Bytes combined element by element (R303). -/
def redBytes (rop : Nat) : List Byte → List Byte → List Byte
  | a :: b :: c :: d :: es, p :: q :: r :: t :: ss =>
    toBytes 4 (redElem rop (BitVec.ofNat 32 (ofBytes [a, b, c, d])) (BitVec.ofNat 32 (ofBytes [p, q, r, t]))).toNat
      ++ redBytes rop es ss
  | es, _ => es

end Sys2Proof.Machine
end

