-- ==== Sys2Proof/Machine/Flags.lean ====
section
/-! DEFINITION. Flags and conditions: saturation (R186), the conditions of `waddr` and WAIT (R319, R435). -/

namespace Sys2Proof.Machine

/-- The signed value of a word. -/
def sgn (x : Word) : Int := x.toInt

/-- An exact sum narrowed to 32 bits with saturation; true when it saturated (R186). -/
def satS32 (z : Int) : Word × Bool :=
  if z < -2147483648 then (0x80000000, true)
  else if 2147483647 < z then (0x7FFFFFFF, true)
  else (BitVec.ofInt 32 z, false)

/-- A shift to the left: 0 from 32 on (R185, R235). -/
def shl32 (a b : Word) : Word := if b.toNat < 32 then a <<< b.toNat else 0

/-- The SAT flag of a saturating operation. -/
def satFlag (b : Bool) : BitVec 6 := if b then fSAT else 0

/-- The condition of a code against a value, at a width of `n` bits; code 7 has none (R319, R435). -/
def condHolds (n code w b : Nat) : Bool :=
  match code with
  | 0 => decide (w = b)
  | 1 => decide (w ≠ b)
  | 2 => decide (sextNat b n ≤ sextNat w n)
  | 3 => decide (sextNat w n < sextNat b n)
  | 4 => decide (b ≤ w)
  | 5 => decide (w < b)
  | 6 => decide (w &&& b ≠ 0)
  | _ => false

end Sys2Proof.Machine
end

