-- ==== Sys2Proof/Machine/Macro.lean ====
section
/-! DEFINITION. The matrix sequencer (R257–R262) and the stages of `ac` (R250, R251, R254): what happens in a cycle
without a trigger, and how a macro operation suspends at supervisor entry. -/

namespace Sys2Proof.Machine

/-! ### The four-step forms -/

/-- The order in which a signed or unsigned byte is read (R218). -/
def byteInt (uns : Bool) (x : Nat) : Int := if uns then (x % 256 : Nat) else sextNat x 8

/-- One integer step (R218). -/
def istep (acc : Word) (a b : Int) : Word := acc + BitVec.ofInt 32 (a * b)

/-- The two kept positions of a 2:4 group, when they are legal (R250). -/
def keptOf (md : Nat) : Option (Nat × Nat) :=
  if bits md 1 0 < bits md 3 2 then some (bits md 1 0, bits md 3 2) else none

/-- A halfword of a list of bytes. -/
def halfOf (b : List Byte) (i : Nat) : Nat := (nth 0 b i).toNat + 256 * (nth 0 b (i + 1)).toNat

/-- The factors (A[i][k], k) of row i that an `op4` form uses, in ascending k (Table 10-2). -/
def op4Row (o : Op4) (i : Nat) : List (FVal × Nat) :=
  let w := (lane o.a i).toNat
  match o.code with
  | 0x902 => (upTo 4).map fun k => (dyadVal (bits w (8 * k + 7) (8 * k)), k)
  | 0x904 => match keptOf (bits o.md.toNat (4 * i + 3) (4 * i)) with
    | some (p, q) => [(bfVal (bits w 15 0), p), (bfVal (bits w 31 16), q)]
    | none => []
  | _ => (upTo 2).map fun k => (bfVal (bits w (16 * k + 15) (16 * k)), k)

/-- Element (i, j) that an `op4` form computes from the accumulator's (R250). -/
def op4Elem (o : Op4) (i j : Nat) (acc : Word) : Word :=
  if o.code = 0x903 then
    let w := (lane o.a i).toNat
    (upTo 4).foldl (fun e k =>
      istep e (byteInt (o.v.getLsbD 31) (bits w (8 * k + 7) (8 * k)))
        (byteInt (o.v.getLsbD 30) (nth 0 o.b (4 * k + j)).toNat)) acc
  else
    (op4Row o i).foldl (fun e f => mstep e f.1 (bfVal (halfOf o.b (2 * (4 * f.2 + j)))))
      (if o.code = 0x901 then 0 else acc)

/-- The accumulator that an `op4` form leaves (R250). -/
def op4Acc (o : Op4) (acc : Vector Word 16) : Vector Word 16 :=
  Vector.ofFn fun x : Fin 16 => op4Elem o (x.val / 4) (x.val % 4) (vget 0 acc x.val)

/-- A row of `op4s` has illegal metadata (R250). -/
def op4Bad (o : Op4) : Bool :=
  decide (o.code = 0x904) && (upTo 4).any fun i => (keptOf (bits o.md.toNat (4 * i + 3) (4 * i))).isNone

/-- `ac` as it stood at the start of cycle `clk` (R251). -/
def Tile.acAt (t : Tile) (clk : Nat) : Vector Word 16 :=
  match t.acOld with
  | some (c, a) => if c = clk then a else t.ac
  | none => t.ac

/-- `acclr` has written `ac` at the end of this cycle (R251). -/
def Tile.acCleared (t : Tile) (clk : Nat) : Bool :=
  match t.acOld with
  | some (c, _) => decide (c = clk)
  | none => false

/-- OP4_STAGE of one form (R250, R251). One that a snapshot has finished computes anew from `ac` as it stands, so that no
result depends on an interruption (R41, R265, R266); its checks have been made. -/
def Tile.op4Stage (t : Tile) (clk : Nat) (o : Op4) : Tile :=
  let acc := if o.fixed then o.fin.getD t.ac else op4Acc o (t.acAt clk)
  let t := if o.fin.isNone && op4Bad o then t.setCir 2 else t
  let t := t.setSock 7 ((t.sock 7).fill o.seq (BitVec.ofNat 512 (ofLanes acc.toList)))
  if t.acCleared clk then t else { t with ac := acc }

/-- OP4_STAGE: every form whose stage is this cycle. -/
def Tile.op4Stages (t : Tile) (clk : Nat) : Tile :=
  (t.op4s.filter fun o => decide (o.stageAt ≤ clk)).foldl (fun t o => t.op4Stage clk o)
    { t with op4s := t.op4s.filter fun o => !decide (o.stageAt ≤ clk) }

/-- The pending `op4` forms finished at once, each from what the one before it leaves (R40): the accumulator then, and the
forms. -/
def finishForms (acc : Vector Word 16) : List Op4 → List Op4
  | [] => []
  | o :: os =>
    let a := if o.fixed then o.fin.getD acc else op4Acc o acc
    { o with fin := some a } :: finishForms a os

/-- Every `op4` form in flight is finished at a supervisor entry: its result has its value for the snapshot, and `ac` itself is
still written at the form's stage, which takes place after the resume (R40, R265, R266). -/
def Tile.finishOp4s (t : Tile) : Tile :=
  let os := finishForms t.ac t.op4s
  let t' := if t.op4s.any fun o => o.fin.isNone && op4Bad o then t.setCir 2 else t
  let q := os.foldl (fun q o => q.fill o.seq (BitVec.ofNat 512 (ofLanes (o.fin.getD t.ac).toList))) (t.sock 7)
  { t'.setSock 7 q with op4s := os }

/-- The stages of a handler's `op4` forms, which are over when trap return takes place (R41). -/
def Tile.stageAll (t : Tile) : Tile := t.op4s.foldl (fun t o => t.op4Stage o.stageAt o) { t with op4s := [] }

/-! ### Macro operations -/

/-- How the elements of an `mma16` form are multiplied (Table 10-3). -/
inductive MmaKind where
  | bf
  | dyad
  | int (au bu : Bool)
  | sparse
  deriving DecidableEq, Repr

/-- The row of Table 10-3: kind, row pitch of A and of B, k per step, steps. -/
structure MmaForm where
  kind : MmaKind
  ap : Nat
  bp : Nat
  q : Nat
  n : Nat
  deriving DecidableEq, Repr

/-- The row of Table 10-3 that a form's code, entry and trigger value select (R258). -/
def mmaForm (code : Nat) (entry : BitVec 128) (v : Word) : MmaForm :=
  match code with
  | 0x907 =>
    if bits entry.toNat 3 0 = 7 then ⟨.bf, 32, 32, 2, 128⟩
    else if bits entry.toNat 3 0 = 8 then ⟨.dyad, 32, 32, 4, 128⟩
    else ⟨.int (decide (bits entry.toNat 3 0 = 1)) (decide (bits entry.toNat 7 4 = 1)), 32, 16, 4, 128⟩
  | 0x908 => ⟨.dyad, 16, 32, 4, 64⟩
  | 0x909 => ⟨.int (v.getLsbD 28) (v.getLsbD 29), 16, 16, 4, 64⟩
  | _ => ⟨.sparse, 16, 32, 4, 64⟩

/-- Bytes of A of an `mma16` form (Table 10-3). -/
def MmaForm.aBytes (f : MmaForm) : Nat := 16 * f.ap + (if f.kind = .sparse then 32 else 0)
/-- Bytes of B of an `mma16` form (Table 10-3). -/
def MmaForm.bBytes (f : MmaForm) : Nat := f.bp * (f.n / 16 * f.q)

/-- Address of A (Table 10-4). -/
def mmaA (v : Word) : Nat := bits v.toNat 25 13 * 16
/-- Address of B (Table 10-4). -/
def mmaB (v : Word) : Nat := bits v.toNat 12 0 * 16

/-- The reads of an element's step: for each k its factor of A, k, and the address and size of A's bytes. -/
def mmaRow (t : Tile) (clk : Nat) (f : MmaForm) (a row g : Nat) : List (FVal × Int × Nat × Nat × Nat) :=
  let base := a + f.ap * row
  match f.kind with
  | .bf => (upTo 2).map fun i =>
      let k := 2 * g + i
      (bfVal (t.memAt clk (base + 2 * k) 2), 0, k, base + 2 * k, 2)
  | .dyad => (upTo 4).map fun i =>
      let k := 4 * g + i
      (dyadVal (t.memAt clk (base + k) 1), 0, k, base + k, 1)
  | .int au _ => (upTo 4).map fun i =>
      let k := 4 * g + i
      (.nan false, byteInt au (t.memAt clk (base + k) 1), k, base + k, 1)
  | .sparse => match keptOf (bits (t.memAt clk (a + 256 + 2 * row) 2) (4 * g + 3) (4 * g)) with
    | none => []
    | some (p, q) =>
      [(bfVal (t.memAt clk (base + 4 * g) 2), 0, 4 * g + p, base + 4 * g, 2),
       (bfVal (t.memAt clk (base + 4 * g + 2) 2), 0, 4 * g + q, base + 4 * g + 2, 2)]

/-- One element after a step (R259). -/
def mmaElem (t : Tile) (clk : Nat) (f : MmaForm) (b col : Nat) (row : List (FVal × Int × Nat × Nat × Nat)) (e : Word) : Word :=
  row.foldl (fun e x => match f.kind with
    | .int _ bu => istep e x.2.1 (byteInt bu (t.memAt clk (b + f.bp * x.2.2.1 + col) 1))
    | _ => mstep e x.1 (bfVal (t.memAt clk (b + f.bp * x.2.2.1 + 2 * col) 2))) e

/-- Scales apply to a form (R260). -/
def Macro.scaled (m : Macro) : Bool :=
  (decide (m.code = 0x907) || decide (m.code = 0x908)) && m.entry.getLsbD 63

/-- The register that a macro operation names (R258, R261). -/
def Macro.reg (m : Macro) : Nat :=
  if m.code = 0x911 || m.code = 0x912 then bits m.v.toNat 1 0 else bits m.v.toNat 27 26

/-- A step consumes a poisoned word (R265). -/
def mmaPoison (t : Tile) (clk : Nat) (f : MmaForm) (b bc : Nat) (rows : List (List (FVal × Int × Nat × Nat × Nat))) : Bool :=
  rows.any fun row => row.any fun x =>
    t.poisonedAt clk x.2.2.2.1 x.2.2.2.2 ||
      (match f.kind with
        | .int _ _ => t.poisonedAt clk (b + f.bp * x.2.2.1 + 4 * bc) 4
        | _ => t.poisonedAt clk (b + f.bp * x.2.2.1 + 8 * bc) 8)

/-- MX_MACRO_STEP of an `mma16` form: step `s` (R259). -/
def Tile.mmaStep (t : Tile) (clk : Nat) (m : Macro) (s : Nat) : Tile :=
  let f := mmaForm m.code m.entry m.v
  let a := mmaA m.v
  let b := mmaB m.v
  let g := s / 16
  let br := s % 16 / 4
  let bc := s % 4
  let rows := (upTo 4).map fun i => mmaRow t clk f a (4 * br + i) g
  let d := m.reg
  let old := vget (Vector.replicate 256 0) t.m d
  let new := (upTo 16).foldl (fun r x =>
    let i := x / 4
    let j := x % 4
    let e := elemGet old (4 * br + i) (4 * bc + j)
    let e := if g = 0 && m.scaled then 0 else e
    elemSet r (4 * br + i) (4 * bc + j) (mmaElem t clk f b (4 * bc + j) (nth [] rows i) e)) old
  let t := if mmaPoison t clk f b bc rows then t.setCir 0 else t
  -- the metadata and the kept values of each group are read, legal or not
  let metaPoison := decide (f.kind = .sparse) && (upTo 4).any fun i =>
    t.poisonedAt clk (a + 256 + 2 * (4 * br + i)) 2 || t.poisonedAt clk (a + f.ap * (4 * br + i) + 4 * g) 4
  let t := if metaPoison then t.setCir 0 else t
  let t := if decide (f.kind = .sparse) && rows.any List.isEmpty then t.setCir 2 else t
  { t with m := vset t.m d new, mshape := vset t.mshape d (mshDirty (vget 0 t.mshape d) true) }

/-- The elements of step `s` of `mld` and `mst` with their addresses (R261). -/
def Macro.moves (m : Macro) (s : Nat) : List (Nat × Nat × Nat) :=
  let v := m.v.toNat
  let a := bits v 16 6 * 64
  let pitch := 64 * (bits v 24 17 + 1)
  if bit v 2 then
    if s < m.cols then (upTo m.rows).map fun r => (r, s, a + pitch * s + 4 * r) else []
  else
    if s < m.rows then (upTo m.cols).map fun c => (s, c, a + pitch * s + 4 * c) else []

/-- The ranges of the local store that the operation has still to read or write (R378). -/
def Macro.spans (m : Macro) : List (Nat × Nat) :=
  if m.code = 0x911 || m.code = 0x912 then
    ((upTo (m.n - m.done)).flatMap fun s => m.moves (m.done + s)).map fun x => (x.2.2, 4)
  else
    let f := mmaForm m.code m.entry m.v
    [(mmaA m.v, f.aBytes), (mmaB m.v, f.bBytes)]

/-- A step of `mld` or `mst` (R261). A poisoned word that `mld` reads is used as it is: it is no point at which a CIR bit is
set (R483, R486). -/
def Tile.moveStep (t : Tile) (clk : Nat) (m : Macro) (s : Nat) : Tile :=
  let d := m.reg
  let reg := vget (Vector.replicate 256 0) t.m d
  if m.code = 0x911 then
    let new := (m.moves s).foldl (fun r x => elemSet r x.1 x.2.1 (BitVec.ofNat 32 (t.memAt clk x.2.2 4))) reg
    { t with m := vset t.m d new, mshape := vset t.mshape d (mshDirty (vget 0 t.mshape d) true) }
  else
    (m.moves s).foldl (fun t x => t.lsWrite clk x.2.2 (toBytes 4 (elemGet reg x.1 x.2.1).toNat)) t

/-- The operation reads the local store: each but `mst` (R259, R261). -/
def Macro.reads (m : Macro) : Bool := decide (m.code ≠ 0x912)

/-- One step of the macro operation in progress. -/
def Tile.macroStep (t : Tile) (clk : Nat) (m : Macro) : Tile :=
  let t' := if m.code = 0x911 || m.code = 0x912 then t.moveStep clk m m.done else t.mmaStep clk m m.done
  { t' with mac := some { m with done := m.done + 1 } }

/-- Every element of a scaled form takes its column's scale (R260). -/
def scaleAll (m : Macro) (reg : Vector Word 256) : Vector Word 256 :=
  Vector.ofFn fun x : Fin 256 => scaleElem (vget 0 reg x.val) (nth 0 m.scales (x.val % 16))

/-- The completion of a macro operation (R257, R260, R261). -/
def Tile.macroDone (t : Tile) (m : Macro) : Tile :=
  let d := m.reg
  let t := if m.scaled then { t with m := vset t.m d (scaleAll m (vget (Vector.replicate 256 0) t.m d)) } else t
  let t := if m.code = 0x912 then { t with mshape := vset t.mshape d (mshDirty (vget 0 t.mshape d) false) } else t
  { t with mac := none }

/-- The step of the macro operation takes place in this cycle (R257). -/
def Tile.macroDue (t : Tile) (clk : Nat) : Bool :=
  match t.mac with
  | none => false
  | some m => !m.susp && decide (m.done < m.n) && decide (m.base + m.done ≤ clk)

/-- The macro operation completes in this cycle (R257). -/
def Tile.macroEnds (t : Tile) (clk : Nat) : Bool :=
  match t.mac with
  | none => false
  | some m => !m.susp && decide (m.done = m.n) && decide (m.base + m.n + 1 ≤ clk)

/-- `n` further steps. -/
def Tile.macroRun (t : Tile) (clk : Nat) : Nat → Tile
  | 0 => t
  | n + 1 => match t.mac with
    | none => t
    | some m => (t.macroStep clk m).macroRun clk n

/-- The macro operation runs on to its next eight-step boundary (R40, R262). -/
def Tile.macroBoundary (t : Tile) (clk : Nat) : Tile :=
  match t.mac with
  | none => t
  | some m => if m.susp then t else t.macroRun clk ((m.done + 7) / 8 * 8 - m.done)

/-- Entry into the supervisor, with `op4` forms finished and the macro operation at its boundary (R35, R40, R262). -/
def Tile.enterSup (t : Tile) (clk : Nat) (cause source info : Nat) (intp : Bool) : Tile :=
  (t.finishOp4s.macroBoundary clk).enter clk cause source info intp

end Sys2Proof.Machine
end

