-- ==== Sys2Proof/Machine/Operands.lean ====
section
/-! DEFINITION. What a move can name (chapter 3 and Tables 1-2, 1-4, 3-4, 3-5): sources with their widths and values,
destinations, guards, the legality of a bundle, and the static attributes of trigger codes (chapter 5). -/

namespace Sys2Proof.Machine

/-! ### Sources (R93) -/

/-- A source by its code (Table 3-4). -/
inductive Src where
  | x (i : Nat)
  | v (i : Nat)
  | g (i : Nat)
  | result (sock : Nat)
  | status (sock : Nat)
  | special (code : Nat)
  | imm (w : Word)
  | literal
  | reserved
  deriving DecidableEq, Repr

/-- A special register that Table 1-4 lists. -/
def specialCode (c : Nat) : Bool :=
  decide (0x100 ≤ c ∧ c ≤ 0x105) || decide (0x108 ≤ c ∧ c ≤ 0x111) || decide (0x114 ≤ c ∧ c ≤ 0x11A) ||
    decide (0x120 ≤ c ∧ c ≤ 0x12F)

/-- A socket exists: `ky` and `qs` on crown tiles only (R16). -/
def sockExists (crown : Bool) (sock : Nat) : Bool := decide (sock < 11) || (crown && decide (sock < 13))

/-- A source code's meaning (Table 3-4). -/
def srcOf (crown : Bool) (c : Nat) : Src :=
  if c < 0x40 then .x c
  else if c < 0x60 then .v (c - 0x40)
  else if c < 0x68 then .g (c - 0x60)
  else if c < 0x80 then .reserved
  else if c < 0xE8 then
    let sock := (c - 0x80) / 8
    if sockExists crown sock then (match c % 8 with | 0 => .result sock | 1 => .status sock | _ => .reserved)
    else .reserved
  else if c < 0x100 then .reserved
  else if c < 0x200 then (if specialCode c then .special c else .reserved)
  else if c < 0x400 then .reserved
  else if c < 0x800 then .imm ((BitVec.ofNat 10 c).signExtend 32)
  else if c = 0xFFF then .literal
  else .reserved

/-- A result port of a socket is wide (Table 1-2): `ls`, `vu`, `mx`, `ky`. -/
def sockWide (sock : Nat) : Bool := sock = 5 || sock = 6 || sock = 7 || sock = 11

/-- The source places a wide value on its bus (Table 3-4). -/
def Src.wide : Src → Bool
  | .v _ => true
  | .result sock => sockWide sock
  | _ => false

/-! ### Destinations (R94) -/

/-- A destination by its code (Table 3-5). -/
inductive Dst where
  | x (i : Nat)
  | v (i : Nat)
  | g (i : Nat)
  | latch (sock p : Nat)
  | trig (sock : Nat)
  | reserved
  deriving DecidableEq, Repr

/-- How many operand ports a socket has (Table 1-2). -/
def portCount (sock : Nat) : Nat := match sock with | 6 => 3 | 8 => 4 | _ => 2

/-- How many operations a socket has (Table 5-3). -/
def opCount (sock : Nat) : Nat := nth 0 [18, 26, 26, 8, 12, 28, 43, 20, 31, 14, 14, 8, 6] sock

/-- A destination code's meaning (Table 3-5, Table 5-3). Code 0 is not a move and is not asked. -/
def dstOf (crown : Bool) (c : Nat) : Dst :=
  if c < 0x40 then .reserved
  else if c < 0x80 then .x (c - 0x40)
  else if c < 0xA0 then .v (c - 0x80)
  else if c < 0xA8 then .g (c - 0xA0)
  else if c < 0x100 then .reserved
  else if c < 0x200 then
    let sock := (c - 0x100) / 16
    if sockExists crown sock && decide (c % 16 < portCount sock) then .latch sock (c % 16) else .reserved
  else if c < 0xF00 then
    let sock := (c - 0x200) / 256
    if sockExists crown sock && decide (c % 256 < opCount sock) then .trig sock else .reserved
  else .reserved

/-- A wide operand latch (Table 1-2). -/
def latchWide (sock p : Nat) : Bool :=
  sock = 6 || (sock = 5 && p = 1) || (sock = 7 && p = 0) || (sock = 8 && p = 2) || (sock = 11 && p = 0)

/-- The socket of a trigger code. -/
def sockOf (code : Nat) : Nat := (code - 0x200) / 256
/-- The operation number of a trigger code. -/
def opOf (code : Nat) : Nat := code % 256

/-- The operation stands a result at `.r` (the Res column of chapter 5). -/
def hasResult (code : Nat) : Bool :=
  let op := opOf code
  match sockOf code with
  | 0 => decide (3 ≤ op ∧ op ≤ 5)
  | 1 | 2 | 3 | 4 | 6 => true
  | 5 => decide (op ≤ 9) || decide (0x14 ≤ op)
  | 7 => decide (op ≤ 5) || op = 0x0D || op = 0x0E
  | 9 => op = 5 || op = 0x0C || op = 0x0D
  | 10 => op = 0 || op = 8 || op = 0x0A || op = 0x0C
  | 11 => op = 2 || op = 7
  | 12 => op = 4 || op = 5
  | _ => false

/-- The operation needs supervisor mode (the Pv column of chapter 5). -/
def supOnly (code : Nat) : Bool :=
  let op := opOf code
  match sockOf code with
  | 10 => op = 9 || decide (0x0B ≤ op)
  | 11 | 12 => true
  | _ => false

/-- The operations marked † in chapter 5: they belong to a launch (R145). -/
def needsLaunch (code : Nat) : Bool :=
  let op := opOf code
  match sockOf code with
  | 0 => op = 0x0B || op = 0x0C
  | 8 => decide (op ≤ 2)
  | 9 => true
  | _ => false

/-! ### Bundles (R87–R89, R101) -/

/-- The slot is empty (R101). -/
def slotEmpty (sl : Slot) : Bool := sl.dst = 0

/-- Slot k of a bundle. -/
def bundleSlot (b : Bundle) (k : Nat) : Slot := vget ⟨0, 0, 0⟩ b.slots k

/-- The literal of R89. -/
def bundleLit (b : Bundle) : Word :=
  let sl := bundleSlot b 7
  BitVec.ofNat 32 (b.lithi.toNat * 2 ^ 28 + sl.src.toNat * 65536 + sl.dst.toNat * 16 + sl.grd.toNat)

/-- The numbers of the slots that hold moves or may hold them: slot 7 is the literal when L = 1 (R89). -/
def bundleNums (b : Bundle) : List Nat := if b.l then [0, 1, 2, 3, 4, 5, 6] else [0, 1, 2, 3, 4, 5, 6, 7]

/-- The slots with their numbers. -/
def bundleSlots (b : Bundle) : List (Nat × Slot) := (bundleNums b).map fun k => (k, bundleSlot b k)

/-- The moves of a bundle: its nonempty slots, in slot order (R101). -/
def bundleMoves (b : Bundle) : List (Nat × Slot) := (bundleSlots b).filter fun x => !slotEmpty x.2

/-- The code of an `ia` operation: `ia0`, or `ia1` for unit 1 (R138). -/
def iaCode (u : Bool) (op : Nat) : Nat := (if u then 0x400 else 0x300) + op

/-- Slot 7 as the literal's low 28 bits (R89). -/
def litSlot (a : Word) : Slot :=
  { src := a.extractLsb' 16 12, dst := a.extractLsb' 4 12, grd := a.extractLsb' 0 4 }

/-- Slot k of the bundle around one trigger. -/
def moveSlot (code : Nat) (m : TrigMove) (k : Nat) : Slot :=
  match m.lit with
  | some a => if k = 7 then litSlot a
    else if m.slot.toNat = k then { src := m.src, dst := BitVec.ofNat 12 code, grd := m.grd } else ⟨0, 0, 0⟩
  | none => if m.slot.toNat = k then { src := m.src, dst := BitVec.ofNat 12 code, grd := m.grd } else ⟨0, 0, 0⟩

/-- The bundle whose only move is a trigger. -/
def moveBundle (code : Nat) (m : TrigMove) : Bundle :=
  { res31 := 0, gap := m.gap, res7 := 0, s := m.s, l := m.lit.isSome,
    lithi := match m.lit with | some a => a.extractLsb' 28 4 | none => 0,
    slots := #v[moveSlot code m 0, moveSlot code m 1, moveSlot code m 2, moveSlot code m 3, moveSlot code m 4,
      moveSlot code m 5, moveSlot code m 6, moveSlot code m 7] }

/-! ### Legality (R92, R97–R101, R115) -/

/-- The first violation of a bundle: REASON, HDR, SLOT and CODE of Table 3-9. -/
structure Violation where
  reason : Nat
  hdr : Bool := false
  slot : Nat := 0
  code : Nat := 0
  deriving DecidableEq, Repr

/-- TINFO of ILLEGAL_BUNDLE (Table 3-9). -/
def Violation.info (v : Violation) : Nat :=
  v.slot + 8 * ofBool v.hdr + 16 * v.reason + 256 * v.code

/-- The complementary-guard pair of R97. -/
def complementary (a b : BitVec 4) : Bool :=
  (decide (1 ≤ a.toNat ∧ a.toNat ≤ 7) && decide (b.toNat = a.toNat + 8)) ||
  (decide (1 ≤ b.toNat ∧ b.toNat ≤ 7) && decide (a.toNat = b.toNat + 8))

/-- Distinct elements of a list, counted. -/
def distinct (l : List Nat) : Nat := (l.foldl (fun m a => insertNat a m) []).length

/-- The `x` registers that moves read. -/
def xReads (ms : List (Nat × Slot)) : List Nat :=
  ms.filterMap fun m => match srcOf true m.2.src.toNat with | .x i => some i | _ => none
/-- The `v` registers that moves read. -/
def vReads (ms : List (Nat × Slot)) : List Nat :=
  ms.filterMap fun m => match srcOf true m.2.src.toNat with | .v i => some i | _ => none
/-- The `x` registers that moves write. -/
def xWrites (ms : List (Nat × Slot)) : List Nat :=
  ms.filterMap fun m => match dstOf true m.2.dst.toNat with | .x i => some i | _ => none
/-- The `v` registers that moves write. -/
def vWrites (ms : List (Nat × Slot)) : List Nat :=
  ms.filterMap fun m => match dstOf true m.2.dst.toNat with | .v i => some i | _ => none

/-- The count of `v` reads of R99: each read of a stream-mode register counts. -/
def vReadCount (strm : Nat → Bool) (ms : List (Nat × Slot)) : Nat :=
  distinct ((vReads ms).filter fun i => !strm i) + ((vReads ms).filter strm).length

/-- The move writes a register in stream mode (R21). -/
def intoStream (strm : Nat → Bool) (d : Dst) : Bool := match d with | .v i => strm i | _ => false

/-- Two moves name one destination outside R97 (reason 6). -/
def clash (sl : Slot) (m : Nat × Slot) : Bool := decide (m.2.dst = sl.dst) && !complementary m.2.grd sl.grd

/-- Two moves trigger one socket with different codes (reason 7, R98). -/
def sameSocket (sl : Slot) (m : Nat × Slot) : Bool :=
  decide (m.2.dst ≠ sl.dst) && (match dstOf true sl.dst.toNat, dstOf true m.2.dst.toNat with
    | .trig a, .trig b => decide (a = b)
    | _, _ => false)

/-- The first violation of the move in slot `k`, given the moves in lower slots (R115). -/
def moveViolation (crown : Bool) (strm : Nat → Bool) (l : Bool) (before : List (Nat × Slot)) (k : Nat) (sl : Slot) :
    Option Violation :=
  let now := before ++ [(k, sl)]
  let s := srcOf crown sl.src.toNat
  let d := dstOf crown sl.dst.toNat
  if sl.grd = 8 then some { reason := 1, slot := k, code := 8 }
  else if s = .reserved then some { reason := 2, slot := k, code := sl.src.toNat }
  else if d = .reserved then some { reason := 3, slot := k, code := sl.dst.toNat }
  else if s = .literal && !l then some { reason := 4, slot := k }
  else if s.wide && decide (4 ≤ k) then some { reason := 5, slot := k, code := sl.src.toNat }
  else if before.any (clash sl) then some { reason := 6, slot := k, code := sl.dst.toNat }
  else if before.any (sameSocket sl) then some { reason := 7, slot := k, code := sl.dst.toNat }
  else if 4 < distinct (xReads now) then some { reason := 8, slot := k }
  else if 4 < distinct (xWrites now) then some { reason := 9, slot := k }
  else if 3 < vReadCount strm now then some { reason := 10, slot := k }
  else if 2 < distinct (vWrites now) then some { reason := 11, slot := k }
  else if intoStream strm d then some { reason := 13, slot := k, code := sl.dst.toNat }
  else none

/-- The first violation of slot `k` (R101, R115). -/
def slotViolation (crown : Bool) (strm : Nat → Bool) (l : Bool) (before : List (Nat × Slot)) (k : Nat) (sl : Slot) :
    Option Violation :=
  if slotEmpty sl then
    if sl.grd ≠ 0 then some { reason := 12, slot := k, code := sl.grd.toNat }
    else if sl.src ≠ 0 then some { reason := 12, slot := k, code := sl.src.toNat }
    else none
  else moveViolation crown strm l before k sl

/-- The first violation of slots in ascending order (R115). -/
def slotsViolation (crown : Bool) (strm : Nat → Bool) (l : Bool) :
    List (Nat × Slot) → List (Nat × Slot) → Option Violation
  | _, [] => none
  | before, (k, sl) :: rest =>
    match slotViolation crown strm l before k sl with
    | some v => some v
    | none => slotsViolation crown strm l (if slotEmpty sl then before else before ++ [(k, sl)]) rest

/-- The first violation of a bundle (R115): header first, then slots. `strm` says which `v` registers are in stream
mode. -/
def violation (crown : Bool) (strm : Nat → Bool) (b : Bundle) : Option Violation :=
  if b.res31 ≠ 0 || b.res7 ≠ 0 || (!b.l && b.lithi ≠ 0) then some { reason := 0, hdr := true }
  else slotsViolation crown strm b.l [] (bundleSlots b)

/-- No register is in stream mode. -/
def noStreams : Nat → Bool := fun _ => false

/-- The `v` registers of a tile in stream mode (R21). -/
def Tile.streaming (t : Tile) (i : Nat) : Bool := decide (24 ≤ i) && (vget {} t.streams (i - 24)).on

/-! ### Guards (R90, R91) -/

/-- The move takes place (Table 3-3). -/
def Tile.taking (t : Tile) (grd : BitVec 4) : Bool :=
  if grd.toNat < 8 then t.guard grd.toNat else !t.guard (grd.toNat - 8)

/-! ### Status ports -/

/-- FLIGHT and STAND (R183). -/
def SockQ.counts (q : SockQ) : Nat := q.stand.length + 16 * q.fly.length

/-- The far access has a reply for a register (R299, R304, R371). -/
def FarReq.replies (r : FarReq) : Bool :=
  match r.kind with
  | .load _ | .atomic _ _ | .ringrd _ _ => true
  | _ => false
/-- The far access is a store (R300, R301). -/
def FarReq.stores (r : FarReq) : Bool :=
  match r.kind with
  | .store _ | .multi | .reduce _ => true
  | _ => false

/-- Steps completed of the macro operation, for `mx.s` (R247). -/
def Tile.macroStat (t : Tile) : Nat := match t.mac with | none => 0 | some m => 65536 + 256 * m.done

/-- The Balance's state as an operation of a cycle sees it: what a `load` brings is visible from its c + 2 (R350). -/
def Bal.view (b : Bal) (clk : Nat) : Bal :=
  match b.old with
  | some o =>
    if o.at_ = clk then
      { b with spins := o.spins, halo := o.halo, loaded := o.loaded, n := o.n, ncol := o.ncol, rbase := o.rbase,
               desc := o.desc }
    else b
  | none => b

/-- The value of `.s` of a socket; of the far accesses that of `ch` shows those of the tile's mode (R178) (R160, R183, R227, R247, R293, R296, R353, R368). -/
def Tile.status (t : Tile) (clk sock : Nat) : Word :=
  let q := (t.sock sock).counts
  BitVec.ofNat 32 <| match sock with
  | 0 => 65536 * t.sstep.toNat + 8 * ofBool t.isSpawn + t.depth
  | 5 => q + 256 * ofBool (t.rmws.any fun r => decide (r.cyc < clk)) +
      ((upTo 8).foldl (fun n i => n + 2 ^ (16 + i) * ofBool (vget {} t.streams i).on +
        2 ^ (24 + i) * ofBool (vget {} t.streams i).ovr) 0)
  | 6 => q + 256 * bits t.vstat.toNat 5 0
  | 7 => q + t.macroStat
  | 8 => 2 ^ 24 * t.lstat.toNat + 2 ^ 20 * t.lcc.toNat + 2 ^ 14 * t.lidx.toNat + 2 ^ 13 * ofBool t.nack +
      2 ^ 8 * (t.far.filter fun r => r.replies && decide (r.sup = t.sup)).length +
      (t.far.filter fun r => r.stores && decide (r.sup = t.sup)).length
  | 9 => q + 512 * ofBool t.bal.msat + 1024 * ofBool t.bal.ent + 2048 * ofBool (t.bal.view clk).loaded +
      (match t.bal.sweep with
        | none => 0
        | some w => 4096 + 8192 * w.phase + 65536 * w.left)
  | 11 => q + 256 * ofBool (t.sha.ready && decide (t.sha.readyAt ≤ clk))
  | _ => q

/-! ### Special registers (Table 1-4) -/

/-- The position and width of WID field i (R56). -/
def widField (widf : DWord) (i : Nat) : Nat × Nat :=
  ((upTo i).foldl (fun p k => p + bits widf.toNat (7 * k + 6) (7 * k)) 0, bits widf.toNat (7 * i + 6) (7 * i))

/-- The value of a special register other than the Dial's (Table 1-4). `w` and `h` are the launch's rectangle. -/
def Tile.special (t : Tile) (w h code : Nat) : Word :=
  if code < 0x106 then (if code - 0x100 < t.depth then (t.loop (code - 0x100)).index else 0)
  else if code = 0x108 then t.wid.setWidth 32
  else if code = 0x109 then (t.wid >>> 32).setWidth 32
  else if code < 0x110 then
    let f := widField t.widf (code - 0x10A)
    BitVec.ofNat 32 ((t.wid.toNat >>> f.1) % 2 ^ f.2)
  else if code = 0x110 then t.dialSample.setWidth 32
  else if code = 0x111 then (t.dialSample >>> 32).setWidth 32
  else if code < 0x118 then vget 0 t.mb (code - 0x114)
  else if code = 0x118 then BitVec.ofNat 32 t.tlin
  else if code = 0x119 then BitVec.ofNat 32 (if w = 0 then 0 else t.tlin % w + 65536 * (t.tlin / w))
  else if code = 0x11A then BitVec.ofNat 32 (w + 65536 * h)
  else
    let c : Counter := vget {} t.cc (code - 0x120)
    BitVec.ofNat 32 (c.count.toNat + 2 ^ 30 * c.status.toNat)

/-! ### Stream registers (R289–R291) -/

/-- Sign-extended stride. -/
def stride (w : Word) : Int := w.toInt

/-- The address of a position (R289). -/
def Stream.addrAt (st : Stream) (p : Nat × Nat × Nat) : Int :=
  (st.base.toNat : Int) + p.1 * stride st.s0 + p.2.1 * stride st.s1 + p.2.2 * stride st.s2

/-- The position of the next pop. -/
def Stream.pos (st : Stream) : Nat × Nat × Nat := (st.i0.toNat, st.i1.toNat, st.i2.toNat)

/-- The position is the pattern's last (R290). -/
def Stream.isLast (st : Stream) (p : Nat × Nat × Nat) : Bool :=
  decide (p = (st.n0.toNat, st.n1.toNat, st.n2.toNat))

/-- The position after one, or none after the last of a pattern that does not wrap (R289, R290). -/
def Stream.succ (st : Stream) (p : Nat × Nat × Nat) : Option (Nat × Nat × Nat) :=
  if p.1 < st.n0.toNat then some (p.1 + 1, p.2.1, p.2.2)
  else if p.2.1 < st.n1.toNat then some (0, p.2.1 + 1, p.2.2)
  else if p.2.2 < st.n2.toNat then some (0, 0, p.2.2 + 1)
  else if st.wrap then some (0, 0, 0) else none

/-- The position `n` after one. -/
def Stream.ahead (st : Stream) (p : Nat × Nat × Nat) : Nat → Option (Nat × Nat × Nat)
  | 0 => some p
  | n + 1 => match st.succ p with
    | none => none
    | some q => st.ahead q n

/-- The position that the next fill reads: the one after those buffered (R291). -/
def Stream.fillPos (st : Stream) : Option (Nat × Nat × Nat) :=
  if st.fin then none else st.ahead st.pos st.buf.length

/-- Bytes of an element. -/
def Stream.size (st : Stream) : Nat := if st.strip then 64 else 4

/-- The first buffered element has been filled before this cycle (R291). -/
def Stream.headReady (st : Stream) (clk : Nat) : Bool :=
  match st.buf with
  | [] => false
  | f :: _ => decide (f.filledAt < clk)

/-- A pop (R290). -/
def Stream.pop (st : Stream) : Stream :=
  match st.succ st.pos with
  | some q => { st with
      i0 := BitVec.ofNat 16 q.1, i1 := BitVec.ofNat 16 q.2.1, i2 := BitVec.ofNat 16 q.2.2, buf := st.buf.drop 1 }
  | none => { st with fin := true, buf := st.buf.drop 1 }

/-- A read of stream register `i`: none while its element is not filled, or its `scfg` not two cycles old (R21, R288, R290,
R291). -/
def Tile.readStream (t : Tile) (clk i : Nat) : Option (Wide × Tile) :=
  let k := i - 24
  let st : Stream := vget {} t.streams k
  if clk < st.readyAt then none
  else if st.fin then
    some (0, if t.sup then t else { t with streams := vset t.streams k { st with ovr := true } })
  else if !st.headReady clk then none
  else match st.buf with
    | [] => none
    | f :: _ =>
      if t.sup then some (f.val, t)
      else
        let t := if f.poison then t.setCir 0 else t
        some (f.val, { t with streams := vset t.streams k st.pop, fillQ := t.fillQ ++ [⟨clk, k, clk + 1⟩] })

/-! ### Reading a move's source (R102) -/

/-- What stops a bundle while it reads its sources. -/
inductive ReadStop where
  | stall
  | empty (slot code : Nat)
  deriving DecidableEq, Repr

/-- The value at `.r` (R105, R106). -/
def Tile.readResult (t : Tile) (sock : Nat) : Option Wide :=
  match (t.sock sock).stand with
  | r :: _ => some r.val
  | [] => if t.locked sock then none else some 0

/-- The value of a source, and the tile with its stream popped: none while it must stall (R44). An empty data-locked
port reads 0 here and is caught by `Tile.emptyRead`. `pre` is the tile at the start of the cycle, of which a status port
tells (R293). -/
def Tile.readSrc (t pre : Tile) (clk w h : Nat) (lit : Word) (s : Src) : Option (Wide × Tile) :=
  match s with
  | .x i => some (wideOf (t.getX i), t)
  | .v i => if t.streaming i then t.readStream clk i else some (t.getV i, t)
  | .g i => some (if t.guard i then 1 else 0, t)
  | .result k => match t.readResult k with
    | some a => some (a, t)
    | none => if (t.sock k).fly.isEmpty then some (0, t) else none
  | .status k => some (wideOf (pre.status clk k), t)
  | .special c => some (wideOf (t.special w h c), t)
  | .imm a => some (wideOf a, t)
  | .literal => some (wideOf lit, t)
  | .reserved => some (0, t)

/-- The move reads a data-locked port with nothing standing and nothing in flight (R106). -/
def Tile.emptyRead (t : Tile) (s : Src) : Bool :=
  match s with
  | .result k => t.locked k && (t.sock k).stand.isEmpty && (t.sock k).fly.isEmpty
  | _ => false

/-- The values of the taking moves in slot order: none while one must stall (R102). -/
def Tile.readMoves (t pre : Tile) (clk w h : Nat) (lit : Word) (crown : Bool) :
    List (Nat × Slot) → Option (List (Nat × Nat × Wide) × Tile)
  | [] => some ([], t)
  | (k, sl) :: rest =>
    match t.readSrc pre clk w h lit (srcOf crown sl.src.toNat) with
    | none => none
    | some (a, t) =>
      match t.readMoves pre clk w h lit crown rest with
      | none => none
      | some (l, t) => some ((k, sl.dst.toNat, a) :: l, t)

/-- The result that a taking read consumes leaves its data-locked port (R106). -/
def Tile.consume (t : Tile) (sock : Nat) : Tile :=
  if t.locked sock then
    let q := t.sock sock
    t.setSock sock { q with stand := q.stand.drop 1 }
  else t

/-! ### Writing a move's destination (R96) -/

/-- A move into a register, a guard or an operand latch; a trigger starts its operation elsewhere (R96, R17). -/
def Tile.writeDst (t : Tile) (d : Dst) (a : Wide) : Tile :=
  match d with
  | .x i => t.setX i (narrowOf a)
  | .v i => t.setV i a
  | .g i => t.setGuard i (a.getLsbD 0)
  | .latch k p => t.setLatch k p (if latchWide k p then a else wideOf (narrowOf a))
  | .trig _ => t
  | .reserved => t

end Sys2Proof.Machine
end

