-- ==== Sys2Proof/WellFormed.lean ====
section
/-! DEFINITION. Well-formed instructions: what an encoding or an event can name.

A bundle is well formed when it is legal on some tile (R115, R143) and is not the bundle of a single trigger, which has
its own constructor. A row of a socket operation is well formed when the bundle around its trigger is legal. The rows of
events name tiles, sockets, rings and registers that exist. -/

namespace Sys2Proof

open Machine

/-- A compute tile, or one of the 32 tiles of either crown complex (R9, R509). -/
def isKey (t : Nat) : Bool := isTile t || (decide (0x40000 ≤ t) && decide (t < 0x40040))

/-- The single trigger of a bundle: its slot number, when the bundle has exactly one move and that move is a trigger. -/
def singleTrigger (b : Bundle) : Option (Nat × Slot) :=
  match bundleMoves b with
  | [(k, sl)] => match dstOf true sl.dst.toNat with
    | .trig _ => some (k, sl)
    | _ => none
  | _ => none

/-- A general bundle: legal, and not the bundle of a single trigger. -/
def wfBundle (b : Bundle) : Bool := (violation true noStreams b).isNone && (singleTrigger b).isNone

/-- The bundle around one trigger is legal; a literal takes slot 7 (R89). -/
def wfTrig (code : Nat) (m : TrigMove) : Bool :=
  (m.lit.isNone || decide (m.slot.toNat < 7)) && (violation true noStreams (moveBundle code m)).isNone

/-- Well-formed instructions. -/
def Instr.wf : Instr → Bool
  | .bundleIssue b => wfBundle b
  | .resultComplete t sock => isKey t && decide (sock < 13)
  | .interruptEntry t => isKey t
  | .contextSwitchEntry t => isKey t
  | .op4Stage t => isKey t
  | .maccWrite t => isKey t
  | .mxMacroStep t => isKey t
  | .rmwWrite t => isKey t
  | .ringUpdate t => isKey t
  | .streamFill t s => isKey t && decide (s < 8)
  | .farLoadReply t _ => isKey t
  | .farStoreAck t _ => isKey t
  | .farAccessAtHome t _ _ => isKey t
  | .demandResolved _ _ _ => true
  | .zeroingDone _ _ => true
  | .copyGroupLand t _ => isKey t
  | .escapementRelease _ => true
  | .initialRelease _ => true
  | .dmaGranuleDone t _ _ _ => isKey t
  | .layoutAdmit die eng => decide (die < 16) && decide (eng < 4)
  | .layoutElementWrite die eng _ _ _ => decide (die < 16) && decide (eng < 4)
  | .spawnAnswer t => isKey t
  | .spawnTargetStart t => isKey t
  | .waddrTimeout t => isKey t
  | .balPhaseUpdate t => isKey t
  | .balHaloLand t _ => isKey t
  | .balBarrierRelease t => isKey t
  | .balReadoutLand t _ => isKey t
  | .fverifyDone t _ => isKey t
  | .mextendDone t _ => isKey t
  | .keyldDone t _ => isKey t
  | .cuJmp m => wfTrig 0x200 m
  | .cuJrel m => wfTrig 0x201 m
  | .cuJtab m => wfTrig 0x202 m
  | .cuCall m => wfTrig 0x203 m
  | .cuCallrel m => wfTrig 0x204 m
  | .cuCalltab m => wfTrig 0x205 m
  | .cuRet m => wfTrig 0x206 m
  | .cuLoop m => wfTrig 0x207 m
  | .cuLoopi m => wfTrig 0x208 m
  | .cuLoopnext m => wfTrig 0x209 m
  | .cuLoopexit m => wfTrig 0x20A m
  | .cuNextwork m => wfTrig 0x20B m
  | .cuSync m => wfTrig 0x20C m
  | .cuHalt m => wfTrig 0x20D m
  | .cuTrap m => wfTrig 0x20E m
  | .cuBrk m => wfTrig 0x20F m
  | .cuLoopidx m => wfTrig 0x210 m
  | .cuLoopcnt m => wfTrig 0x211 m
  | .iaAdd u m => wfTrig (iaCode u 0x00) m
  | .iaSub u m => wfTrig (iaCode u 0x01) m
  | .iaAdds u m => wfTrig (iaCode u 0x02) m
  | .iaSubs u m => wfTrig (iaCode u 0x03) m
  | .iaAnd u m => wfTrig (iaCode u 0x04) m
  | .iaOr u m => wfTrig (iaCode u 0x05) m
  | .iaXor u m => wfTrig (iaCode u 0x06) m
  | .iaAndn u m => wfTrig (iaCode u 0x07) m
  | .iaShl u m => wfTrig (iaCode u 0x08) m
  | .iaShr u m => wfTrig (iaCode u 0x09) m
  | .iaSar u m => wfTrig (iaCode u 0x0A) m
  | .iaRol u m => wfTrig (iaCode u 0x0B) m
  | .iaMin u m => wfTrig (iaCode u 0x0C) m
  | .iaMax u m => wfTrig (iaCode u 0x0D) m
  | .iaMinu u m => wfTrig (iaCode u 0x0E) m
  | .iaMaxu u m => wfTrig (iaCode u 0x0F) m
  | .iaEq u m => wfTrig (iaCode u 0x10) m
  | .iaNe u m => wfTrig (iaCode u 0x11) m
  | .iaLt u m => wfTrig (iaCode u 0x12) m
  | .iaLtu u m => wfTrig (iaCode u 0x13) m
  | .iaLe u m => wfTrig (iaCode u 0x14) m
  | .iaLeu u m => wfTrig (iaCode u 0x15) m
  | .iaSel u m => wfTrig (iaCode u 0x16) m
  | .iaClz u m => wfTrig (iaCode u 0x17) m
  | .iaPopc u m => wfTrig (iaCode u 0x18) m
  | .iaBfx u m => wfTrig (iaCode u 0x19) m
  | .mdMul m => wfTrig 0x500 m
  | .mdMulh m => wfTrig 0x501 m
  | .mdMulhu m => wfTrig 0x502 m
  | .mdMac m => wfTrig 0x503 m
  | .mdDiv m => wfTrig 0x504 m
  | .mdDivu m => wfTrig 0x505 m
  | .mdRem m => wfTrig 0x506 m
  | .mdRemu m => wfTrig 0x507 m
  | .agLea m => wfTrig 0x600 m
  | .agLeas m => wfTrig 0x601 m
  | .agSeg m => wfTrig 0x602 m
  | .agSegh m => wfTrig 0x603 m
  | .agSegchk m => wfTrig 0x604 m
  | .agTid m => wfTrig 0x605 m
  | .agTwin m => wfTrig 0x606 m
  | .agInc m => wfTrig 0x607 m
  | .agIncw m => wfTrig 0x608 m
  | .agBcyc m => wfTrig 0x609 m
  | .agIlv m => wfTrig 0x60A m
  | .agFmode m => wfTrig 0x60B m
  | .lsLdb m => wfTrig 0x700 m
  | .lsLdbs m => wfTrig 0x701 m
  | .lsLdh m => wfTrig 0x702 m
  | .lsLdhs m => wfTrig 0x703 m
  | .lsLdw m => wfTrig 0x704 m
  | .lsLdd m => wfTrig 0x705 m
  | .lsLdv m => wfTrig 0x706 m
  | .lsLdvt m => wfTrig 0x707 m
  | .lsLdwa m => wfTrig 0x708 m
  | .lsLdda m => wfTrig 0x709 m
  | .lsStb m => wfTrig 0x70A m
  | .lsSth m => wfTrig 0x70B m
  | .lsStw m => wfTrig 0x70C m
  | .lsStd m => wfTrig 0x70D m
  | .lsStv m => wfTrig 0x70E m
  | .lsStvm m => wfTrig 0x70F m
  | .lsStwr m => wfTrig 0x710 m
  | .lsStdr m => wfTrig 0x711 m
  | .lsScfg m => wfTrig 0x712 m
  | .lsSstop m => wfTrig 0x713 m
  | .lsRingacq m => wfTrig 0x714 m
  | .lsRingrel m => wfTrig 0x715 m
  | .lsRmwadd m => wfTrig 0x716 m
  | .lsRmwswap m => wfTrig 0x717 m
  | .lsRmwcas m => wfTrig 0x718 m
  | .lsRmwmin m => wfTrig 0x719 m
  | .lsRmwmax m => wfTrig 0x71A m
  | .lsRmwor m => wfTrig 0x71B m
  | .vuFadd m => wfTrig 0x800 m
  | .vuFsub m => wfTrig 0x801 m
  | .vuFmul m => wfTrig 0x802 m
  | .vuFma m => wfTrig 0x803 m
  | .vuFmin m => wfTrig 0x804 m
  | .vuFmax m => wfTrig 0x805 m
  | .vuFdiv m => wfTrig 0x806 m
  | .vuFsqrt m => wfTrig 0x807 m
  | .vuFrcp m => wfTrig 0x808 m
  | .vuFrsq m => wfTrig 0x809 m
  | .vuFexp2 m => wfTrig 0x80A m
  | .vuFlog2 m => wfTrig 0x80B m
  | .vuFrnd m => wfTrig 0x80C m
  | .vuFcmpeq m => wfTrig 0x80D m
  | .vuFcmplt m => wfTrig 0x80E m
  | .vuFcmple m => wfTrig 0x80F m
  | .vuVadd m => wfTrig 0x810 m
  | .vuVsub m => wfTrig 0x811 m
  | .vuVadds m => wfTrig 0x812 m
  | .vuVsubs m => wfTrig 0x813 m
  | .vuVmul m => wfTrig 0x814 m
  | .vuVand m => wfTrig 0x815 m
  | .vuVor m => wfTrig 0x816 m
  | .vuVxor m => wfTrig 0x817 m
  | .vuVshl m => wfTrig 0x818 m
  | .vuVshr m => wfTrig 0x819 m
  | .vuVsar m => wfTrig 0x81A m
  | .vuVmin m => wfTrig 0x81B m
  | .vuVmax m => wfTrig 0x81C m
  | .vuVcmpeq m => wfTrig 0x81D m
  | .vuVcmplt m => wfTrig 0x81E m
  | .vuCvtif m => wfTrig 0x81F m
  | .vuCvtfi m => wfTrig 0x820 m
  | .vuCvtfh m => wfTrig 0x821 m
  | .vuCvtfb m => wfTrig 0x822 m
  | .vuCvthf m => wfTrig 0x823 m
  | .vuCvtbf m => wfTrig 0x824 m
  | .vuPacki8 m => wfTrig 0x825 m
  | .vuUnpki8 m => wfTrig 0x826 m
  | .vuVperm m => wfTrig 0x827 m
  | .vuVbcast m => wfTrig 0x828 m
  | .vuRsum m => wfTrig 0x829 m
  | .vuRmax m => wfTrig 0x82A m
  | .mxOp4 m => wfTrig 0x900 m
  | .mxOp4z m => wfTrig 0x901 m
  | .mxOp4d m => wfTrig 0x902 m
  | .mxOp4i m => wfTrig 0x903 m
  | .mxOp4s m => wfTrig 0x904 m
  | .mxAcrd m => wfTrig 0x905 m
  | .mxAcclr m => wfTrig 0x906 m
  | .mxMma16 m => wfTrig 0x907 m
  | .mxMma16d m => wfTrig 0x908 m
  | .mxMma16i m => wfTrig 0x909 m
  | .mxMma16s m => wfTrig 0x90A m
  | .mxMrow m => wfTrig 0x90B m
  | .mxMcol m => wfTrig 0x90C m
  | .mxMrowr m => wfTrig 0x90D m
  | .mxMcolr m => wfTrig 0x90E m
  | .mxMacc m => wfTrig 0x90F m
  | .mxMzero m => wfTrig 0x910 m
  | .mxMld m => wfTrig 0x911 m
  | .mxMst m => wfTrig 0x912 m
  | .mxMfmt m => wfTrig 0x913 m
  | .chSend m => wfTrig 0xA00 m
  | .chHalo m => wfTrig 0xA01 m
  | .chSpawn m => wfTrig 0xA02 m
  | .chFld m => wfTrig 0xA03 m
  | .chFldv m => wfTrig 0xA04 m
  | .chFst m => wfTrig 0xA05 m
  | .chFstv m => wfTrig 0xA06 m
  | .chFstm m => wfTrig 0xA07 m
  | .chFstred m => wfTrig 0xA08 m
  | .chBadd m => wfTrig 0xA09 m
  | .chBaddf m => wfTrig 0xA0A m
  | .chBaddh m => wfTrig 0xA0B m
  | .chBmin m => wfTrig 0xA0C m
  | .chBmax m => wfTrig 0xA0D m
  | .chBand m => wfTrig 0xA0E m
  | .chBor m => wfTrig 0xA0F m
  | .chBxor m => wfTrig 0xA10 m
  | .chBswap m => wfTrig 0xA11 m
  | .chBcas m => wfTrig 0xA12 m
  | .chBcasd m => wfTrig 0xA13 m
  | .chBred m => wfTrig 0xA14 m
  | .chDma m => wfTrig 0xA15 m
  | .chDmaw m => wfTrig 0xA16 m
  | .chLayout m => wfTrig 0xA17 m
  | .chColl m => wfTrig 0xA18 m
  | .chCcset m => wfTrig 0xA19 m
  | .chCcwait m => wfTrig 0xA1A m
  | .chCcclr m => wfTrig 0xA1B m
  | .chMbclr m => wfTrig 0xA1C m
  | .chMbwait m => wfTrig 0xA1D m
  | .chWaddr m => wfTrig 0xA1E m
  | .balLoad m => wfTrig 0xB00 m
  | .balSeed m => wfTrig 0xB01 m
  | .balBeta m => wfTrig 0xB02 m
  | .balClamp m => wfTrig 0xB03 m
  | .balUnclamp m => wfTrig 0xB04 m
  | .balSweep m => wfTrig 0xB05 m
  | .balRdspin m => wfTrig 0xB06 m
  | .balRdmarg m => wfTrig 0xB07 m
  | .balClrmarg m => wfTrig 0xB08 m
  | .balSeedrng m => wfTrig 0xB09 m
  | .balGroup m => wfTrig 0xB0A m
  | .balLink m => wfTrig 0xB0B m
  | .balStateRead m => wfTrig 0xB0C m
  | .balSpin m => wfTrig 0xB0D m
  | .syCrd m => wfTrig 0xC00 m
  | .syCrw m => wfTrig 0xC01 m
  | .syCrs m => wfTrig 0xC02 m
  | .syCrc m => wfTrig 0xC03 m
  | .syFence m => wfTrig 0xC04 m
  | .syFencei m => wfTrig 0xC05 m
  | .syRel m => wfTrig 0xC06 m
  | .syAcq m => wfTrig 0xC07 m
  | .syChkerr m => wfTrig 0xC08 m
  | .syTret m => wfTrig 0xC09 m
  | .syCnt m => wfTrig 0xC0A m
  | .syCntcfg m => wfTrig 0xC0B m
  | .syPend m => wfTrig 0xC0C m
  | .syIntack m => wfTrig 0xC0D m
  | .kyShinit m => wfTrig 0xD00 m
  | .kyAbsorb m => wfTrig 0xD01 m
  | .kySqueeze m => wfTrig 0xD02 m
  | .kyFverify m => wfTrig 0xD03 m
  | .kyMextend m => wfTrig 0xD04 m
  | .kyKeyld m => wfTrig 0xD05 m
  | .kyKeyclr m => wfTrig 0xD06 m
  | .kyFuserd m => wfTrig 0xD07 m
  | .qsRingrd m => wfTrig 0xE00 m
  | .qsRingadv m => wfTrig 0xE01 m
  | .qsHeadpub m => wfTrig 0xE02 m
  | .qsEnq m => wfTrig 0xE03 m
  | .qsDeq m => wfTrig 0xE04 m
  | .qsQstat m => wfTrig 0xE05 m
  | .ringPoll q => decide (q < 4096)
  | .ringNudge q => decide (q < 4096)
  | .queueSliceExpiry k => decide (k < 256)
  | .launchPacket q => decide (q < 4096)
  | .writePacket q => decide (q < 4096)
  | .signalPacket q => decide (q < 4096)
  | .writeSignalPacket q => decide (q < 4096)
  | .waitPacket q => decide (q < 4096)
  | .loadcodePacket q => decide (q < 4096)
  | .fencePacket q => decide (q < 4096)
  | .timetablePacket q => decide (q < 4096)
  | .waitPoll q => decide (q < 4096)
  | .waitTimeout q => decide (q < 4096)
  | .fencePacketDone q => decide (q < 4096)
  | .dependencePoll _ d => decide (d < 8)
  | .startTickCheck _ => true
  | .launchPlace _ => true
  | .launchReservation _ => true
  | .slicePreempt _ => true
  | .swapOutComplete _ => true
  | .launchRestore _ => true
  | .launchComplete _ => true
  | .launchAbort q _ => decide (q < 4096)
  | .ringCtlWrite q _ => decide (q < 4096)
  | .ringExpWrite q _ => decide (q < 4096)
  | .crnRegisterWrite addr n _ => decide (n = 2 ∨ n = 4 ∨ n = 8 ∨ n = 16 ∨ n = 32) && decide (addr % n = 0)
  | .xlLiveWrite _ => true
  | .xlGenerationRaise _ => true
  | .xlCacheFlush => true
  | .generationRaiseDone => true
  | .migrationGo _ => true
  | .migrationCopy => true
  | .migrationForward => true
  | .migrationDone => true
  | .demandAck => true
  | .ualinkRequestIn p _ => decide (p < 64)
  | .keyPhaseExpiry _ => true
  | .collBegin q => decide (q < 4096)
  | .collChunkLand q _ _ _ => decide (q < 4096)
  | .brGroupWrite q _ => decide (q < 4096)
  | .windowActivate w => decide (w < 4096)
  | .windowRevokeStart w => decide (w < 4096)
  | .revocationApply w home => decide (w < 4096) && decide (home < 18)
  | .revocationComplete w => decide (w < 4096)
  | .windowFree w => decide (w < 4096)
  | .windowExportCmd _ => true
  | .windowRevokeCmd _ => true
  | .hdmCtlWrite k _ => decide (k < 8)
  | .brPortRetryClear p => decide (p < 64)
  | .grperrClear => true
  | .hostCxlMemAccess _ _ _ _ => true
  | .fenceGo f _ => decide (f < 16)
  | .fenceComplete f => decide (f < 16)
  | .autoFence _ f => decide (f < 16)
  | .tileParityError t => isKey t
  | .scrubRead _ _ _ => true
  | .edgeDown e => decide (e < 24)
  | .linkRetryReport _ _ _ => true
  | .cxlLinkFail => true
  | .twinCompare t => isKey t
  | .twinHoldTimeout t => isKey t
  | .selftestDone t _ => isKey t
  | .retirementMapWrite d bits => decide (d < 16) && bits.all (fun n => decide (n < 10240))
  | .moduleReset => true
  | .bringupCheckDone fn _ => decide (fn < 64)
  | .pllLockLoss d => decide (d < 16)
  | .thermalTrip d _ => decide (d < 16)
  | .overtempPowerOff d _ => decide (d < 16)
  | .dialTick => true
  | .ppsInEdge => true
  | .dialAdjWrite _ => true
  | .dialStep _ => true
  | .standbyReset => true
  | .standbyBoot _ => true
  | .bootRomDone => true
  | .handoverGo _ => true
  | .handoverAbort => true
  | .handoverDone => true
  | .heartbeat => true
  | .handoverTimeout => true
  | .heartbeatHang => true
  | .arbWrite _ => true
  | .idSignGo => true
  | .idSignDone => true
  | .stage _ => true
  | .activate => true
  | .setret _ => true
  | .setpod _ => true
  | .info => true
  | .spdmRequest _ => true
  | .setFabricKey _ _ _ => true
  | .clearFabricKey _ _ => true
  | .ualinkPortTrainingDone p _ => decide (p < 64)
  | .ualinkPortFailure p => decide (p < 64)
  | .thermalTripClear d _ => decide (d < 16)
  | .hostSnoopResponse _ => true
  | .msixVector0Repeat => true

end Sys2Proof
end

