-- ==== Sys2Proof/Decode.lean ====
section
/-! DEFINITION. The decoder, total on any 256 bits and refusing an illegal bundle by name (R87–R101, R115, R143), and
after it the encoder, both from the same fields of Tables 3-1 and 3-2. -/

namespace Sys2Proof

open Machine

/-! ### Bits and bundles (R87, R88) -/

/-- Slot k of 256 bits (R88). -/
def slotOfBits (w : BitVec 256) (k : Nat) : Slot :=
  { src := w.extractLsb' (32 + 28 * k + 16) 12, dst := w.extractLsb' (32 + 28 * k + 4) 12,
    grd := w.extractLsb' (32 + 28 * k) 4 }

/-- The bundle of 256 bits (R87, R88). -/
def bundleOfBits (w : BitVec 256) : Bundle :=
  { res31 := w.extractLsb' 16 16, gap := w.extractLsb' 8 8, res7 := w.extractLsb' 6 2, s := w.getLsbD 5, l := w.getLsbD 4,
    lithi := w.extractLsb' 0 4,
    slots := #v[slotOfBits w 0, slotOfBits w 1, slotOfBits w 2, slotOfBits w 3, slotOfBits w 4, slotOfBits w 5,
      slotOfBits w 6, slotOfBits w 7] }

/-! ### Rows by trigger code -/

/-- The row of a `cu` operation number (Table 5-3). -/
def cuRow (op : Nat) (m : TrigMove) : Option Instr :=
  match op with
  | 0 => some (.cuJmp m)
  | 1 => some (.cuJrel m)
  | 2 => some (.cuJtab m)
  | 3 => some (.cuCall m)
  | 4 => some (.cuCallrel m)
  | 5 => some (.cuCalltab m)
  | 6 => some (.cuRet m)
  | 7 => some (.cuLoop m)
  | 8 => some (.cuLoopi m)
  | 9 => some (.cuLoopnext m)
  | 10 => some (.cuLoopexit m)
  | 11 => some (.cuNextwork m)
  | 12 => some (.cuSync m)
  | 13 => some (.cuHalt m)
  | 14 => some (.cuTrap m)
  | 15 => some (.cuBrk m)
  | 16 => some (.cuLoopidx m)
  | 17 => some (.cuLoopcnt m)
  | _ => none

/-- The row of a `ia` operation number (Table 5-3). -/
def iaRow (u : Bool) (op : Nat) (m : TrigMove) : Option Instr :=
  match op with
  | 0 => some (.iaAdd u m)
  | 1 => some (.iaSub u m)
  | 2 => some (.iaAdds u m)
  | 3 => some (.iaSubs u m)
  | 4 => some (.iaAnd u m)
  | 5 => some (.iaOr u m)
  | 6 => some (.iaXor u m)
  | 7 => some (.iaAndn u m)
  | 8 => some (.iaShl u m)
  | 9 => some (.iaShr u m)
  | 10 => some (.iaSar u m)
  | 11 => some (.iaRol u m)
  | 12 => some (.iaMin u m)
  | 13 => some (.iaMax u m)
  | 14 => some (.iaMinu u m)
  | 15 => some (.iaMaxu u m)
  | 16 => some (.iaEq u m)
  | 17 => some (.iaNe u m)
  | 18 => some (.iaLt u m)
  | 19 => some (.iaLtu u m)
  | 20 => some (.iaLe u m)
  | 21 => some (.iaLeu u m)
  | 22 => some (.iaSel u m)
  | 23 => some (.iaClz u m)
  | 24 => some (.iaPopc u m)
  | 25 => some (.iaBfx u m)
  | _ => none

/-- The row of a `md` operation number (Table 5-3). -/
def mdRow (op : Nat) (m : TrigMove) : Option Instr :=
  match op with
  | 0 => some (.mdMul m)
  | 1 => some (.mdMulh m)
  | 2 => some (.mdMulhu m)
  | 3 => some (.mdMac m)
  | 4 => some (.mdDiv m)
  | 5 => some (.mdDivu m)
  | 6 => some (.mdRem m)
  | 7 => some (.mdRemu m)
  | _ => none

/-- The row of a `ag` operation number (Table 5-3). -/
def agRow (op : Nat) (m : TrigMove) : Option Instr :=
  match op with
  | 0 => some (.agLea m)
  | 1 => some (.agLeas m)
  | 2 => some (.agSeg m)
  | 3 => some (.agSegh m)
  | 4 => some (.agSegchk m)
  | 5 => some (.agTid m)
  | 6 => some (.agTwin m)
  | 7 => some (.agInc m)
  | 8 => some (.agIncw m)
  | 9 => some (.agBcyc m)
  | 10 => some (.agIlv m)
  | 11 => some (.agFmode m)
  | _ => none

/-- The row of a `ls` operation number (Table 5-3). -/
def lsRow (op : Nat) (m : TrigMove) : Option Instr :=
  match op with
  | 0 => some (.lsLdb m)
  | 1 => some (.lsLdbs m)
  | 2 => some (.lsLdh m)
  | 3 => some (.lsLdhs m)
  | 4 => some (.lsLdw m)
  | 5 => some (.lsLdd m)
  | 6 => some (.lsLdv m)
  | 7 => some (.lsLdvt m)
  | 8 => some (.lsLdwa m)
  | 9 => some (.lsLdda m)
  | 10 => some (.lsStb m)
  | 11 => some (.lsSth m)
  | 12 => some (.lsStw m)
  | 13 => some (.lsStd m)
  | 14 => some (.lsStv m)
  | 15 => some (.lsStvm m)
  | 16 => some (.lsStwr m)
  | 17 => some (.lsStdr m)
  | 18 => some (.lsScfg m)
  | 19 => some (.lsSstop m)
  | 20 => some (.lsRingacq m)
  | 21 => some (.lsRingrel m)
  | 22 => some (.lsRmwadd m)
  | 23 => some (.lsRmwswap m)
  | 24 => some (.lsRmwcas m)
  | 25 => some (.lsRmwmin m)
  | 26 => some (.lsRmwmax m)
  | 27 => some (.lsRmwor m)
  | _ => none

/-- The row of a `vu` operation number (Table 5-3). -/
def vuRow (op : Nat) (m : TrigMove) : Option Instr :=
  match op with
  | 0 => some (.vuFadd m)
  | 1 => some (.vuFsub m)
  | 2 => some (.vuFmul m)
  | 3 => some (.vuFma m)
  | 4 => some (.vuFmin m)
  | 5 => some (.vuFmax m)
  | 6 => some (.vuFdiv m)
  | 7 => some (.vuFsqrt m)
  | 8 => some (.vuFrcp m)
  | 9 => some (.vuFrsq m)
  | 10 => some (.vuFexp2 m)
  | 11 => some (.vuFlog2 m)
  | 12 => some (.vuFrnd m)
  | 13 => some (.vuFcmpeq m)
  | 14 => some (.vuFcmplt m)
  | 15 => some (.vuFcmple m)
  | 16 => some (.vuVadd m)
  | 17 => some (.vuVsub m)
  | 18 => some (.vuVadds m)
  | 19 => some (.vuVsubs m)
  | 20 => some (.vuVmul m)
  | 21 => some (.vuVand m)
  | 22 => some (.vuVor m)
  | 23 => some (.vuVxor m)
  | 24 => some (.vuVshl m)
  | 25 => some (.vuVshr m)
  | 26 => some (.vuVsar m)
  | 27 => some (.vuVmin m)
  | 28 => some (.vuVmax m)
  | 29 => some (.vuVcmpeq m)
  | 30 => some (.vuVcmplt m)
  | 31 => some (.vuCvtif m)
  | 32 => some (.vuCvtfi m)
  | 33 => some (.vuCvtfh m)
  | 34 => some (.vuCvtfb m)
  | 35 => some (.vuCvthf m)
  | 36 => some (.vuCvtbf m)
  | 37 => some (.vuPacki8 m)
  | 38 => some (.vuUnpki8 m)
  | 39 => some (.vuVperm m)
  | 40 => some (.vuVbcast m)
  | 41 => some (.vuRsum m)
  | 42 => some (.vuRmax m)
  | _ => none

/-- The row of a `mx` operation number (Table 5-3). -/
def mxRow (op : Nat) (m : TrigMove) : Option Instr :=
  match op with
  | 0 => some (.mxOp4 m)
  | 1 => some (.mxOp4z m)
  | 2 => some (.mxOp4d m)
  | 3 => some (.mxOp4i m)
  | 4 => some (.mxOp4s m)
  | 5 => some (.mxAcrd m)
  | 6 => some (.mxAcclr m)
  | 7 => some (.mxMma16 m)
  | 8 => some (.mxMma16d m)
  | 9 => some (.mxMma16i m)
  | 10 => some (.mxMma16s m)
  | 11 => some (.mxMrow m)
  | 12 => some (.mxMcol m)
  | 13 => some (.mxMrowr m)
  | 14 => some (.mxMcolr m)
  | 15 => some (.mxMacc m)
  | 16 => some (.mxMzero m)
  | 17 => some (.mxMld m)
  | 18 => some (.mxMst m)
  | 19 => some (.mxMfmt m)
  | _ => none

/-- The row of a `ch` operation number (Table 5-3). -/
def chRow (op : Nat) (m : TrigMove) : Option Instr :=
  match op with
  | 0 => some (.chSend m)
  | 1 => some (.chHalo m)
  | 2 => some (.chSpawn m)
  | 3 => some (.chFld m)
  | 4 => some (.chFldv m)
  | 5 => some (.chFst m)
  | 6 => some (.chFstv m)
  | 7 => some (.chFstm m)
  | 8 => some (.chFstred m)
  | 9 => some (.chBadd m)
  | 10 => some (.chBaddf m)
  | 11 => some (.chBaddh m)
  | 12 => some (.chBmin m)
  | 13 => some (.chBmax m)
  | 14 => some (.chBand m)
  | 15 => some (.chBor m)
  | 16 => some (.chBxor m)
  | 17 => some (.chBswap m)
  | 18 => some (.chBcas m)
  | 19 => some (.chBcasd m)
  | 20 => some (.chBred m)
  | 21 => some (.chDma m)
  | 22 => some (.chDmaw m)
  | 23 => some (.chLayout m)
  | 24 => some (.chColl m)
  | 25 => some (.chCcset m)
  | 26 => some (.chCcwait m)
  | 27 => some (.chCcclr m)
  | 28 => some (.chMbclr m)
  | 29 => some (.chMbwait m)
  | 30 => some (.chWaddr m)
  | _ => none

/-- The row of a `bal` operation number (Table 5-3). -/
def balRow (op : Nat) (m : TrigMove) : Option Instr :=
  match op with
  | 0 => some (.balLoad m)
  | 1 => some (.balSeed m)
  | 2 => some (.balBeta m)
  | 3 => some (.balClamp m)
  | 4 => some (.balUnclamp m)
  | 5 => some (.balSweep m)
  | 6 => some (.balRdspin m)
  | 7 => some (.balRdmarg m)
  | 8 => some (.balClrmarg m)
  | 9 => some (.balSeedrng m)
  | 10 => some (.balGroup m)
  | 11 => some (.balLink m)
  | 12 => some (.balStateRead m)
  | 13 => some (.balSpin m)
  | _ => none

/-- The row of a `sy` operation number (Table 5-3). -/
def syRow (op : Nat) (m : TrigMove) : Option Instr :=
  match op with
  | 0 => some (.syCrd m)
  | 1 => some (.syCrw m)
  | 2 => some (.syCrs m)
  | 3 => some (.syCrc m)
  | 4 => some (.syFence m)
  | 5 => some (.syFencei m)
  | 6 => some (.syRel m)
  | 7 => some (.syAcq m)
  | 8 => some (.syChkerr m)
  | 9 => some (.syTret m)
  | 10 => some (.syCnt m)
  | 11 => some (.syCntcfg m)
  | 12 => some (.syPend m)
  | 13 => some (.syIntack m)
  | _ => none

/-- The row of a `ky` operation number (Table 5-3). -/
def kyRow (op : Nat) (m : TrigMove) : Option Instr :=
  match op with
  | 0 => some (.kyShinit m)
  | 1 => some (.kyAbsorb m)
  | 2 => some (.kySqueeze m)
  | 3 => some (.kyFverify m)
  | 4 => some (.kyMextend m)
  | 5 => some (.kyKeyld m)
  | 6 => some (.kyKeyclr m)
  | 7 => some (.kyFuserd m)
  | _ => none

/-- The row of a `qs` operation number (Table 5-3). -/
def qsRow (op : Nat) (m : TrigMove) : Option Instr :=
  match op with
  | 0 => some (.qsRingrd m)
  | 1 => some (.qsRingadv m)
  | 2 => some (.qsHeadpub m)
  | 3 => some (.qsEnq m)
  | 4 => some (.qsDeq m)
  | 5 => some (.qsQstat m)
  | _ => none

/-- The row of a trigger code (Table 5-3). -/
def rowOf (code : Nat) (m : TrigMove) : Option Instr :=
  let op := opOf code
  match sockOf code with
  | 0 => cuRow op m
  | 1 => iaRow false op m
  | 2 => iaRow true op m
  | 3 => mdRow op m
  | 4 => agRow op m
  | 5 => lsRow op m
  | 6 => vuRow op m
  | 7 => mxRow op m
  | 8 => chRow op m
  | 9 => balRow op m
  | 10 => syRow op m
  | 11 => kyRow op m
  | 12 => qsRow op m
  | _ => none

/-- The trigger code and the move of a row of a socket operation. -/
def codeOf : Instr → Option (Nat × TrigMove)
  | .bundleIssue _ => none
  | .resultComplete _ _ => none
  | .interruptEntry _ => none
  | .contextSwitchEntry _ => none
  | .op4Stage _ => none
  | .maccWrite _ => none
  | .mxMacroStep _ => none
  | .rmwWrite _ => none
  | .ringUpdate _ => none
  | .streamFill _ _ => none
  | .farLoadReply _ _ => none
  | .farStoreAck _ _ => none
  | .farAccessAtHome _ _ _ => none
  | .demandResolved _ _ _ => none
  | .zeroingDone _ _ => none
  | .copyGroupLand _ _ => none
  | .escapementRelease _ => none
  | .initialRelease _ => none
  | .dmaGranuleDone _ _ _ _ => none
  | .layoutAdmit _ _ => none
  | .layoutElementWrite _ _ _ _ _ => none
  | .spawnAnswer _ => none
  | .spawnTargetStart _ => none
  | .waddrTimeout _ => none
  | .balPhaseUpdate _ => none
  | .balHaloLand _ _ => none
  | .balBarrierRelease _ => none
  | .balReadoutLand _ _ => none
  | .fverifyDone _ _ => none
  | .mextendDone _ _ => none
  | .keyldDone _ _ => none
  | .cuJmp m => some (0x200, m)
  | .cuJrel m => some (0x201, m)
  | .cuJtab m => some (0x202, m)
  | .cuCall m => some (0x203, m)
  | .cuCallrel m => some (0x204, m)
  | .cuCalltab m => some (0x205, m)
  | .cuRet m => some (0x206, m)
  | .cuLoop m => some (0x207, m)
  | .cuLoopi m => some (0x208, m)
  | .cuLoopnext m => some (0x209, m)
  | .cuLoopexit m => some (0x20A, m)
  | .cuNextwork m => some (0x20B, m)
  | .cuSync m => some (0x20C, m)
  | .cuHalt m => some (0x20D, m)
  | .cuTrap m => some (0x20E, m)
  | .cuBrk m => some (0x20F, m)
  | .cuLoopidx m => some (0x210, m)
  | .cuLoopcnt m => some (0x211, m)
  | .iaAdd u m => some (iaCode u 0x00, m)
  | .iaSub u m => some (iaCode u 0x01, m)
  | .iaAdds u m => some (iaCode u 0x02, m)
  | .iaSubs u m => some (iaCode u 0x03, m)
  | .iaAnd u m => some (iaCode u 0x04, m)
  | .iaOr u m => some (iaCode u 0x05, m)
  | .iaXor u m => some (iaCode u 0x06, m)
  | .iaAndn u m => some (iaCode u 0x07, m)
  | .iaShl u m => some (iaCode u 0x08, m)
  | .iaShr u m => some (iaCode u 0x09, m)
  | .iaSar u m => some (iaCode u 0x0A, m)
  | .iaRol u m => some (iaCode u 0x0B, m)
  | .iaMin u m => some (iaCode u 0x0C, m)
  | .iaMax u m => some (iaCode u 0x0D, m)
  | .iaMinu u m => some (iaCode u 0x0E, m)
  | .iaMaxu u m => some (iaCode u 0x0F, m)
  | .iaEq u m => some (iaCode u 0x10, m)
  | .iaNe u m => some (iaCode u 0x11, m)
  | .iaLt u m => some (iaCode u 0x12, m)
  | .iaLtu u m => some (iaCode u 0x13, m)
  | .iaLe u m => some (iaCode u 0x14, m)
  | .iaLeu u m => some (iaCode u 0x15, m)
  | .iaSel u m => some (iaCode u 0x16, m)
  | .iaClz u m => some (iaCode u 0x17, m)
  | .iaPopc u m => some (iaCode u 0x18, m)
  | .iaBfx u m => some (iaCode u 0x19, m)
  | .mdMul m => some (0x500, m)
  | .mdMulh m => some (0x501, m)
  | .mdMulhu m => some (0x502, m)
  | .mdMac m => some (0x503, m)
  | .mdDiv m => some (0x504, m)
  | .mdDivu m => some (0x505, m)
  | .mdRem m => some (0x506, m)
  | .mdRemu m => some (0x507, m)
  | .agLea m => some (0x600, m)
  | .agLeas m => some (0x601, m)
  | .agSeg m => some (0x602, m)
  | .agSegh m => some (0x603, m)
  | .agSegchk m => some (0x604, m)
  | .agTid m => some (0x605, m)
  | .agTwin m => some (0x606, m)
  | .agInc m => some (0x607, m)
  | .agIncw m => some (0x608, m)
  | .agBcyc m => some (0x609, m)
  | .agIlv m => some (0x60A, m)
  | .agFmode m => some (0x60B, m)
  | .lsLdb m => some (0x700, m)
  | .lsLdbs m => some (0x701, m)
  | .lsLdh m => some (0x702, m)
  | .lsLdhs m => some (0x703, m)
  | .lsLdw m => some (0x704, m)
  | .lsLdd m => some (0x705, m)
  | .lsLdv m => some (0x706, m)
  | .lsLdvt m => some (0x707, m)
  | .lsLdwa m => some (0x708, m)
  | .lsLdda m => some (0x709, m)
  | .lsStb m => some (0x70A, m)
  | .lsSth m => some (0x70B, m)
  | .lsStw m => some (0x70C, m)
  | .lsStd m => some (0x70D, m)
  | .lsStv m => some (0x70E, m)
  | .lsStvm m => some (0x70F, m)
  | .lsStwr m => some (0x710, m)
  | .lsStdr m => some (0x711, m)
  | .lsScfg m => some (0x712, m)
  | .lsSstop m => some (0x713, m)
  | .lsRingacq m => some (0x714, m)
  | .lsRingrel m => some (0x715, m)
  | .lsRmwadd m => some (0x716, m)
  | .lsRmwswap m => some (0x717, m)
  | .lsRmwcas m => some (0x718, m)
  | .lsRmwmin m => some (0x719, m)
  | .lsRmwmax m => some (0x71A, m)
  | .lsRmwor m => some (0x71B, m)
  | .vuFadd m => some (0x800, m)
  | .vuFsub m => some (0x801, m)
  | .vuFmul m => some (0x802, m)
  | .vuFma m => some (0x803, m)
  | .vuFmin m => some (0x804, m)
  | .vuFmax m => some (0x805, m)
  | .vuFdiv m => some (0x806, m)
  | .vuFsqrt m => some (0x807, m)
  | .vuFrcp m => some (0x808, m)
  | .vuFrsq m => some (0x809, m)
  | .vuFexp2 m => some (0x80A, m)
  | .vuFlog2 m => some (0x80B, m)
  | .vuFrnd m => some (0x80C, m)
  | .vuFcmpeq m => some (0x80D, m)
  | .vuFcmplt m => some (0x80E, m)
  | .vuFcmple m => some (0x80F, m)
  | .vuVadd m => some (0x810, m)
  | .vuVsub m => some (0x811, m)
  | .vuVadds m => some (0x812, m)
  | .vuVsubs m => some (0x813, m)
  | .vuVmul m => some (0x814, m)
  | .vuVand m => some (0x815, m)
  | .vuVor m => some (0x816, m)
  | .vuVxor m => some (0x817, m)
  | .vuVshl m => some (0x818, m)
  | .vuVshr m => some (0x819, m)
  | .vuVsar m => some (0x81A, m)
  | .vuVmin m => some (0x81B, m)
  | .vuVmax m => some (0x81C, m)
  | .vuVcmpeq m => some (0x81D, m)
  | .vuVcmplt m => some (0x81E, m)
  | .vuCvtif m => some (0x81F, m)
  | .vuCvtfi m => some (0x820, m)
  | .vuCvtfh m => some (0x821, m)
  | .vuCvtfb m => some (0x822, m)
  | .vuCvthf m => some (0x823, m)
  | .vuCvtbf m => some (0x824, m)
  | .vuPacki8 m => some (0x825, m)
  | .vuUnpki8 m => some (0x826, m)
  | .vuVperm m => some (0x827, m)
  | .vuVbcast m => some (0x828, m)
  | .vuRsum m => some (0x829, m)
  | .vuRmax m => some (0x82A, m)
  | .mxOp4 m => some (0x900, m)
  | .mxOp4z m => some (0x901, m)
  | .mxOp4d m => some (0x902, m)
  | .mxOp4i m => some (0x903, m)
  | .mxOp4s m => some (0x904, m)
  | .mxAcrd m => some (0x905, m)
  | .mxAcclr m => some (0x906, m)
  | .mxMma16 m => some (0x907, m)
  | .mxMma16d m => some (0x908, m)
  | .mxMma16i m => some (0x909, m)
  | .mxMma16s m => some (0x90A, m)
  | .mxMrow m => some (0x90B, m)
  | .mxMcol m => some (0x90C, m)
  | .mxMrowr m => some (0x90D, m)
  | .mxMcolr m => some (0x90E, m)
  | .mxMacc m => some (0x90F, m)
  | .mxMzero m => some (0x910, m)
  | .mxMld m => some (0x911, m)
  | .mxMst m => some (0x912, m)
  | .mxMfmt m => some (0x913, m)
  | .chSend m => some (0xA00, m)
  | .chHalo m => some (0xA01, m)
  | .chSpawn m => some (0xA02, m)
  | .chFld m => some (0xA03, m)
  | .chFldv m => some (0xA04, m)
  | .chFst m => some (0xA05, m)
  | .chFstv m => some (0xA06, m)
  | .chFstm m => some (0xA07, m)
  | .chFstred m => some (0xA08, m)
  | .chBadd m => some (0xA09, m)
  | .chBaddf m => some (0xA0A, m)
  | .chBaddh m => some (0xA0B, m)
  | .chBmin m => some (0xA0C, m)
  | .chBmax m => some (0xA0D, m)
  | .chBand m => some (0xA0E, m)
  | .chBor m => some (0xA0F, m)
  | .chBxor m => some (0xA10, m)
  | .chBswap m => some (0xA11, m)
  | .chBcas m => some (0xA12, m)
  | .chBcasd m => some (0xA13, m)
  | .chBred m => some (0xA14, m)
  | .chDma m => some (0xA15, m)
  | .chDmaw m => some (0xA16, m)
  | .chLayout m => some (0xA17, m)
  | .chColl m => some (0xA18, m)
  | .chCcset m => some (0xA19, m)
  | .chCcwait m => some (0xA1A, m)
  | .chCcclr m => some (0xA1B, m)
  | .chMbclr m => some (0xA1C, m)
  | .chMbwait m => some (0xA1D, m)
  | .chWaddr m => some (0xA1E, m)
  | .balLoad m => some (0xB00, m)
  | .balSeed m => some (0xB01, m)
  | .balBeta m => some (0xB02, m)
  | .balClamp m => some (0xB03, m)
  | .balUnclamp m => some (0xB04, m)
  | .balSweep m => some (0xB05, m)
  | .balRdspin m => some (0xB06, m)
  | .balRdmarg m => some (0xB07, m)
  | .balClrmarg m => some (0xB08, m)
  | .balSeedrng m => some (0xB09, m)
  | .balGroup m => some (0xB0A, m)
  | .balLink m => some (0xB0B, m)
  | .balStateRead m => some (0xB0C, m)
  | .balSpin m => some (0xB0D, m)
  | .syCrd m => some (0xC00, m)
  | .syCrw m => some (0xC01, m)
  | .syCrs m => some (0xC02, m)
  | .syCrc m => some (0xC03, m)
  | .syFence m => some (0xC04, m)
  | .syFencei m => some (0xC05, m)
  | .syRel m => some (0xC06, m)
  | .syAcq m => some (0xC07, m)
  | .syChkerr m => some (0xC08, m)
  | .syTret m => some (0xC09, m)
  | .syCnt m => some (0xC0A, m)
  | .syCntcfg m => some (0xC0B, m)
  | .syPend m => some (0xC0C, m)
  | .syIntack m => some (0xC0D, m)
  | .kyShinit m => some (0xD00, m)
  | .kyAbsorb m => some (0xD01, m)
  | .kySqueeze m => some (0xD02, m)
  | .kyFverify m => some (0xD03, m)
  | .kyMextend m => some (0xD04, m)
  | .kyKeyld m => some (0xD05, m)
  | .kyKeyclr m => some (0xD06, m)
  | .kyFuserd m => some (0xD07, m)
  | .qsRingrd m => some (0xE00, m)
  | .qsRingadv m => some (0xE01, m)
  | .qsHeadpub m => some (0xE02, m)
  | .qsEnq m => some (0xE03, m)
  | .qsDeq m => some (0xE04, m)
  | .qsQstat m => some (0xE05, m)
  | .ringPoll _ => none
  | .ringNudge _ => none
  | .queueSliceExpiry _ => none
  | .launchPacket _ => none
  | .writePacket _ => none
  | .signalPacket _ => none
  | .writeSignalPacket _ => none
  | .waitPacket _ => none
  | .loadcodePacket _ => none
  | .fencePacket _ => none
  | .timetablePacket _ => none
  | .waitPoll _ => none
  | .waitTimeout _ => none
  | .fencePacketDone _ => none
  | .dependencePoll _ _ => none
  | .startTickCheck _ => none
  | .launchPlace _ => none
  | .launchReservation _ => none
  | .slicePreempt _ => none
  | .swapOutComplete _ => none
  | .launchRestore _ => none
  | .launchComplete _ => none
  | .launchAbort _ _ => none
  | .ringCtlWrite _ _ => none
  | .ringExpWrite _ _ => none
  | .crnRegisterWrite _ _ _ => none
  | .xlLiveWrite _ => none
  | .xlGenerationRaise _ => none
  | .xlCacheFlush => none
  | .generationRaiseDone => none
  | .migrationGo _ => none
  | .migrationCopy => none
  | .migrationForward => none
  | .migrationDone => none
  | .demandAck => none
  | .ualinkRequestIn _ _ => none
  | .keyPhaseExpiry _ => none
  | .collBegin _ => none
  | .collChunkLand _ _ _ _ => none
  | .brGroupWrite _ _ => none
  | .windowActivate _ => none
  | .windowRevokeStart _ => none
  | .revocationApply _ _ => none
  | .revocationComplete _ => none
  | .windowFree _ => none
  | .windowExportCmd _ => none
  | .windowRevokeCmd _ => none
  | .hdmCtlWrite _ _ => none
  | .brPortRetryClear _ => none
  | .grperrClear => none
  | .hostCxlMemAccess _ _ _ _ => none
  | .fenceGo _ _ => none
  | .fenceComplete _ => none
  | .autoFence _ _ => none
  | .tileParityError _ => none
  | .scrubRead _ _ _ => none
  | .edgeDown _ => none
  | .linkRetryReport _ _ _ => none
  | .cxlLinkFail => none
  | .twinCompare _ => none
  | .twinHoldTimeout _ => none
  | .selftestDone _ _ => none
  | .retirementMapWrite _ _ => none
  | .moduleReset => none
  | .bringupCheckDone _ _ => none
  | .pllLockLoss _ => none
  | .thermalTrip _ _ => none
  | .overtempPowerOff _ _ => none
  | .dialTick => none
  | .ppsInEdge => none
  | .dialAdjWrite _ => none
  | .dialStep _ => none
  | .standbyReset => none
  | .standbyBoot _ => none
  | .bootRomDone => none
  | .handoverGo _ => none
  | .handoverAbort => none
  | .handoverDone => none
  | .heartbeat => none
  | .handoverTimeout => none
  | .heartbeatHang => none
  | .arbWrite _ => none
  | .idSignGo => none
  | .idSignDone => none
  | .stage _ => none
  | .activate => none
  | .setret _ => none
  | .setpod _ => none
  | .info => none
  | .spdmRequest _ => none
  | .setFabricKey _ _ _ => none
  | .clearFabricKey _ _ => none
  | .ualinkPortTrainingDone _ _ => none
  | .ualinkPortFailure _ => none
  | .thermalTripClear _ _ => none
  | .hostSnoopResponse _ => none
  | .msixVector0Repeat => none

/-! ### The decoder -/

/-- Why 256 bits are no instruction: the reasons of Table 3-9 that the bits alone decide, each with slot and code. -/
inductive DecodeError where
  | headerField
  | guardEight (slot : Nat)
  | sourceReserved (slot code : Nat)
  | destinationReserved (slot code : Nat)
  | literalWithoutL (slot : Nat)
  | wideInNarrowSlot (slot code : Nat)
  | destinationTwice (slot code : Nat)
  | socketTwice (slot code : Nat)
  | xReadLimit (slot : Nat)
  | xWriteLimit (slot : Nat)
  | vReadLimit (slot : Nat)
  | vWriteLimit (slot : Nat)
  | emptySlotBits (slot code : Nat)
  deriving DecidableEq, Repr

/-- The name of a violation (Table 3-9). -/
def errorOf (v : Violation) : DecodeError :=
  match v.reason with
  | 0 => .headerField
  | 1 => .guardEight v.slot
  | 2 => .sourceReserved v.slot v.code
  | 3 => .destinationReserved v.slot v.code
  | 4 => .literalWithoutL v.slot
  | 5 => .wideInNarrowSlot v.slot v.code
  | 6 => .destinationTwice v.slot v.code
  | 7 => .socketTwice v.slot v.code
  | 8 => .xReadLimit v.slot
  | 9 => .xWriteLimit v.slot
  | 10 => .vReadLimit v.slot
  | 11 => .vWriteLimit v.slot
  | _ => .emptySlotBits v.slot v.code

/-- The move of a bundle's single trigger. -/
def trigOf (b : Bundle) (k : Nat) (sl : Slot) : TrigMove :=
  { gap := b.gap, s := b.s, slot := BitVec.ofNat 3 k, src := sl.src, grd := sl.grd,
    lit := if b.l then some (bundleLit b) else none }

/-- The instruction of a legal bundle: the row of its single trigger, or the bundle itself. -/
def instrOf (b : Bundle) : Instr :=
  match singleTrigger b with
  | some (k, sl) => (rowOf sl.dst.toNat (trigOf b k sl)).getD (.bundleIssue b)
  | none => .bundleIssue b

/-- The decoder. -/
def decode (w : BitVec 256) : Except DecodeError Instr :=
  let b := bundleOfBits w
  match violation true noStreams b with
  | some v => .error (errorOf v)
  | none => .ok (instrOf b)

/-- The instruction that the decoder reads from an instruction whose bits are `w`. A bundle is 32 bytes, its lowest byte
first (R87), so its bits are numbered as the value's bits. -/
def decodeTableWord (nbits w : Nat) : Option Instr :=
  match decode (BitVec.ofNat 256 (w % 2 ^ nbits)) with
  | .ok i => some i
  | .error _ => none

/-! ### The encoder -/

/-- A slot's 28 bits (Table 3-2). -/
def slotBits (sl : Slot) : Nat := sl.src.toNat * 65536 + sl.dst.toNat * 16 + sl.grd.toNat

/-- A bundle's 256 bits (Tables 3-1 and 3-2). -/
def bundleBits (b : Bundle) : BitVec 256 :=
  BitVec.ofNat 256 (
    b.res31.toNat * 2 ^ 16 + b.gap.toNat * 2 ^ 8 + b.res7.toNat * 2 ^ 6 + ofBool b.s * 32 + ofBool b.l * 16 + b.lithi.toNat
    + slotBits (bundleSlot b 0) * 2 ^ 32 + slotBits (bundleSlot b 1) * 2 ^ 60 + slotBits (bundleSlot b 2) * 2 ^ 88
    + slotBits (bundleSlot b 3) * 2 ^ 116 + slotBits (bundleSlot b 4) * 2 ^ 144 + slotBits (bundleSlot b 5) * 2 ^ 172
    + slotBits (bundleSlot b 6) * 2 ^ 200 + slotBits (bundleSlot b 7) * 2 ^ 228)

/-- The bundle that stands for an instruction; an event of the table has no encoding. -/
def bundleOf : Instr → Option Bundle
  | .bundleIssue b => some b
  | i => (codeOf i).map fun x => moveBundle x.1 x.2

/-- The words of an instruction. -/
def encode (i : Instr) : Option (BitVec 256) := (bundleOf i).map bundleBits

end Sys2Proof
end

