-- ==== Sys2Proof/Machine/Home.lean ====
section
/-! DEFINITION. The memory side: the global map (R397), translation (R408–R415), the checks at a home (R406, R463), and
one access performed there. Crown and control space is decoded by its own file. -/

namespace Sys2Proof.Machine

/-! ### Statuses (R297) -/

/-- Performed. -/
def stOK : Byte := 0x00
/-- Names no memory or no reachable tile. -/
def stNoTarget : Byte := 0x01
/-- Refused by owner or permission. -/
def stDenied : Byte := 0x02
/-- The exported window was revoked. -/
def stRevoked : Byte := 0x03
/-- No translation. -/
def stUnmapped : Byte := 0x04
/-- An atomic to a range that has none. -/
def stNotAtomic : Byte := 0x05
/-- Link retry exhausted. -/
def stLinkFail : Byte := 0x06

/-! ### The global map (Table 17-1) -/

/-- The rows of Table 17-1. -/
inductive Region where
  | paged
  | window
  | bank
  | reduce
  | crown
  | none
  deriving DecidableEq, Repr

/-- Base of the local-store windows. -/
def lsWinBase : Nat := 0x8000000000000
/-- Base of bank memory. -/
def bankBase : Nat := 0x9000000000000
/-- Base of the reduction windows. -/
def redBase : Nat := 0xA000000000000
/-- Base of crown and control space. -/
def crownBase : Nat := 0xF000000000000

/-- The row of an address (R397). -/
def region (a : Nat) : Region :=
  if a < lsWinBase then .paged
  else if a < lsWinBase + 0x800000000 then .window
  else if a < bankBase then .none
  else if a < bankBase + 0x40000000 then .bank
  else if a < redBase then .none
  else if a < redBase + 0x8000000 then .reduce
  else if a < crownBase then .none
  else if a < 2 ^ 52 then .crown
  else .none

/-- Tile and byte offset that a window address names under a mode (R201). -/
def winDecode (a mode : Nat) : Nat × Nat :=
  let o := a - lsWinBase
  match mode with
  | 0 => (bits o 34 17, bits o 16 0)
  | 1 =>
    let k := bits o 30 23
    let j := bits o 7 2
    (tileIdOf (bits o 34 31) k j, bits o 22 8 * 4 + bits o 1 0)
  | _ =>
    let k := bits o 30 23
    let j := bits o 11 6
    (tileIdOf (bits o 34 31) k j, bits o 22 12 * 64 + bits o 5 0)
where
  /-- Tile j of cluster k of die d; a cluster beyond 159 gives a row beyond 79. -/
  tileIdOf (d k j : Nat) : Nat := d * 16384 + (8 * (k / 16) + j / 8) * 128 + (8 * (k % 16) + j % 8)

/-- The cluster that a window address names; under mode 0 always one of the die's 160 rows of names counts as present. -/
def winCluster (a mode : Nat) : Nat := if mode = 0 then 0 else bits (a - lsWinBase) 30 23

/-! ### Die edges (R450, R452, R502) -/

/-- The edge between a die and its right neighbour. -/
def edgeRight (d : Nat) : Nat := 3 * (d / 4) + d % 4
/-- The edge between a die and the one above it. -/
def edgeUp (d : Nat) : Nat := 12 + d

/-- The edges that traffic from die a to die b crosses, first along gx, then along gy (R450). -/
def edgesBetween (a b : Nat) : List Nat :=
  let ca := a % 4
  let cb := b % 4
  let ra := a / 4
  let rb := b / 4
  ((upTo (dist ca cb)).map fun i => edgeRight (4 * ra + (min ca cb + i))) ++
  ((upTo (dist ra rb)).map fun i => edgeUp (4 * (min ra rb + i) + cb))

/-- Some edge on the way is down (R452). -/
def State.pathDown (s : State) (a b : Nat) : Bool :=
  (edgesBetween a b).any fun e => s.rel.edges.getLsbD e

/-! ### Translation (R408–R413) -/

/-- A page-table entry's fields (Table 17-4). -/
structure Pte where
  valid : Bool
  large : Bool
  state : Nat
  asid : Nat
  vpn : Nat
  kind : Nat
  perm : Nat
  exp : Bool
  home : Nat
  frame : Nat
  dev : Nat
  /-- A reserved bit is set, or KIND is 3 (R410). -/
  bad : Bool
  deriving DecidableEq, Repr

/-- The entry of its 16 bytes. -/
def pteOf (e : Nat) : Pte :=
  { valid := bit e 63, large := bit e 62, state := bits e 61 60, asid := bits e 55 40, vpn := bits e 34 0
    kind := bits e 127 126, perm := bits e 125 122, exp := bit e 121, home := bits e 120 116
    frame := bits e 111 74, dev := bits e 73 64
    bad := decide (bits e 59 56 ≠ 0) || decide (bits e 39 35 ≠ 0) || decide (bits e 115 112 ≠ 0) || bit e 125 ||
      decide (bits e 127 126 = 3) }

/-- The hash of R408 before its split. -/
def xlHash (a asid : Nat) : Nat :=
  let z := (bits a 50 21 + asid * 2 ^ 30) * 0x8E315A97C06D2B4B % 2 ^ 64
  z ^^^ (z / 2 ^ 31)

/-- The dies of the live set, ascending (R408). -/
def Xl.liveDies (x : Xl) : List Nat := (upTo 16).filter fun d => x.live.getLsbD d

/-- The shard die of an address (R408). -/
def Xl.shard (x : Xl) (a asid : Nat) : Nat :=
  let l := x.liveDies
  nth 0 l (bits (xlHash a asid) 63 32 * l.length / 2 ^ 32)

/-- A die's half of its HBM stack (R401). -/
def State.hbmOf (s : State) (die : Nat) : Memory := vget [] s.hbm die

/-- The granule of an offset in a die's HBM half has a poison tag. -/
def State.hbmBad (s : State) (die off : Nat) : Bool := (vget [] s.hbmPoison die).contains (off / 64)

/-- The entries that a lookup reads at a shard: offset and value of each, in probe order; none where the shard's table
register is out of range (R410, R419). -/
def State.probe (s : State) (die a asid : Nat) : Option (List (Nat × Nat)) :=
  let ptb := (vget 0 s.xl.ptb die).toNat
  let base := bits ptb 34 21 * 2 ^ 21
  let lgnb := bits ptb 4 0
  if lgnb < 15 || 25 < lgnb || decide (2 ^ 35 < base + 64 * 2 ^ lgnb) then none
  else
    let b := xlHash a asid % 2 ^ 32 % 2 ^ lgnb
    let m : Memory := s.hbmOf die
    some ((upTo 36).map fun i =>
      let off := base + ((b + i / 4) % 2 ^ lgnb) * 64 + (i % 4) * 16
      (off, m.num off 16))

/-- The entry matches an address in an address space (R410). -/
def Pte.hits (p : Pte) (a asid : Nat) : Bool :=
  p.valid && !p.bad && decide (p.asid = asid) &&
    (if p.large then decide (p.vpn / 32 = bits a 50 21) else decide (p.vpn = bits a 50 16))

/-- What a lookup gives: an entry with the die and offset that hold it, absence, or a poisoned read (R410). -/
inductive Found where
  | entry (die off : Nat) (p : Pte)
  | absent
  | poison
  deriving DecidableEq, Repr

/-- One candidate of several: which one is not specified (R410). -/
def pickCand (free : Nat) (l : List (Nat × Pte)) : Option (Nat × Pte) := l[(Config.freeWord free).toNat % l.length]?

/-- The lookup of R410 at a shard. -/
def State.lookupHash (s : State) (die a asid : Nat) : Found :=
  match s.probe die a asid with
  | none => .absent
  | some es =>
    if es.any fun e => s.hbmBad die e.1 then .poison
    else
      let c := (es.map fun e => (e.1, pteOf e.2)).filter fun e => e.2.hits a asid
      match pickCand s.free (c.filter fun e => !e.2.large) with
      | some e => .entry die e.1 e.2
      | none =>
        match pickCand s.free (c.filter fun e => e.2.large) with
        | some e => .entry die e.1 e.2
        | none => .absent

/-- The walk of R413. -/
def State.lookupTree (s : State) (a : Nat) : Found :=
  let r := s.xl.troot.toNat
  let d1 := bits r 56 52
  let o1 := bits r 34 21 * 2 ^ 21 + 8 * bits a 50 33
  let n1 := (s.hbmOf d1).num o1 8
  if s.hbmBad d1 o1 then .poison
  else if !bit n1 63 || decide (bits n1 62 57 ≠ 0) || decide (bits n1 51 35 ≠ 0) || decide (bits n1 20 0 ≠ 0) then .absent
  else
    let d2 := bits n1 56 52
    let o2 := bits n1 34 21 * 2 ^ 21 + 16 * bits a 32 16
    if s.hbmBad d2 o2 then .poison
    else
      let p := pteOf ((s.hbmOf d2).num o2 16)
      if p.valid && !p.bad then .entry d2 o2 p else .absent

/-- The lookup in force for an address space (R413). -/
def State.lookupPage (s : State) (a asid : Nat) : Found :=
  if s.xl.tree then (if asid = s.xl.tasid.toNat then s.lookupTree a else .absent)
  else s.lookupHash (s.xl.shard a asid) a asid

/-- Bytes of a page. -/
def Pte.size (p : Pte) : Nat := if p.large then 2 ^ 21 else 2 ^ 16

/-- The VPN of the page of an entry found for an address: the tree ignores the entry's own (R409, R413). -/
def Pte.page (p : Pte) (a : Nat) : Nat := if p.large then bits a 50 21 * 32 else bits a 50 16

/-- The generation of an address space. -/
def Xl.gen (x : Xl) (asid : Nat) : BitVec 16 := tabGet 0 x.gens asid

/-- A cached translation that an access which comes to a die may still use there: of the current generation, or of the
generation before a raise in progress (R391, R411, R413–R415). -/
def State.cachedPte (s : State) (die a asid : Nat) : Option Pte :=
  (s.xl.cache.find? fun c =>
      decide (c.die = die) && decide (c.asid.toNat = asid) && decide (c.vpn.toNat = bits a 50 16) &&
        decide (c.tree = s.xl.tree) && (!c.tree || decide (s.xl.tasid.toNat = asid)) &&
        (decide (c.gen = s.xl.gen asid) || decide (s.xl.genBusy = some (BitVec.ofNat 16 asid)))).map
    fun c => pteOf c.entry.toNat

/-! ### Accesses -/

/-- Read-modify-writes at a home (R303, R304, R433). -/
inductive Atomic where
  | red (rop : Nat)
  | swap
  | cas
  | add64
  deriving DecidableEq, Repr

/-- The bytes that replace the old ones; none where a compare fails (R304). -/
def Atomic.apply (k : Atomic) (old data : List Byte) : Option (List Byte) :=
  let n := old.length
  match k with
  | .red rop => some (redBytes rop old data)
  | .swap => some (data.take n)
  | .cas => if old = data.take n then some ((data.drop n).take n) else none
  | .add64 => some (toBytes n (ofBytes old + ofBytes data))

/-- What an access does. -/
inductive AccOp where
  | read
  | write (bs : List (Byte × Bool))
  | atomic (k : Atomic) (data : List Byte)
  deriving DecidableEq, Repr

/-- The permission bit that an access needs (R298, R411): 0 read, 1 write, 2 atomic and reduce. -/
def AccOp.need : AccOp → Nat
  | .read => 0
  | .write _ => 1
  | .atomic _ _ => 2

/-- An access of at most 64 bytes as its home receives it (R406). -/
structure Access where
  addr : Nat
  n : Nat
  mode : Nat := 0
  op : AccOp
  issuer : BitVec 16
  target : BitVec 16
  /-- The launch whose tile issued it. -/
  launch : Option Nat := none
  /-- The die at which it enters the mesh. -/
  die : Nat := 0
  /-- Issued from a tile of that die, or by the crown at a crown port. -/
  crown : Bool := false
  hint : Option Nat := none
  agent : Agent := .crown
  /-- The class (R456). -/
  cls : Nat := 0
  src : Nat := 0x40000
  req : Nat := 0
  seqNo : Option Word := none
  ext : ExtReply := {}
  deriving DecidableEq, Repr

/-- An error event to be raised: source, type, tile, word 7 (Table 20-6). -/
abbrev RawEvent := Nat × Nat × Nat × Nat

/-- What an access comes to: done with a status and the bytes read, each with its tag; held at a die (R412); or not yet
able to perform. -/
inductive AccOut where
  | done (status : Byte) (data : List (Byte × Bool))
  | hold (die : Nat) (vpn : Nat) (why : HoldWhy)
  | wait
  deriving DecidableEq, Repr

/-- A memory with tags per granule of `g` bytes, read. -/
def taggedRead (m : Memory) (bad : List Nat) (g a n : Nat) : List (Byte × Bool) :=
  (upTo n).map fun i => (m.get (a + i), bad.contains ((a + i) / g))

/-- Its tags after a write: a granule covered whole takes the tags written, one covered in part keeps its own (R482). -/
def tagsAfter (bad : List Nat) (g a : Nat) (bs : List (Byte × Bool)) : List Nat :=
  let n := bs.length
  let whole := fun q => decide (a ≤ q * g) && decide (q * g + g ≤ a + n)
  let dirty := ((upTo n).filter fun i => (nth (0, false) bs i).2).map fun i => (a + i) / g
  dirty.foldl (fun l q => insertNat q l) (bad.filter fun q => !whole q)

/-- An access performed on a memory with tags: its outcome, the memory and the tags after it (R483). -/
def memAccess (m : Memory) (bad : List Nat) (g a n : Nat) (op : AccOp) : List (Byte × Bool) × Memory × List Nat :=
  let old := taggedRead m bad g a n
  match op with
  | .read => (old, m, bad)
  | .write bs => ([], m.write a (bs.map Prod.fst), tagsAfter bad g a bs)
  | .atomic k d =>
    match k.apply (old.map Prod.fst) d with
    | none => (old, m, bad)
    | some new => (old, m.write a new, bad)

/-- The owner of a bank granule as its table reads (R400). -/
def State.bankOwnerOf (s : State) (g : Nat) : BitVec 16 := tabGet 0xFFFF s.bankOwner g
/-- The owner that an access of this cycle meets: a write of the table takes effect from the next (R400). -/
def State.bankOwnerThen (s : State) (g : Nat) : BitVec 16 := (s.bankOwnerWas.lookup g).getD (s.bankOwnerOf g)
/-- The owner of a reduction granule (R466). -/
def State.rgOwnerOf (s : State) (g : Nat) : BitVec 16 := tabGet 0xFFFF s.br.rgown g
/-- The owner that an access of this cycle meets there (R400, R466). -/
def State.rgOwnerThen (s : State) (g : Nat) : BitVec 16 := (s.br.rgownWas.lookup g).getD (s.rgOwnerOf g)

/-- The owner rule of bank memory and reduction windows (R400, R466). -/
def Access.ownerOk (a : Access) (o : BitVec 16) : Bool :=
  decide (a.issuer = 0) || (decide (a.target = o) && decide (a.issuer = o))

/-- An atomic that its home has applied already, its reply not yet confirmed: it is answered from the record (R418). -/
def State.appliedOf (s : State) (a : Access) : Option Applied :=
  match a.op, a.seqNo with
  | .atomic _ _, some q => s.xl.applied.find? fun r =>
      decide (r.src = a.src) && decide (r.seqNo = q) && decide (r.addr = a.addr)
  | _, _ => none

/-- Records an atomic as applied until its reply is confirmed (R418). -/
def State.noteApplied (s : State) (a : Access) (old : List (Byte × Bool)) (die : Nat) (asid : Option (BitVec 16) := none) :
    State :=
  match a.op, a.seqNo with
  | .atomic _ _, some q => { s with xl := { s.xl with applied :=
      { src := a.src, seqNo := q, old := old.map Prod.fst, poison := old.any Prod.snd, die, addr := a.addr, asid }
        :: s.xl.applied } }
  | _, _ => s

/-- The answer of a record. -/
def Applied.reply (r : Applied) : AccOut := .done stOK (r.old.map fun b => (b, r.poison))

/-- The reason of a fence that holds the launch (R479, R499). -/
def State.fenceReason (s : State) (l : Nat) : Option Byte :=
  (s.rel.fences.toList.find? fun f => f.busy && decide (2 ≤ f.stage) && f.launches.contains l).map fun f => f.reason

/-- The rectangle of CRN_RL_FRECTf as (ox, oy, w, h) (Table 20-7). -/
def Fence.box (x : Fence) : Nat × Nat × Nat × Nat :=
  let r := x.rect.toNat
  (bits r 8 0, bits r 24 16, bits r 41 32, bits r 56 48)

/-- The tile lies in the rectangle of the fence, which is in progress (R498). -/
def Fence.covers (x : Fence) (t : Nat) : Bool :=
  let b := x.box
  x.busy && decide (2 ≤ x.stage) && decide (b.1 ≤ tileGx t) && decide (tileGx t < b.1 + b.2.2.1) &&
    decide (b.2.1 ≤ tileGy t) && decide (tileGy t < b.2.1 + b.2.2.2)

/-- The reason of a fence in progress over a tile: whatever reaches it completes with that (R479, R499). -/
def State.fenceOver (s : State) (t : Nat) : Option Byte :=
  (s.rel.fences.toList.find? fun f => f.covers t).map fun f => f.reason

/-- A landing in the local store of a tile and of its twin (R279, R493). -/
def State.land (s : State) (key a : Nat) (bs : List (Byte × Bool)) : State :=
  let t := s.tile key
  let s1 := s.setTile key (t.lsLand s.clk a bs)
  match t.launch.bind s.launch? with
  | none => s1
  | some l => if l.dual then s1.modTile (l.twinOf t.tlin) (fun u => u.lsLand s.clk a bs) else s1

/-- A far access that has not been performed. -/
def FarReq.open_ (r : FarReq) : Bool :=
  match r.phase with
  | .sent | .waiting => true
  | _ => false

/-- The ids of the tile's accesses that have not been performed: far accesses; a macro operation of `mx` with steps to come,
unless it is suspended (R262, R377); and stores held until one of these has been performed (R276). -/
def Tile.openIds (t : Tile) : List Nat :=
  let far := (t.far.filter FarReq.open_).map fun r => r.id
  let mac := match t.mac with
    | some m => if m.susp then [] else [m.id]
    | none => []
  t.heldStores.foldl (fun l h => if h.ids.any l.contains then h.id :: l else l) (far ++ mac)

/-- Every message of a tile up to number `k` has been compared (R491). -/
def Tile.compared (t : Tile) (k : Nat) : Bool := t.egress.all fun e => decide (k < e.k)

/-- Some of the tile's accesses of these ids has not been performed. -/
def Tile.anyOpen (t : Tile) (ids : List Nat) : Bool := !ids.isEmpty && t.openIds.any ids.contains

/-- Some of them has not been performed before cycle `clk`: one that performs in it is seen from the next cycle (R279). -/
def Tile.awaits (t : Tile) (clk : Nat) (ids : List Nat) : Bool :=
  t.anyOpen ids || t.far.any fun r => decide (r.doneAt = some clk) && ids.contains r.id

/-- A store held from other agents covers some byte of the range while an access that it orders has not been performed
(R276). The accesses that it orders do not wait for it: `own` is the id of one that the tile itself issued. -/
def Tile.storeHeld (t : Tile) (a n : Nat) (own : Option Nat := none) : Bool :=
  t.heldStores.any fun h => decide (h.addr < a + n) && decide (a < h.addr + h.len) && t.anyOpen h.ids &&
    (match own with | some i => !h.ids.contains i | none => true)

/-- A delivery to the range waits for no read-modify-write window and no held store (R276, R284). -/
def State.landFree (s : State) (key a n : Nat) : Bool :=
  !(s.tile key).rmwHolds s.clk a n && !(s.tile key).storeHeld a n

/-- An access to one tile's part of a local-store window (R201, R84, R284, R276). -/
def State.accWinPart (s : State) (a : Access) : AccOut × State :=
  let w := winDecode a.addr a.mode
  if !isTile w.1 || decide (supBase < w.2 + a.n) then (.done stNoTarget [], s)
  else match s.fenceOver w.1 with
  | some r => (.done r [], s)
  | none =>
    let t := s.tile w.1
    match t.launch with
    | none => (.done stNoTarget [], s)
    | some l =>
      match s.launch? l with
      | none => (.done stNoTarget [], s)
      | some x =>
        if decide (a.launch ≠ some l) || decide (x.tileOf t.tlin ≠ w.1) then (.done stNoTarget [], s)
        else
          match s.fenceReason l with
          | some r => (.done r [], s)
          | none =>
            if decide (x.state = .running) || decide (x.state = .swapping) then
              if s.pathDown a.die (tileDie w.1) then (.done stLinkFail [], s)
              else if t.rmwHolds s.clk w.2 a.n || t.storeHeld w.2 a.n (if a.agent = .far && decide (a.src = w.1) then some a.req else none) then (.wait, s)
              else
                match a.op with
                | .read => (.done stOK (t.taggedAt s.clk w.2 a.n), s)
                | .write bs => (.done stOK [], s.land w.1 w.2 bs)
                | .atomic _ _ => (.done stNotAtomic [], s)
            else (.done stNoTarget [], s)

/-- The words of an access under mode 1 lie in different tiles (R201): every word performs, or none does. -/
def State.accWinWords (s : State) (a : Access) : List Nat → AccOut × State
  | [] => (.done stOK [], s)
  | i :: is =>
    let op := match a.op with
      | .write bs => .write ((bs.drop (4 * i)).take 4)
      | o => o
    match s.accWinPart { a with addr := a.addr + 4 * i, n := 4, op } with
    | (.done 0 d, s') =>
      match s'.accWinWords a is with
      | (.done 0 e, s'') => (.done stOK (d ++ e), s'')
      | r => r
    | r => r

/-- An access to a local-store window. -/
def State.accWindow (s : State) (a : Access) : AccOut × State :=
  if decide (a.mode = 1) && decide (4 < a.n) then
    match s.accWinWords a (upTo (a.n / 4)) with
    | (.done 0 d, s') => (.done stOK d, s')
    | (o, _) => (o, s)
  else s.accWinPart a

/-- An access to bank memory (R399, R400). -/
def State.accBank (s : State) (a : Access) : AccOut × State :=
  let o := a.addr - bankBase
  if s.pathDown a.die (bits o 29 26) && !a.crown then (.done stLinkFail [], s)
  else if !a.ownerOk (s.bankOwnerThen (bits o 29 16)) then (.done stDenied [], s)
  else match s.appliedOf a with
  | some r => (r.reply, s)
  | none =>
    let r := memAccess s.bank s.bankPoison 4 o a.n a.op
    (.done stOK r.1, ({ s with bank := r.2.1, bankPoison := r.2.2 }).noteApplied a r.1 (bits o 29 26))

/-- An access to a reduction window; the staging granules are no target (R466). -/
def State.accReduce (s : State) (a : Access) : AccOut × State :=
  let o := a.addr - redBase
  let g := o / 65536
  if 1920 ≤ g then (.done stNoTarget [], s)
  else if !a.ownerOk (s.rgOwnerThen g) then (.done stDenied [], s)
  else match s.appliedOf a with
  | some r => (r.reply, s)
  | none =>
    let r := memAccess s.rsram s.rsramPoison 8 o a.n a.op
    (.done stOK r.1, ({ s with rsram := r.2.1, rsramPoison := r.2.2 }).noteApplied a r.1 16)

/-- The window entries for an exporter, an importer and an address (R463). -/
def State.windowsFor (s : State) (target issuer : BitVec 16) (a : Nat) : List Window :=
  (s.br.windows.map Prod.snd).filter fun w =>
    decide (w.exporter = target) && decide (w.importer = issuer) &&
      decide (w.gbase.toNat ≤ a / 64 * 64) && decide (a / 64 * 64 + 64 ≤ w.gbase.toNat + w.len.toNat)

/-- The check of R463 at a home: none when the access may perform. -/
def State.windowCheck (s : State) (a : Access) (p : Pte) (home : Nat) : Option Byte :=
  let ws := s.windowsFor a.target a.issuer a.addr
  let active := ws.filter fun w => p.exp &&
    (decide (w.state = 1) || (decide (w.state = 2) && !w.applied.contains home))
  let revoked := ws.any fun w => decide (w.state = 3) || (p.exp && decide (w.state = 2) && w.applied.contains home)
  if active.any fun w => w.perm.getLsbD a.op.need then none
  else if !active.isEmpty then some stDenied
  else if revoked then some stRevoked
  else some stDenied

/-- Owner and permission at the home (R406, R411): none when the access may perform. -/
def State.pageCheck (s : State) (a : Access) (p : Pte) (home : Nat) : Option Byte :=
  let byOwner := if decide (a.issuer = a.target) || decide (a.issuer = 0) then none else s.windowCheck a p home
  match byOwner with
  | some st => some st
  | none => if bit p.perm a.op.need then none else some stDenied

/-- The place that homes a page for windows and revocation: a die, 16 the bridge, 17 the CXL port. -/
def Pte.place (p : Pte) : Nat := if p.kind = 0 then p.home else if p.kind = 1 then 17 else 16

/-- The crown tries accesses of an owner again: for a ring's slots and head word, for records, dependences and events. -/
def State.crownTries (s : State) (o : BitVec 16) : Bool :=
  (s.rings.any fun r => decide (r.2.owner = o) && (r.2.en || r.2.headOwed)) ||
  (s.launches.any fun l => decide (l.2.owner = o) && (l.2.recordOwed || l.2.deps.any fun d => !d.satisfied)) ||
  (decide (o = 0) && !s.rel.owed.isEmpty)

/-- The held access still waits to be performed: what made it has not ended (R412). -/
def State.heldLive (s : State) (h : HeldAccess) : Bool :=
  let t := s.tile h.tile
  match h.agent with
  | .far => (t.far ++ (s.orphans.filter fun o => decide (o.1 = h.tile)).map Prod.snd).any fun r => decide (r.id = h.req) && (match r.phase with | .sent | .waiting => true | _ => false)
  | .dma => t.dmas.any fun d => decide (d.id = h.req / 2 ^ 20) &&
      decide (tabGet .waiting d.grans (h.req % 2 ^ 20) = .waiting)
  | .layout => s.engines.any fun e => e.2.cmds.any fun c => decide (c.tile = h.tile) &&
      decide (c.admitted = h.req / 2 ^ 30) && (match tabGet .waiting c.elems (h.req % 2 ^ 30) with
        | .waiting | .read _ => true
        | _ => false)
  | .coll => s.br.subs.any fun b => decide (b.tile = h.tile) && decide (b.seqNo = h.req)
  | .ky => t.kyJobs.any fun j => decide (j.1 = h.req)
  | .fabric => s.br.ualHeld.any fun g => decide (0x80000 + g.2.src = h.tile) && decide (g.2.seq.toNat = h.req)
  | .host => s.br.hostHeld.any fun g => decide (g.1 = h.tile) && decide (g.2.1 / 64 = h.req)
  | .crown => s.crownTries h.asid

/-- The held access is this one. -/
def HeldAccess.is (h : HeldAccess) (a : Access) : Bool :=
  decide (h.agent = a.agent) && decide (h.tile = a.src) && decide (h.req = a.req) && decide (h.addr = a.addr) &&
    decide (h.asid = a.target)

/-- The held access is a part of the same one: an access with several destinations may be held at several pages. -/
def HeldAccess.same (h : HeldAccess) (a : Access) : Bool :=
  decide (h.agent = a.agent) && decide (h.tile = a.src) && decide (h.req = a.req)

/-- Some access to the page was held before this one was held anywhere, and goes first (R412, R417). -/
def State.heldBefore (s : State) (a : Access) (vpn : Nat) : Bool :=
  (s.xl.held.takeWhile fun h => !h.same a).any fun h =>
    decide (h.asid = a.target) && decide (h.vpn.toNat = vpn) && s.heldLive h

/-- The crown gives up what it has held for an owner: what it tries again is held anew. -/
def State.dropCrownHolds (s : State) (o : BitVec 16) : State :=
  if s.xl.held.isEmpty then s
  else { s with xl := { s.xl with held := s.xl.held.filter fun h => !(decide (h.agent = .crown) && decide (h.asid = o)) } }

/-- Removes an access from the held ones. -/
def State.unhold (s : State) (a : Access) : State :=
  if s.xl.held.isEmpty then s else { s with xl := { s.xl with held := s.xl.held.filter fun h => !h.is a } }

/-- The line number by which the snoop filter knows a granule of HBM (R476). -/
def lineNo (die off : Nat) : Nat := die * 2 ^ 29 + off / 64

/-- Performs a translated access in HBM (R401, R476, R482). -/
def State.accHbm (s : State) (a : Access) (p : Pte) : AccOut × State :=
  let off := p.frame * 65536 + a.addr % p.size
  if 16 ≤ p.home || decide (2 ^ 35 < off + a.n) then (.done stNoTarget [], s)
  else
    let line := lineNo p.home off
    let writes := match a.op with | .read => false | _ => true
    if writes && decide (a.agent ≠ .host) && s.br.snoopLines.contains line then
      (.wait, { s with br := { s.br with snoopWait := insertNat line s.br.snoopWait } })
    else
      let r := memAccess (s.hbmOf p.home) (vget [] s.hbmPoison p.home) 64 off a.n a.op
      (.done stOK r.1, ({ s with hbm := vset s.hbm p.home r.2.1, hbmPoison := vset s.hbmPoison p.home r.2.2 }).noteApplied
        a r.1 p.home (some a.target))

/-- Performs a translated access in host memory at the CXL port (R477); the link may fail. -/
def State.accHost (s : State) (a : Access) (p : Pte) : AccOut × State :=
  if a.ext.status = stLinkFail || s.br.cxlDown then (.done stLinkFail [], s)
  else
    let r := memAccess s.host [] 64 (p.frame * 65536 + a.addr % p.size) a.n a.op
    (.done stOK r.1, ({ s with host := r.2.1 }).noteApplied a r.1 17 (some a.target))

/-- The key of an owner (R461). -/
def Bridge.key (b : Bridge) (o : BitVec 16) : Option FabricKey := b.keys.find? fun k => decide (k.owner = o)

/-- The key that a flit's phase bit selects in a cycle (R461). -/
def FabricKey.forPhase (k : FabricKey) (clk : Nat) (phase : Bool) : Option (BitVec 256) :=
  if phase = k.phase then some k.key
  else match k.prev with
    | some (old, till) => if clk < till then some old else none
    | none => none

/-- What the tag of a flit covers, in the order of transmission: header, owner fields, payload (R460). -/
def tagInput (issuer target : BitVec 16) (header payload : List Byte) : List Byte :=
  header ++ toBytes 2 issuer.toNat ++ toBytes 2 target.toNat ++ payload

/-- A flit's tag verifies under its issuer owner's key of its phase (R460, R461). -/
def Bridge.verifies (b : Bridge) (clk : Nat) (issuer target : BitVec 16) (phase : Bool) (tag : BitVec 128)
    (header payload : List Byte) : Bool :=
  match (b.key issuer).bind fun k => k.forPhase clk phase with
  | none => false
  | some key => decide (kmac key (tagInput issuer target header payload) = tag)

/-- Sends a flit under its issuer owner's key in force; without a key nothing is sent (R460). -/
def State.ualSign (s : State) (f : Flit) : State :=
  match s.br.key f.issuer with
  | none => s
  | some k =>
    let f := { f with phase := k.phase, tag := kmac k.key (tagInput f.issuer f.target f.header f.payload) }
    { s with br := { s.br with sent := s.br.sent ++ [f] } }

/-- The kind of a UALink request: 0 read, 1 write, 2–9 the operators of Table 12-5, 10 swap, 11 compare and swap. -/
def AccOp.ualKind : AccOp → Nat
  | .read => 0
  | .write _ => 1
  | .atomic (.red rop) _ => 2 + rop
  | .atomic .add64 _ => 2
  | .atomic .swap _ => 10
  | .atomic .cas _ => 11

/-- Its payload. -/
def AccOp.payload : AccOp → List Byte
  | .read => []
  | .write bs => bs.map Prod.fst
  | .atomic _ d => d

/-- The request that an access sends to another device, at the device address of R456. -/
def requestFlit (port dev addr : Nat) (a : Access) : Flit :=
  { port, dev, issuer := a.issuer, target := a.target
    header := Config.ualHeader dev a.src ((a.seqNo.getD 0).toNat) addr a.op.ualKind a.n, payload := a.op.payload }

/-- What another device answers where no response is given from outside: its memory as `pod` holds it, or its status. -/
def State.podAnswer (s : State) (a : Access) (dev addr : Nat) : AccOut × State :=
  match tabGet 0 s.podDown dev with
  | 0 =>
    let r := memAccess s.pod [] 64 (dev * 2 ^ 52 + addr) a.n a.op
    (.done stOK r.1, { s with pod := r.2.1 })
  | st => (.done st [], s)

/-- The NACK of a flit that fails verification (R460). -/
def nackLink : Byte := 0xFF

/-- Records that a NACK leaves on a port. -/
def State.ualNack (s : State) (p dev : Nat) : State :=
  { s with br := { s.br with sent := s.br.sent ++ [{ port := p, dev, reply := some nackLink }] } }

/-- Sends a translated access to another device, on the up port of the route that the hash of tile and class chooses (R455,
R456, R460). A response that fails verification is dropped and NACKed, and the access waits for another. -/
def State.accDevice (s : State) (a : Access) (p : Pte) : AccOut × State :=
  let route := tabGet 0 s.br.routes p.dev
  if !s.br.lock then (.done stLinkFail [], s)
  else if (s.br.key a.issuer).isNone then (.done stDenied [], s)
  else if route = 0 then (.done stNoTarget [], s)
  else
    let up := (upTo 24).filter fun q => route.getLsbD q && decide ((vget {} s.br.ports q).state = 2)
    match up[Config.routeHash a.src a.cls % up.length]? with
    | none => (.done stLinkFail [], s)
    | some q =>
      let addr := p.frame * 65536 + a.addr % p.size
      let s := s.ualSign (requestFlit q p.dev addr a)
      if a.ext.status = stLinkFail then (.done stLinkFail [], s)
      else match a.ext.resp with
        | none => s.podAnswer a p.dev addr
        | some r =>
          if s.br.verifies s.clk a.issuer a.target r.phase r.tag r.header r.payload then
            (.done r.status (match a.op with
              | .write _ => []
              | _ => (upTo a.n).map fun i => (nth 0 r.payload i, false)), s)
          else (.wait, s.ualNack q p.dev)

/-- The page needs no new notice: it is not in DEMAND, or its notice is unserved. -/
def Xl.noticed (x : Xl) (asid : BitVec 16) (vpn : Nat) (why : HoldWhy) : Bool :=
  decide (why ≠ .demand) || x.demand.any fun d => decide (d.2.1 = asid) && decide (d.2.2.toNat = vpn)

/-- The firmware is notified once of a page that an access meets in DEMAND (R412, R419). -/
def Xl.notice (x : Xl) (asid : BitVec 16) (die vpn : Nat) (why : HoldWhy) : Xl :=
  if x.noticed asid vpn why then x
  else { x with demand := x.demand ++ [(die, asid, BitVec.ofNat 35 vpn)] }

/-- An access that meets an entry not ACTIVE is held (R412). A die holds at most 1,024 accesses under ZEROING and DEMAND:
further ones wait at its ingress, in order of arrival, and so does one whose page would need a notice while 1,024 are unserved
(R419). An access is told to the firmware only once it is inside. -/
def State.holdAt (s : State) (a : Access) (die vpn : Nat) (why : HoldWhy) : AccOut × State :=
  let live := s.xl.held.filter fun h => s.heldLive h || h.is a
  let here := live.filter fun h => decide (h.die = die) && decide (h.why ≠ .migrating)
  let room := decide (why = .migrating) ||
    (decide ((here.filter fun h => h.inside).length < 1024) &&
      (s.xl.noticed a.target vpn why || decide (s.xl.demand.length < 1024)) && (here.filter fun h => !h.inside).head?.all fun h => h.is a)
  let known := live.find? fun h => h.is a
  match known with
  | some h =>
    if h.inside || !room then (.hold die vpn why, s)
    else
      let l := live.map fun h => if h.is a then { h with inside := true } else h
      (.hold die vpn why, { s with xl := ({ s.xl with held := l }).notice a.target die vpn why })
  | none =>
    let h : HeldAccess := { die, agent := a.agent, tile := a.src, req := a.req, addr := a.addr, asid := a.target
                            vpn := BitVec.ofNat 35 vpn, why, inside := room }
    let x := { s.xl with held := live ++ [h] }
    (.hold die vpn why, { s with xl := if room then x.notice a.target die vpn why else x })
/-- Performs an access under a translation (R411, R412, R417). -/
def State.accPage (s : State) (a : Access) (p : Pte) (shard : Nat) : AccOut × State :=
  let vpn := p.page a.addr
  match s.pageCheck a p (if p.state = 3 then shard else p.place) with
  | some st => (.done st [], s.unhold a)
  | none =>
    match s.appliedOf a with
    | some r => (r.reply, s.unhold a)
    | none =>
      let moving := match s.xl.mig with
        | some m => decide (m.asid = a.target) && decide (m.phase ≤ 2) && decide (m.vpn.toNat = vpn) && decide (m.large = p.large)
        | none => false
      if moving then s.holdAt a p.home vpn .migrating
      else if p.state = 1 then s.holdAt a p.home vpn .zeroing
      else if p.state = 2 then s.holdAt a p.home vpn .migrating
      else if p.state = 3 then s.holdAt a shard vpn .demand
      else if s.heldBefore a vpn then (.wait, s)
      else
        let r := match p.kind with
          | 0 => s.accHbm a p
          | 1 => s.accHost a p
          | _ => s.accDevice a p
        match r.1 with
        | .done _ _ => (r.1, r.2.unhold a)
        | _ => r

/-- The die to which a paged access goes first: HOME where the segment gives the hint, else the shard (R405, R411). -/
def State.firstDie (s : State) (a asid : Nat) (hint : Option Nat) : Nat :=
  match hint with
  | some h => if h < 16 then h else s.xl.shard a asid
  | none => s.xl.shard a asid

/-- An access to the paged region (R408–R415, R452, R532). -/
def State.accPaged (s : State) (a : Access) : AccOut × State × List RawEvent :=
  if !s.xl.lock || decide (s.xl.live = 0) then (.done stUnmapped [], s, [])
  else
    let asid := a.target.toNat
    let shard := s.xl.shard a.addr asid
    let first := s.firstDie a.addr asid a.hint
    if !a.crown && s.pathDown a.die first then (.done stLinkFail [], s.unhold a, [])
    else match if a.ext.cached then s.cachedPte first a.addr asid else none with
    | some p =>
      let r := s.accPage a p shard
      (r.1, r.2, [])
    | none =>
      if s.pathDown first shard then (.done stLinkFail [], s.unhold a, [])
      else
        match s.lookupPage a.addr asid with
        | .absent => (.done stUnmapped [], s.unhold a, [])
        | .poison => (.done stUnmapped [], s.unhold a, [(shard, 12, 0xFFFFFFFF, asid * 65536)])
        | .entry die off p =>
          if p.kind = 0 && s.pathDown shard p.home then (.done stLinkFail [], s.unhold a, [])
          else
            let e := BitVec.ofNat 128 ((s.hbmOf die).num off 16)
            let c : CachedXl := { die := p.home, asid := a.target, vpn := BitVec.ofNat 35 (bits a.addr 50 16), entry := e
                                  gen := s.xl.gen asid, tree := s.xl.tree }
            let s := if p.kind = 0 && p.state = 0 && !s.xl.cache.contains c then
              { s with xl := { s.xl with cache := c :: s.xl.cache } } else s
            let r := s.accPage a p shard
            (r.1, r.2, [])

/-- One access performed at its home, but for crown and control space (R397). The path from tile to tile may fail when
the outside says that a flit's retries are exhausted (R452). -/
def State.accessRaw (s : State) (a : Access) : AccOut × State × List RawEvent :=
  match region a.addr with
  | .paged => s.accPaged a
  | .window => let r := s.accWindow a; (r.1, r.2, [])
  | .bank => let r := s.accBank a; (r.1, r.2, [])
  | .reduce => let r := s.accReduce a; (r.1, r.2, [])
  | .crown | .none => (.done stNoTarget [], s, [])

/-! ### Error events (R503, R504) -/

/-- Reads or writes by the crown as the system owner, for its own rings. -/
def State.crownAccess (s : State) (owner : BitVec 16) (a n : Nat) (op : AccOp) (ext : ExtReply := {}) :
    AccOut × State × List RawEvent :=
  s.accessRaw { addr := a, n, op, issuer := owner, target := owner, crown := true, ext }

/-- Bytes with no tag. -/
def clean (bs : List Byte) : List (Byte × Bool) := bs.map fun b => (b, false)

/-- The next SSEQ of a source (R503). -/
def Rel.nextSsn (r : Rel) (src : Nat) : Word × Rel :=
  let n := tabGet 0 r.ssns src
  (n, { r with ssns := tabSet r.ssns src (n + 1) })

/-- An event of a source is dropped and counted; its number has been given (R503, R504). -/
def State.loseEvent (s : State) (source : Nat) : State :=
  { s with rel := { s.rel with evLost := s.rel.evLost + 1, lostOf := insertNat source s.rel.lostOf } }

/-- Events that the event ring's own accesses raise are lost (R410, R504). -/
def State.loseRaw (s : State) (es : List RawEvent) : State :=
  es.foldl (fun s e => ({ s with rel := (s.rel.nextSsn e.1).2 }).loseEvent e.1) s

/-- A state with the holds, notices and snoops of another in which a step that is to be tried again was held (R412, R476). -/
def State.keepHolds (s s' : State) : State :=
  { s with
    xl := { s.xl with held := s'.xl.held, demand := s'.xl.demand }
    br := { s.br with snoopWait := s'.br.snoopWait } }

/-- The bytes of an event from word 1 on (R504). -/
def ErrEvent.words (e : ErrEvent) (lost : Bool) : List Byte :=
  toBytes 4 (e.source + 256 * e.kind + 65536 * ofBool lost) ++ toBytes 4 e.ssn.toNat ++ toBytes 8 e.dial.toNat ++
    toBytes 4 e.tile ++ toBytes 4 e.handle ++ toBytes 4 e.word7

/-- The event with its slot's number has been written: vector 0 is raised at most once per 1 µs (R504). -/
def State.eventWritten (s : State) (source : Nat) : State :=
  { s with
    rel := { s.rel with evSeq := s.rel.evSeq + 1, lostOf := s.rel.lostOf.filter (· ≠ source)
                        unread := true, msix0At := s.clk + usClk }
    bu := { s.bu with msix0 := if s.rel.msix0At ≤ s.clk then s.bu.msix0 + 1 else s.bu.msix0 } }

/-- Writes an event into the host's event ring, words 1–7 and then word 0 (R504); true when that is done, or the event is
dropped because the ring is full, disabled or refused by its memory; false while the write waits (R412, R476). -/
def State.writeEvent (s : State) (e : ErrEvent) : Bool × State :=
  let slot := bits s.rel.evBase.toNat 51 5 * 32 + (s.rel.evSeq.toNat % 2 ^ s.rel.evLgn) * 32
  if !s.rel.evEn then (true, s)
  else match s.crownAccess 0 (bits s.rel.evCons.toNat 51 2 * 4) 4 .read with
    | (.done 0 d, s1, es1) =>
      let s1 := s1.loseRaw es1
      if 2 ^ s.rel.evLgn ≤ (s.rel.evSeq - BitVec.ofNat 32 (ofBytes (d.map Prod.fst))).toNat then (true, s1.loseEvent e.source)
      else match s1.crownAccess 0 (slot + 4) 28 (.write (clean (e.words (s.rel.lostOf.contains e.source)))) with
        | (.done 0 _, s2, es2) =>
          match (s2.loseRaw es2).crownAccess 0 slot 4 (.write (clean (toBytes 4 s.rel.evSeq.toNat))) with
          | (.done 0 _, s3, es3) => (true, (s3.loseRaw es3).eventWritten e.source)
          | (.done _ _, s3, es3) => (true, (s3.loseRaw es3).loseEvent e.source)
          | (_, s3, _) => (false, s.keepHolds s3)
        | (.done _ _, s2, es2) => (true, (s2.loseRaw es2).loseEvent e.source)
        | (_, s2, _) => (false, s.keepHolds s2)
    | (.done _ _, s1, es1) => (true, (s1.loseRaw es1).loseEvent e.source)
    | (_, s1, _) => (false, s.keepHolds s1)

/-- Writes the events that are owed, in order, until one waits. -/
def State.writeOwed (s : State) : Nat → State
  | 0 => s
  | k + 1 =>
    match s.rel.owed with
    | [] => s
    | e :: r =>
      match s.writeEvent e with
      | (true, s') => ({ s' with rel := { s'.rel with owed := r } }).writeOwed k
      | (false, s') => s'

/-- Raises an error event: it takes its source's next number and is written after those that are owed (R503, R504). -/
def State.raiseEvent (s : State) (source kind tile handle word7 : Nat) : State :=
  let n := s.rel.nextSsn source
  let e : ErrEvent := { source, kind, ssn := n.1, dial := s.dialNow, tile, handle, word7 }
  ({ s with rel := { n.2 with owed := s.rel.owed ++ [e] } }).writeOwed (s.rel.owed.length + 1)

/-- No tile, no handle. -/
def noId : Nat := 0xFFFFFFFF

/-- Raises a list of events. -/
def State.raiseAll (s : State) (es : List RawEvent) : State :=
  es.foldl (fun s e => s.raiseEvent e.1 e.2.1 e.2.2.1 noId e.2.2.2) s

/-- One access, with the events it raises (R410, R482). -/
def State.access (s : State) (a : Access) : AccOut × State :=
  let r := s.accessRaw a
  (r.1, r.2.1.raiseAll r.2.2)

/-- An access by the crown firmware or front end under an owner (R420, R432). -/
def State.crownDo (s : State) (owner : BitVec 16) (a n : Nat) (op : AccOp) (ext : ExtReply := {}) : AccOut × State :=
  s.access { addr := a, n, op, issuer := owner, target := owner, crown := true, ext }

/-- An access of any length, in parts that end at the 64-byte granules: the bytes read, or the first status that is not OK;
`.error none` while a part is held. -/
def State.accessSpan (s : State) (a : Access) : Nat → Except (Option Byte) (List (Byte × Bool)) × State
  | 0 => (.ok [], s)
  | k + 1 =>
    if a.n = 0 then (.ok [], s)
    else
      let n := min a.n (64 - a.addr % 64)
      match s.access { a with n, op := match a.op with | .write bs => .write (bs.take n) | o => o } with
      | (.done 0 d, s') =>
        match s'.accessSpan { a with addr := a.addr + n, n := a.n - n
                                     op := match a.op with | .write bs => .write (bs.drop n) | o => o } k with
        | (.ok e, s'') => (.ok (d ++ e), s'')
        | r => r
      | (.done st _, s') => (.error (some st), s')
      | (_, s') => (.error none, s')

/-- Reads `n` bytes by the crown; the first status that is not OK ends it (R437). An access that is held or must wait reads
as not yet done, and is held. -/
def State.crownRead (s : State) (owner : BitVec 16) (a : Nat) : Nat → Option (Byte × List Byte) × State
  | 0 => (some (stOK, []), s)
  | n + 1 =>
    match s.crownDo owner a 1 .read with
    | (.done 0 d, s') =>
      match s'.crownRead owner (a + 1) n with
      | (some (st, bs), s'') => (some (st, d.map Prod.fst ++ bs), s'')
      | r => r
    | (.done st _, s') => (some (st, []), s')
    | (_, s') => (none, s')

/-- A four-byte value that the crown reads, or none. -/
def State.crownWordDo (s : State) (owner : BitVec 16) (a : Nat) : Option Word × State :=
  match s.crownDo owner a 4 .read with
  | (.done 0 d, s') => (some (BitVec.ofNat 32 (ofBytes (d.map Prod.fst))), s')
  | (_, s') => (none, s')

/-- Writes bytes by the crown in granules of 64 bytes, ascending; the first status that is not OK ends it with the rest
unwritten (R432). `none` while some granule is held. -/
def State.crownWriteFrom (s : State) (owner : BitVec 16) (a : Nat) (bs : List Byte) : Nat → Option Byte × State
  | 0 => (some stOK, s)
  | fuel + 1 =>
    if bs.isEmpty then (some stOK, s)
    else
      let n := min bs.length (64 - a % 64)
      match s.crownDo owner a n (.write (clean (bs.take n))) with
      | (.done 0 _, s') => s'.crownWriteFrom owner (a + n) (bs.drop n) fuel
      | (.done st _, s') => (some st, s')
      | (_, s') => (none, s')

/-- Writes bytes by the crown; while some granule is held nothing is written. -/
def State.crownWrite (s : State) (owner : BitVec 16) (a : Nat) (bs : List Byte) (fuel : Nat) : Option Byte × State :=
  match s.crownWriteFrom owner a bs fuel with
  | (none, s') => (none, s.keepHolds s')
  | r => r

end Sys2Proof.Machine
end

