-- ==== Sys2Proof/Machine/Xl.lean ====
section
/-! DEFINITION. Translation registers (R419) and the steps that change a translation: generation raises, zeroing, DEMAND
and migration (R412–R418). -/

namespace Sys2Proof.Machine

/-- A memory with a range cleared. -/
def Memory.clear (m : Memory) (a n : Nat) : Memory := m.filter fun c => !(decide (a ≤ c.1) && decide (c.1 < a + n))

/-- The listed bytes of a range, moved from `a` to `b` into another memory whose range has been cleared. -/
def Memory.moveInto (dst src : Memory) (a b n : Nat) : Memory :=
  (src.filter fun c => decide (a ≤ c.1) && decide (c.1 < a + n)).foldr
    (fun c m => m.set (c.1 - a + b) c.2) (dst.clear b n)

/-- Sets a bit field of a number. -/
def setField (x hi lo v : Nat) : Nat := x - bits x hi lo * 2 ^ lo + (v % 2 ^ (hi + 1 - lo)) * 2 ^ lo

/-- Writes a page-table entry's 16 bytes at a die. -/
def State.putPte (s : State) (die off e : Nat) : State :=
  { s with hbm := vset s.hbm die ((s.hbmOf die).write off (toBytes 16 e)) }

/-- Changes the entry of a page, which `p` is, found at an offset of a die's half: a 2 MiB page has 32 entries alike in the
tree (R413). -/
def State.putPage (s : State) (die off : Nat) (p : Pte) (f : Nat → Nat) : State :=
  let one (s : State) (o : Nat) : State := s.putPte die o (f ((s.hbmOf die).num o 16))
  if s.xl.tree && p.large then (upTo 32).foldl (fun s i => one s (off / 512 * 512 + 16 * i)) s else one s off

/-- The address of a page by its number. -/
def pageAddr (vpn : BitVec 35) : Nat := vpn.toNat * 65536

/-- The entry for an address that passes a test, the one that the lookup uses first: a 64 KiB entry may stand over a part of a
2 MiB page (R410). -/
def State.entryWhere (s : State) (a asid : Nat) (ok : Pte → Bool) : Option (Nat × Nat × Pte) :=
  match s.lookupPage a asid with
  | .entry die off p =>
    if ok p then some (die, off, p)
    else if s.xl.tree then none
    else
      let d := s.xl.shard a asid
      match s.probe d a asid with
      | none => none
      | some es => ((es.map fun e => (e.1, pteOf e.2)).find? fun e => e.2.hits a asid && ok e.2).map fun e => (d, e.1, e.2)
  | _ => none

/-- XL_LIVE_WRITE (R419, R532): the live set until LOCK, which is set once. -/
def State.xlLiveWrite (s : State) (v : Word) : State :=
  if s.xl.lock then s
  else { s with xl := { s.xl with live := v.setWidth 16, lock := v.getLsbD 31 } }

/-- Starts the raise of an address space's generation (R415). -/
def Xl.startRaise (x : Xl) (asid : BitVec 16) : Xl :=
  let g := x.gen asid.toNat + 1
  { x with
    gens := tabSet x.gens asid.toNat g
    genBusy := some asid
    genLast := g
    cache := if g = 0 then x.cache.filter fun c => decide (c.asid ≠ asid) else x.cache }

/-- A write of CRN_XL_GENCMD (R415): FLUSH empties every cache and changes no generation; while a raise is in progress
the command waits. -/
def Xl.genCmd (x : Xl) (v : Word) : Xl :=
  if x.genBusy.isSome then { x with genQueue := x.genQueue ++ [v] }
  else if v.getLsbD 31 then { x with cache := [] }
  else x.startRaise (v.setWidth 16)

/-- XL_GENERATION_RAISE (R415). -/
def State.xlGenerationRaise (s : State) (asid : BitVec 16) : State :=
  { s with xl := s.xl.genCmd (asid.setWidth 32) }

/-- XL_CACHE_FLUSH (R415). -/
def State.xlCacheFlush (s : State) : State := { s with xl := s.xl.genCmd 0x80000000 }

/-- GENERATION_RAISE_DONE (R415, R391): every die has adopted the generation; older translations are no longer used, and
the commands that waited begin, a FLUSH among them ending at once. -/
def Xl.raiseDone (x : Xl) : Xl :=
  match x.genBusy with
  | none => x
  | some asid =>
    let g := x.gen asid.toNat
    let x := { x with genBusy := none, cache := x.cache.filter fun c => decide (c.asid ≠ asid) || decide (c.gen = g)
                      genQueue := [] : Xl }
    x
/-- The commands that waited, in order. -/
def State.generationRaiseDone (s : State) : State :=
  let q := s.xl.genQueue
  if s.xl.genBusy.isNone then s
  else { s with xl := q.foldl (fun x v => x.genCmd v) s.xl.raiseDone }

/-- DEMAND_ACK (R419): the oldest notice is retired. -/
def State.demandAck (s : State) : State := { s with xl := { s.xl with demand := s.xl.demand.drop 1 } }

/-- DEMAND_RESOLVED (R412): the crown firmware makes the entry ACTIVE or removes it. What the crown, the engines of `ky`,
other devices and the host try again is told anew should the page come to be in DEMAND again. -/
def State.demandResolved (s : State) (asid : BitVec 16) (vpn : BitVec 35) (active : Bool) : State :=
  match s.entryWhere (pageAddr vpn) asid.toNat fun p => decide (p.state = 3) with
  | some (die, off, p) =>
    let mine (h : HeldAccess) : Bool := decide (h.asid = asid) && decide (h.vpn.toNat = p.page (pageAddr vpn))
    let s := { s with xl := { s.xl with held := s.xl.held.filter fun h => !mine h || s.heldLive h } }
    s.putPage die off p fun e => if active then setField e 61 60 0 else setField e 63 63 0
  | none => s

/-- ZEROING_DONE (R416, R390): the frame reads zero with fresh check bits and the entry becomes ACTIVE. -/
def State.zeroingDone (s : State) (asid : BitVec 16) (vpn : BitVec 35) : State :=
  match s.entryWhere (pageAddr vpn) asid.toNat fun p =>
      decide (p.state = 1) && decide (p.kind = 0) && decide (p.home < 16) with
  | some (die, off, p) =>
    let a := p.frame * 65536
    let s := { s with
      hbm := vset s.hbm p.home ((s.hbmOf p.home).clear a p.size)
      hbmPoison := vset s.hbmPoison p.home ((vget [] s.hbmPoison p.home).filter fun g =>
        !(decide (a ≤ g * 64) && decide (g * 64 < a + p.size))) }
    s.putPage die off p fun e => setField e 61 60 0
  | none => s

/-- MIGRATION_GO (R417): a write of CRN_XL_MIGB. Its fields are stored; its GO is ignored while a migration is BUSY. -/
def State.migrationGo (s : State) (v : DWord) : State :=
    let s := { s with xl := { s.xl with migb := v &&& 0x8000000000F7FFFF } }
    if !v.getLsbD 63 || s.xl.mig.isSome then s
    else
      let asid : BitVec 16 := s.xl.miga.extractLsb' 48 16
      let vpn : BitVec 35 := s.xl.miga.setWidth 35
      let newDie := bits v.toNat 23 20
      match s.lookupPage (pageAddr vpn) asid.toNat with
      | .entry _ _ p =>
        if p.state = 0 && decide (p.kind = 0) && decide (p.home ≠ newDie) then
          { s with xl := { s.xl with
            migPhase := 1
            mig := some { asid, vpn := BitVec.ofNat 35 (p.page (pageAddr vpn)), oldDie := p.home, oldFrame := p.frame, newDie
                          newFrame := bits v.toNat 18 0, large := p.large, phase := 1 } } }
        else { s with xl := { s.xl with migErr := true } }
      | _ => { s with xl := { s.xl with migErr := true } }

/-- MIGRATION_COPY (R417, R418, R476): the frame, its poison tags, the page's exactly-once records and what the snoop filter
knows of its lines go to the new home. -/
def State.migrationCopy (s : State) : State :=
  match s.xl.mig with
  | none => s
  | some m =>
    if m.phase ≠ 1 then s
    else
      let n := if m.large then 2 ^ 21 else 2 ^ 16
      let a := m.oldFrame * 65536
      let b := m.newFrame * 65536
      let tags := (vget [] s.hbmPoison m.oldDie).filter fun g => decide (a ≤ g * 64) && decide (g * 64 < a + n)
      let keep := (vget [] s.hbmPoison m.newDie).filter fun g => !(decide (b ≤ g * 64) && decide (g * 64 < b + n))
      let line (l : Nat) : Nat :=
        if decide (lineNo m.oldDie a ≤ l) && decide (l < lineNo m.oldDie (a + n)) then
          l - lineNo m.oldDie a + lineNo m.newDie b else l
      { s with
        br := { s.br with snoopLines := s.br.snoopLines.foldl (fun k l => insertNat (line l) k) []
                          snoopWait := s.br.snoopWait.foldl (fun k l => insertNat (line l) k) [] }
        hbm := vset s.hbm m.newDie ((s.hbmOf m.newDie).moveInto (s.hbmOf m.oldDie) a b n)
        hbmPoison := vset s.hbmPoison m.newDie (tags.foldl (fun l g => insertNat (g + b / 64 - a / 64) l) keep)
        xl := { s.xl with
          mig := some { m with phase := 2 }, migPhase := 2
          applied := s.xl.applied.map fun r =>
            if decide (r.die = m.oldDie) && decide (r.asid = some m.asid) && decide (pageAddr m.vpn ≤ r.addr) &&
                decide (r.addr < pageAddr m.vpn + n) then { r with die := m.newDie } else r } }

/-- MIGRATION_FORWARD (R417): the shard's entry names the new home, and the generation is raised. -/
def State.migrationForward (s : State) : State :=
  match s.xl.mig with
  | none => s
  | some m =>
    if m.phase ≠ 2 then s
    else
      match s.entryWhere (pageAddr m.vpn) m.asid.toNat fun p => decide (p.large = m.large) with
      | some (die, off, p) =>
        let new (e : Nat) : Nat := setField (setField (setField e 120 116 m.newDie) 111 74 m.newFrame) 61 60 0
        let s := s.putPage die off p new
        let x := s.xl.genCmd (m.asid.setWidth 32)
        { s with xl := { x with mig := some { m with phase := 3 }, migPhase := 3
                                cache := x.cache.filter fun c => !(decide (c.asid = m.asid) &&
                                  decide (m.vpn.toNat ≤ c.vpn.toNat) &&
                                  decide (c.vpn.toNat < m.vpn.toNat + if m.large then 32 else 1)) } }
      | none => s

/-- MIGRATION_DONE (R417): entered when the raise completes. -/
def State.migrationDone (s : State) : State :=
  match s.xl.mig with
  | none => s
  | some m =>
    if decide (m.phase = 3) && decide (s.xl.genBusy ≠ some m.asid) &&
        !s.xl.genQueue.any (fun v => decide (v = m.asid.setWidth 32)) then
      { s with xl := { s.xl with mig := none, migPhase := 4 } }
    else s

/-- A write of a translation register at an offset and width; none where no register of that width stands (R398,
R419). -/
def State.xlWrite (s : State) (off n : Nat) (v : Nat) : Option State :=
  let w : Word := BitVec.ofNat 32 v
  let d : DWord := BitVec.ofNat 64 v
  if n = 4 then
    match off with
    | 0x000 => some (s.xlLiveWrite w)
    | 0x008 => some { s with xl := { s.xl with tree := w.getLsbD 0 } }
    | 0x010 => some { s with xl := { s.xl with tasid := w.setWidth 16 } }
    | 0x020 => some { s with xl := s.xl.genCmd w }
    | 0x028 => some s
    | 0x030 => some { s with xl := { s.xl with genSel := w.setWidth 16 } }
    | 0x038 => some s
    | 0x050 => some s
    | 0x068 => some s.demandAck
    | _ => none
  else if n = 8 then
    match off with
    | 0x018 => some { s with xl := { s.xl with troot := d &&& 0x01F00007FFE00000 } }
    | 0x040 => some { s with xl := { s.xl with miga := d &&& 0xFFFF0007FFFFFFFF } }
    | 0x048 => some (s.migrationGo d)
    | 0x060 => some s
    | _ =>
      if decide (0x100 ≤ off) && decide (off ≤ 0x178) && decide (off % 8 = 0) then
        some { s with xl := { s.xl with ptb := vset s.xl.ptb ((off - 0x100) / 8) (d &&& 0x00000007FFE0001F) } }
      else none
  else none

/-- What a translation register reads; write-only registers read zero. -/
def State.xlRead (s : State) (off n : Nat) : Option Nat :=
  let x := s.xl
  if n = 4 then
    match off with
    | 0x000 => some (x.live.toNat + 2 ^ 31 * ofBool x.lock)
    | 0x008 => some (ofBool x.tree)
    | 0x010 => some x.tasid.toNat
    | 0x020 => some 0
    | 0x028 => some (ofBool x.genBusy.isSome + 65536 * x.genLast.toNat)
    | 0x030 => some x.genSel.toNat
    | 0x038 => some (x.gen x.genSel.toNat).toNat
    | 0x050 => some (ofBool x.mig.isSome + 2 * ofBool x.migErr + 256 * x.migPhase)
    | 0x068 => some 0
    | _ => none
  else if n = 8 then
    match off with
    | 0x018 => some x.troot.toNat
    | 0x040 => some x.miga.toNat
    | 0x048 => some (bits x.migb.toNat 62 0)
    | 0x060 => some (match x.demand with
      | [] => 0
      | d :: _ => 2 ^ 63 + d.2.1.toNat * 2 ^ 40 + d.2.2.toNat)
    | _ =>
      if decide (0x100 ≤ off) && decide (off ≤ 0x178) && decide (off % 8 = 0) then
        some (vget 0 x.ptb ((off - 0x100) / 8)).toNat
      else none
  else none

/-- DEMAND_RESOLVED. -/
def execDemandResolved (asid : BitVec 16) (vpn : BitVec 35) (active : Bool) (s : State) :
    Host.Outcome State Fault Refusal := .next (s.demandResolved asid vpn active)
/-- ZEROING_DONE. -/
def execZeroingDone (asid : BitVec 16) (vpn : BitVec 35) (s : State) : Host.Outcome State Fault Refusal :=
  .next (s.zeroingDone asid vpn)
/-- XL_LIVE_WRITE. -/
def execXlLiveWrite (v : Word) (s : State) : Host.Outcome State Fault Refusal := .next (s.xlLiveWrite v)
/-- XL_GENERATION_RAISE. -/
def execXlGenerationRaise (asid : BitVec 16) (s : State) : Host.Outcome State Fault Refusal :=
  .next (s.xlGenerationRaise asid)
/-- XL_CACHE_FLUSH. -/
def execXlCacheFlush (s : State) : Host.Outcome State Fault Refusal := .next s.xlCacheFlush
/-- GENERATION_RAISE_DONE. -/
def execGenerationRaiseDone (s : State) : Host.Outcome State Fault Refusal := .next s.generationRaiseDone
/-- MIGRATION_GO. -/
def execMigrationGo (v : DWord) (s : State) : Host.Outcome State Fault Refusal := .next (s.migrationGo v)
/-- MIGRATION_COPY. -/
def execMigrationCopy (s : State) : Host.Outcome State Fault Refusal := .next s.migrationCopy
/-- MIGRATION_FORWARD. -/
def execMigrationForward (s : State) : Host.Outcome State Fault Refusal := .next s.migrationForward
/-- MIGRATION_DONE. -/
def execMigrationDone (s : State) : Host.Outcome State Fault Refusal := .next s.migrationDone
/-- DEMAND_ACK. -/
def execDemandAck (s : State) : Host.Outcome State Fault Refusal := .next s.demandAck

end Sys2Proof.Machine
end

