-- ==== Sys2Proof/Machine/Bridge.lean ====
section
/-! DEFINITION. The bridge and the host attachment (chapter 19): UALink, fabric keys, exported windows, collectives,
HDM decoders, and their registers. -/

namespace Sys2Proof.Machine

/-- The crown firmware serves packets and commands: its complex is up, is not provisional and has not hung (R523,
R525, R531). -/
def State.serves (s : State) : Bool :=
  s.bu.ready.getLsbD 26 && !decide (s.fw.phase = .switched) && !s.fw.hang

/-- A doorbell write is latched while a handover is under way; without a serving complex there is none to serve it (R524,
R525, R530). -/
def State.doorbell (s : State) (q : Nat) (abort : Option Word) (now : State) : State :=
  if s.serves then now
  else if s.fw.phase = .switched then { s with fw := { s.fw with doorbells := s.fw.doorbells ++ [(q, abort)] } }
  else s

/-- TCLK cycles of a millisecond (R534). -/
def msClk : Nat := 3300000

/-! ### Fabric keys (R461) -/

/-- `keyld` of an owner: a second key toggles the phase and keeps the former key for 1 ms; false when the bridge holds
4,096 keys already. -/
def Bridge.loadKey (b : Bridge) (clk : Nat) (o : BitVec 16) (key : BitVec 256) : Bool × Bridge :=
  match b.key o with
  | some k =>
    (true, { b with keys := b.keys.map fun j =>
      if j.owner = o then { j with key, phase := !k.phase, prev := some (k.key, clk + msClk) } else j })
  | none =>
    if 4096 ≤ b.keys.length then (false, b) else (true, { b with keys := b.keys ++ [{ owner := o, key }] })

/-- `keyclr` of an owner. -/
def Bridge.clearKey (b : Bridge) (o : BitVec 16) : Bridge := { b with keys := b.keys.filter fun k => decide (k.owner ≠ o) }

/-- KEY_PHASE_EXPIRY (R461): the previous phase's key is no longer accepted. -/
def State.keyPhaseExpiry (s : State) (o : BitVec 16) : State :=
  { s with br := { s.br with keys := s.br.keys.map fun k =>
      match k.prev with
      | some (_, till) => if k.owner = o && decide (till ≤ s.clk) then { k with prev := none } else k
      | none => k } }

/-! ### UALink (R455–R460) -/

/-- An up port of a route. -/
def Bridge.upPort (b : Bridge) (route : BitVec 24) (p : Nat) : Bool :=
  route.getLsbD p && decide ((vget {} b.ports p).state = 2)

/-- The atomic of a UALink request. -/
def ualOp (r : UalReq) : AccOp :=
  if r.kind = 0 then .read
  else if r.kind = 1 then .write (clean (r.payload.take r.size))
  else if r.kind ≤ 9 then .atomic (.red (r.kind - 2)) r.payload
  else if r.kind = 10 then .atomic .swap r.payload
  else .atomic .cas r.payload

/-- A request's shape is one that R455 supports. -/
def ualOk (r : UalReq) : Bool :=
  (if r.kind ≤ 1 then [4, 8, 16, 32, 64, 128, 256].contains r.size else decide (r.size = 4) || decide (r.size = 8)) &&
    decide (r.addr.toNat % r.size = 0) && decide (r.kind ≤ 11)

/-- Sends the answer to a request: its status, and the bytes that a read or an atomic returns (R458, R460). -/
def State.ualReply (s : State) (p : Nat) (r : UalReq) (st : Byte) (data : List Byte) : State :=
  s.ualSign { port := p, dev := r.src, reply := some st, issuer := r.issuer, target := r.target
              header := Config.ualReplyHeader r.src r.seq.toNat st, payload := data }

/-- The access of a request for this module (R458). -/
def ualAccess (r : UalReq) : Access :=
  { addr := r.addr.toNat, n := r.size, op := ualOp r, issuer := r.issuer, target := r.target
    crown := true, agent := .fabric, src := 0x80000 + r.src, req := r.seq.toNat, seqNo := some r.seq, ext := r.ext }

/-- A request for this module performs, or is held as it stands (R412, R458). -/
def State.ualPerform (s : State) (p : Nat) (r : UalReq) : Bool × State :=
  match s.accessSpan (ualAccess r) 5 with
  | (.ok d, s') => (true, s'.ualReply p r stOK (d.map Prod.fst))
  | (.error (some st), s') => (true, s'.ualReply p r st [])
  | (.error none, s') => (false, s.keepHolds s')

/-- The source's router confirms the answer to an atomic: its record is dropped (R418). -/
def State.fabricConfirm (s : State) (src : Nat) (seqNo : Word) : State :=
  let kept := s.xl.applied.filter fun x => !(decide (x.src = 0x80000 + src) && decide (x.seqNo = seqNo))
  { s with xl := { s.xl with applied := kept } }

/-- Requests that were held are tried again in their order; one behind a held request of its source waits (R412). -/
def State.ualRetry (s : State) : State :=
  s.br.ualHeld.foldl (fun s h =>
    let earlier := s.br.ualHeld.takeWhile fun g => decide (g ≠ h)
    if earlier.any fun g => decide (g.2.src = h.2.src) then s
    else
      match s.ualPerform h.1 h.2 with
      | (true, s') => { s' with br := { s'.br with ualHeld := s'.br.ualHeld.erase h } }
      | (false, s') => s') s

/-- A request for another device leaves as it came: header, owners, payload, phase and tag (R457). -/
def State.ualForward (s : State) (r : UalReq) : State :=
  { s with br := { s.br with sent := s.br.sent ++
    [{ port := r.outPort, dev := r.dev.toNat, issuer := r.issuer, target := r.target, phase := r.phase, tag := r.tag
       header := r.header, payload := r.payload }] } }

/-- UALINK_REQUEST_IN (R456–R458, R460): a request at port `p`. -/
def State.ualRequestIn (s : State) (p : Nat) (r : UalReq) : State :=
  let b := s.br
  if !b.lock || decide ((vget {} b.ports p).state ≠ 2) then s
  else
    if !b.verifies s.clk r.issuer r.target r.phase r.tag r.header r.payload then s.ualNack p r.src
    else if r.dev ≠ b.id then
      if b.fwd && decide (r.outPort ≠ p) && b.upPort (tabGet 0 b.routes r.dev.toNat) r.outPort then s.ualForward r
      else s.ualReply p r stLinkFail []
    else if region r.addr.toNat ≠ .paged then s.ualReply p r stNoTarget []
    else if !ualOk r then s.ualReply p r stNoTarget []
    else
      let hold (s : State) : State := { s with br := { s.br with ualHeld := s.br.ualHeld ++ [(p, r)] } }
      if s.br.ualHeld.any fun h => decide (h.2.src = r.src) then hold s
      else match s.ualPerform p r with
        | (true, s') => s'
        | (false, s') => hold s'

/-- UALINK_PORT_TRAINING_DONE: a training port comes up or fails; the ports of a bridge that is not ready stay as they are
(Table 19-6, R529). -/
def State.ualTrained (s : State) (p : Nat) (up : Bool) : State :=
  let q := vget {} s.br.ports p
  if q.state = 1 && s.bu.ready.getLsbD 24 then
    { s with br := { s.br with ports := vset s.br.ports p { q with state := if up then 2 else 3 } } }
  else s

/-- UALINK_PORT_FAILURE: retries are exhausted on a port (R455, R502). -/
def State.ualFailed (s : State) (p : Nat) : State :=
  let q := vget {} s.br.ports p
  if q.state = 2 then { s with br := { s.br with ports := vset s.br.ports p { q with state := 3 } } } else s

/-- BR_PORT_RETRY_CLEAR (Table 19-6). -/
def State.portRetryClear (s : State) (p : Nat) : State :=
  { s with br := { s.br with ports := vset s.br.ports p { vget {} s.br.ports p with retries := 0 } } }

/-- GRPERR_CLEAR (Table 19-6). -/
def State.grperrClear (s : State) : State := { s with br := { s.br with grperr := 0 } }

/-! ### Exported windows (R462–R465) -/

/-- The window entry of a number. -/
def Bridge.window (b : Bridge) (w : Nat) : Window := tabGet {} b.windows w
/-- A window entry replaced. -/
def State.setWindow (s : State) (w : Nat) (x : Window) : State :=
  { s with br := { s.br with windows := tabSet s.br.windows w x } }

/-- WINDOW_ACTIVATE (R462). -/
def State.windowActivate (s : State) (w : Nat) : State :=
  let x := s.br.window w
  if x.state = 0 then s.setWindow w { x with state := 1 } else s

/-- WINDOW_REVOKE_START (R465): no home has applied it yet. -/
def State.windowRevokeStart (s : State) (w : Nat) : State :=
  let x := s.br.window w
  if x.state = 1 then s.setWindow w { x with state := 2, applied := [] } else s

/-- REVOCATION_APPLY (R465): a home applies the revocation; accesses it holds complete when they are next tried, because
the window is checked before any hold. -/
def State.revocationApply (s : State) (w home : Nat) : State :=
  let x := s.br.window w
  if x.state = 2 && decide (home < 18) then s.setWindow w { x with applied := insertNat home x.applied } else s

/-- STATUS of a command page: DONE, window id and code (Table 19-3). -/
def pageStatus (w code : Nat) : Word := BitVec.ofNat 32 (2 ^ 31 + w * 65536 + code)

/-- REVOCATION_COMPLETE (R465): every home has applied it; the REVOKE's STATUS is written after. -/
def State.revocationComplete (s : State) (w : Nat) : State :=
  let x := s.br.window w
  if x.state = 2 && (upTo 18).all (fun h => x.applied.contains h) then
    let s := s.setWindow w { x with state := 3 }
    let done (p : CmdPage) : CmdPage :=
      if p.busy && decide (p.revoking = some w) then
        { p with busy := false, revoking := none, status := pageStatus w 0 }
      else p
    { s with br := { s.br with pages := s.br.pages.map fun p => (p.1, done p.2) } }
  else s

/-- WINDOW_FREE (R465). -/
def State.windowFree (s : State) (w : Nat) : State :=
  let x := s.br.window w
  if x.state = 3 then s.setWindow w { x with state := 0 } else s

/-- The entry's fields from 32 bytes (Table 19-2). -/
def windowOf (v : Nat) : Window :=
  { state := BitVec.ofNat 2 (bits v 255 254), perm := BitVec.ofNat 4 (bits v 252 250)
    importer := BitVec.ofNat 16 (bits v 223 208), exporter := BitVec.ofNat 16 (bits v 207 192)
    len := BitVec.ofNat 48 (bits v 175 128), gbase := BitVec.ofNat 52 (bits v 115 64) }

/-- Its 32 bytes. -/
def Window.bits (w : Window) : Nat :=
  w.gbase.toNat * 2 ^ 64 + w.len.toNat * 2 ^ 128 + w.exporter.toNat * 2 ^ 192 + w.importer.toNat * 2 ^ 208 +
    w.perm.toNat * 2 ^ 250 + w.state.toNat * 2 ^ 254

/-- The range lies in the paged region in whole 64 KiB (R462). -/
def Window.rangeOk (w : Window) : Bool :=
  decide (w.len.toNat % 65536 = 0) && decide (w.gbase.toNat % 65536 = 0) &&
    decide (w.gbase.toNat + w.len.toNat ≤ lsWinBase)

/-- A write of CRN_BR_WINw (R462, Table 19-6). -/
def State.windowWrite (s : State) (w v : Nat) : State :=
  let x := s.br.window w
  let y := windowOf v
  let same := decide ({ y with state := x.state, applied := x.applied } = x)
  if x.state = 0 then
    if !y.rangeOk then s
    else
      let s := s.setWindow w { y with state := 0 }
      if y.state = 1 then s.windowActivate w else s
  else if !same then s
  else if y.state = 2 then s.windowRevokeStart w
  else if y.state = 0 then s.windowFree w
  else s

/-- The oldest command page that waits for the firmware. -/
def Bridge.oldestCmd (b : Bridge) (o : Nat) : Bool :=
  let p := tabGet {} b.pages o
  p.busy && p.revoking.isNone &&
    b.pages.all fun q => !q.2.busy || q.2.revoking.isSome || decide (p.order ≤ q.2.order)

/-- A command page's command ends with a status. -/
def State.pageDone (s : State) (o : Nat) (st : Word) : State :=
  let p := { tabGet {} s.br.pages o with busy := false, status := st }
  { s with br := { s.br with pages := tabSet s.br.pages o p } }

/-- Every page of the range has an entry of the owner (R464). -/
def State.allMapped (s : State) (owner a n : Nat) : Bool :=
  (upTo (n / 65536)).all fun i => match s.lookupPage (a + i * 65536) owner with
    | .entry _ _ _ => true
    | _ => false

/-- EXP set on every page of the range (R463). -/
def State.setExp (s : State) (owner a n : Nat) : State :=
  (upTo (n / 65536)).foldl (fun s i => match s.lookupPage (a + i * 65536) owner with
    | .entry die off _ => s.putPte die off (setField ((s.hbmOf die).num off 16) 121 121 1)
    | _ => s) s

/-- WINDOW_EXPORT_CMD (R464). -/
def State.windowExport (s : State) (owner : BitVec 16) : State :=
  let o := owner.toNat
  let p := tabGet {} s.br.pages o
  if !s.serves || !s.br.oldestCmd o || decide (bits p.cmd.toNat 7 0 ≠ 1) then s
  else
    let g := p.gbase.toNat
    let n := p.len.toNat
    let range := decide (n ≠ 0) && decide (n < 2 ^ 48) && decide (n % 65536 = 0) && decide (g % 65536 = 0) &&
      decide (g + n ≤ lsWinBase)
    if !range || !s.allMapped o g n then s.pageDone o (pageStatus 0 1)
    else
      match (upTo 4096).find? fun w => decide ((s.br.window w).state = 0) with
      | none => s.pageDone o (pageStatus 0 2)
      | some w =>
        let x : Window := { state := 1, perm := (p.arg.extractLsb' 16 3).setWidth 4, importer := p.arg.setWidth 16
                            exporter := owner, len := BitVec.ofNat 48 n, gbase := BitVec.ofNat 52 g }
        ((s.setExp o g n).setWindow w x).pageDone o (pageStatus w 0)

/-- WINDOW_REVOKE_CMD (R464, R465). -/
def State.windowRevoke (s : State) (owner : BitVec 16) : State :=
  let o := owner.toNat
  let p := tabGet {} s.br.pages o
  if !s.serves || !s.br.oldestCmd o || decide (bits p.cmd.toNat 7 0 ≠ 2) then s
  else
    let w := bits p.cmd.toNat 27 16
    let x := s.br.window w
    if x.exporter ≠ owner || decide (x.state ≠ 1) then s.pageDone o (pageStatus w 1)
    else
      let s := s.windowRevokeStart w
      { s with br := { s.br with pages := tabSet s.br.pages o { p with revoking := some w } } }

/-- A host write of a word of a command page (Table 19-3); a CMD other than EXPORT and REVOKE is refused. -/
def State.pageWrite (s : State) (o off n v : Nat) : State :=
  let p := tabGet {} s.br.pages o
  let put (q : CmdPage) : State := { s with br := { s.br with pages := tabSet s.br.pages o q } }
  let w : Word := BitVec.ofNat 32 v
  let lo (x : DWord) : DWord := BitVec.ofNat 64 (setField x.toNat 31 0 v)
  let hi (x : DWord) : DWord := BitVec.ofNat 64 (setField x.toNat 63 32 v)
  if n = 8 then
    match off with
    | 8 => put { p with gbase := BitVec.ofNat 64 v }
    | 16 => put { p with len := BitVec.ofNat 64 v }
    | _ => s
  else if n ≠ 4 then s
  else
    match off with
    | 0 =>
      if p.busy then s
      else
        let k := bits v 7 0
        if decide (k = 1) || decide (k = 2) then
          { put { p with cmd := w, status := 0, busy := true, order := s.br.cmdNo } with
            br := { (put { p with cmd := w, status := 0, busy := true, order := s.br.cmdNo }).br with
              cmdNo := s.br.cmdNo + 1 } }
        else put { p with cmd := w, status := pageStatus 0 1 }
    | 8 => put { p with gbase := lo p.gbase }
    | 12 => put { p with gbase := hi p.gbase }
    | 16 => put { p with len := lo p.len }
    | 20 => put { p with len := hi p.len }
    | 24 => put { p with arg := w }
    | _ => s

/-! ### Collectives (R467–R472) -/

/-- A member of a group's list: device, launch handle, `tlin` (R467). -/
def State.member (s : State) (g : Group) (rank : Nat) : Nat × Word × Nat :=
  let a := g.mlist.toNat * 16 + 16 * rank
  (bits (s.csram.num a 4) 9 0, BitVec.ofNat 32 (s.csram.num (a + 4) 4), bits (s.csram.num (a + 8) 4) 17 0)

/-- The number of ranks. -/
def Group.ranks (g : Group) : Nat := g.rm1.toNat + 1

/-- A counter of a tile and of its twin set to FAULT (R315, R493). -/
def State.faultCounter (s : State) (key cc : Nat) (st : Byte) : State :=
  let t := s.tile key
  let s1 := s.setTile key (t.faultCount cc st)
  match t.launch.bind s.launch? with
  | some l => if l.dual then s1.modTile (l.twinOf t.tlin) (fun u => u.faultCount cc st) else s1
  | none => s1

/-- A landing of bytes counted at a tile and its twin (R315, R493). -/
def State.countAt (s : State) (key cc k : Nat) : State :=
  let t := s.tile key
  let s1 := s.setTile key (t.count cc k)
  match t.launch.bind s.launch? with
  | some l => if l.dual then s1.modTile (l.twinOf t.tlin) (fun u => u.count cc k) else s1
  | none => s1

/-- A message of a group's collectives goes to another device (R467). -/
def State.collSend (s : State) (dev group : Nat) (m : CollMsg) : State :=
  { s with br := { s.br with collOut := s.br.collOut ++ [(dev, group, m)] } }

/-- A submission ends: its tile has one collective fewer outstanding. -/
def State.subEnd (s : State) (b : Submission) : State :=
  if b.dev.isSome then s else s.modTile b.tile fun t => { t with colls := t.colls - 1 }

/-- A submission faults (R468); another device is told so. -/
def State.subFault (s : State) (b : Submission) (st : Byte) : State :=
  match b.dev with
  | some d => s.collSend d b.group (.rejected b.rank b.seqNo st)
  | none => (s.faultCounter b.tile b.cc st).subEnd b

/-- Every submission of a group that passes a test ends with FAULT. -/
def State.failSubs (s : State) (g : Nat) (st : Byte) (which : Submission → Bool) : State :=
  let l := s.br.subs.filter fun b => decide (b.group = g) && which b
  let s := { s with br := { s.br with
    subs := s.br.subs.filter (fun b => !(decide (b.group = g) && which b))
    colls := s.br.colls.filter (fun c => decide (c.group ≠ g)) } }
  l.foldl (fun s b => s.subFault b st) s

/-- The other devices that hold a member of a group (R467). -/
def State.otherDevices (s : State) (g : Group) : List Nat :=
  ((upTo g.ranks).map fun r => (s.member g r).1).foldl (fun l d => if d = s.br.id.toNat then l else insertNat d l) []

/-- The group takes no submissions until EN is written again (R472). -/
def State.stopHere (s : State) (g : Nat) (st : Byte) : State :=
  let x := tabGet {} s.br.groups g
  let s := { s with br := { s.br with groups := tabSet s.br.groups g { x with stopped := some st } } }
  s.failSubs g st fun _ => true

/-- The group stops here and at every other device that holds a member (R472). -/
def State.stopGroup (s : State) (g : Nat) (st : Byte) : State :=
  (s.otherDevices (tabGet {} s.br.groups g)).foldl (fun s d => s.collSend d g (.stopped st)) (s.stopHere g st)

/-- A launch that is fenced, aborted or ended stops the groups that it belongs to (R472). -/
def State.endRanks (s : State) (owner : BitVec 16) (handle : Word) (st : Byte) : State :=
  let gs := s.br.groups.filter fun g => g.2.en && decide (g.2.owner = owner) && g.2.stopped.isNone &&
    (upTo g.2.ranks).any fun r =>
      let m := s.member g.2 r
      decide (m.1 = s.br.id.toNat) && decide (m.2.1 = handle)
  gs.foldl (fun s g => s.stopGroup g.1 st) s

/-- Submissions held ahead of the expectation are accepted as it reaches them (R468). -/
def Group.expect (g : Group) (rank : Nat) : Nat := nth 0 g.exps rank

/-- The group's home, the device of rank 0 (R467). -/
def State.groupHome (s : State) (g : Group) : Nat := (s.member g 0).1

/-- The submission is of the member that its rank names: of a tile of this module, or of another device (R468). -/
def State.isMember (s : State) (g : Group) (b : Submission) : Bool :=
  let m := s.member g b.rank
  match b.dev with
  | some d => decide (m.1 = d) && decide (s.groupHome g = s.br.id.toNat)
  | none =>
    let t := s.tile b.tile
    (match t.launch.bind s.launch? with
      | some l => decide (m.2.1 = l.handle) && decide (g.owner = l.owner)
      | none => false) && decide (m.1 = s.br.id.toNat) && decide (m.2.2 = t.tlin)

/-- How far a submission is ahead of its rank's expectation, modulo 2^32. -/
def Group.ahead (g : Group) (b : Submission) : Nat := (b.seqNo + 2 ^ 32 - g.expect b.rank) % 2 ^ 32

/-- One arrived submission is judged (R468); one that is accepted here goes to the group's home too (R467). -/
def State.judgeSub (s : State) (b : Submission) : State :=
  let g := tabGet {} s.br.groups b.group
  let rest := s.br.subs.filter fun c => decide (c ≠ b)
  let drop : State := { s with br := { s.br with subs := rest } }
  match g.stopped with
  | some st => drop.subFault b st
  | none =>
    if decide (4096 ≤ b.group) || !g.en || decide (g.ranks ≤ b.rank) || !s.isMember g b then drop.subFault b stNoTarget
    else
      let ahead := g.ahead b
      if ahead = 0 then
        let g' := { g with exps := modNth (fun e => (e + 1) % 2 ^ 32) g.exps b.rank }
        let s' : State := { s with br := { s.br with groups := tabSet s.br.groups b.group g'
                                                     subs := rest ++ [{ b with accepted := true, held := false }] } }
        if s.groupHome g = s.br.id.toNat then s'
        else s'.collSend (s.groupHome g) b.group (.submit b.rank b.seqNo b.kind b.rop b.len)
      else if ahead ≤ 15 then
        { s with br := { s.br with subs := s.br.subs.map fun c => if c = b then { c with held := true } else c } }
      else drop.subFault b stNoTarget

/-- The rank that the member list gives a tile, if any. -/
def State.rankOf (s : State) (g : Group) (handle : Word) (tlin : Nat) : Option Nat :=
  (upTo g.ranks).find? fun r => decide (s.member g r = (s.br.id.toNat, handle, tlin))

/-- Judges every submission of a group that has arrived, and those held as the expectation reaches or passes them. A submission
arrives after the accesses that precede it, and in a DUAL launch after its comparison (R378, R491). -/
def State.judgeSubs (s : State) (g : Nat) : Nat → State
  | 0 => s
  | k + 1 =>
    match s.br.subs.find? fun b => decide (b.group = g) && !b.accepted && decide (b.arriveAt ≤ s.clk) &&
        (b.dev.isSome || (!(s.tile b.tile).anyOpen b.after && ((s.tile b.tile).egress.all fun e => decide (b.msg < e.k)))) &&
        (!b.held || decide ((tabGet {} s.br.groups g).ahead b = 0) || decide (15 < (tabGet {} s.br.groups g).ahead b)) with
    | none => s
    | some b => (s.judgeSub b).judgeSubs g k

/-- The access of a submission to its source or destination (R405, R406). -/
def Submission.access (b : Submission) (d : FarDest) (issuer : BitVec 16) (o n : Nat) (op : AccOp) (ext : ExtReply := {}) :
    Access :=
  { addr := d.addr.toNat + o, n, op, issuer, target := d.owner, crown := true, agent := .coll, src := b.tile, req := b.seqNo
    hint := if d.hen then some d.home.toNat else none, ext }

/-- Reads the source of a submission of this module, chunk by chunk (R471). -/
def State.readRange (s : State) (b : Submission) (o : Nat) : Nat → Except (Option Byte) (List (Byte × Bool)) × State
  | 0 => (.ok [], s)
  | k + 1 =>
    match s.accessSpan (b.access b.src b.issuer o 64 .read) 2 with
    | (.ok d, s') =>
      match s'.readRange b (o + 64) k with
      | (.ok r, s'') => (.ok (d ++ r), s'')
      | r => r
    | r => r

/-- The contribution of a rank: its source, or the chunks that another device has sent, once all have come (R471). -/
def State.readSource (s : State) (b : Submission) : Except (Option Byte) (List (Byte × Bool)) × State :=
  if b.dev.isNone then s.readRange b 0 (b.len / 64)
  else if b.failed.isSome then (.error b.failed, s)
  else if b.chunks.length < b.len / 64 then (.error none, s)
  else (.ok ((upTo (b.len / 64)).flatMap fun k => tabGet [] b.chunks k), s)

/-- The fold of R470 over two sources, element by element. -/
def foldElems (rop : Nat) : List (Byte × Bool) → List (Byte × Bool) → List (Byte × Bool)
  | a :: b :: c :: d :: es, p :: q :: r :: t :: ss =>
    let bad := a.2 || b.2 || c.2 || d.2 || p.2 || q.2 || r.2 || t.2
    (redBytes rop [a.1, b.1, c.1, d.1] [p.1, q.1, r.1, t.1]).map (fun x => (x, bad)) ++ foldElems rop es ss
  | _, _ => []

/-- The result bytes of a collective from the sources in rank order (Table 19-5, before slicing). -/
def collResult (kind rop : Nat) (srcs : List (List (Byte × Bool))) : List (Byte × Bool) :=
  match kind with
  | 2 => srcs.flatten
  | 3 => srcs.headD []
  | _ => match srcs with
    | [] => []
    | x :: xs => xs.foldl (foldElems rop) x

/-- The bytes that rank i's destination receives: offset within the result and length (Table 19-5). -/
def collSlice (kind len ranks rank : Nat) : Nat × Nat :=
  match kind with
  | 1 => (rank * (len / ranks), len / ranks)
  | 2 => (0, ranks * len)
  | _ => (0, len)

/-- Reads the sources of the ranks in turn. -/
def State.readSources (s : State) : List Submission → Except (Option Byte) (List (List (Byte × Bool))) × State
  | [] => (.ok [], s)
  | b :: bs =>
    match s.readSource b with
    | (.ok d, s') =>
      match s'.readSources bs with
      | (.ok r, s'') => (.ok (d :: r), s'')
      | r => r
    | (.error e, s') => (.error e, s')

/-- A collective ends with a status for every rank: the submissions of its number fault, and the group's home is told when it
is another device (R469, R472). -/
def State.collFail (s : State) (q seqNo : Nat) (st : Byte) : State :=
  let g := tabGet {} s.br.groups q
  let s' := s.failSubs q st fun c => c.accepted && decide (c.seqNo = seqNo)
  if s.groupHome g = s.br.id.toNat then s' else s'.collSend (s.groupHome g) q (.failed seqNo st)

/-- The group's next collective has begun or failed. -/
def State.collNext (s : State) (q : Nat) : State :=
  let g := tabGet {} s.br.groups q
  { s with br := { s.br with groups := tabSet s.br.groups q { g with next := (g.next + 1) % 2 ^ 32 } } }

/-- CRN_BR_GRPERR takes a group, a rank and a sequence number (R469). -/
def State.groupError (s : State) (q rank seqNo : Nat) : State :=
  { s with br := { s.br with grperr := BitVec.ofNat 64 (2 ^ 63 + q * 2 ^ 48 + rank * 2 ^ 32 + seqNo) } }

/-- The lowest rank that disagrees with rank 0 on KIND, ROP or LEN; rank 0 where the LEN of a reduce-scatter breaks its
condition (R469). -/
def disagrees (ranks : Nat) (b0 : Submission) (subs : List Submission) : Option Nat :=
  match subs.find? fun b => decide (b.kind ≠ b0.kind) || decide (b.rop ≠ b0.rop) || decide (b.len ≠ b0.len) with
  | some b => some b.rank
  | none => if b0.kind = 1 && decide (b0.len % (64 * ranks) ≠ 0) then some 0 else none

/-- The contribution of a member goes to the group's home, chunk by chunk (R471). -/
def State.contribute (s : State) (home q : Nat) (b : Submission) (d : List (Byte × Bool)) : State :=
  (upTo (b.len / 64)).foldl (fun s k =>
    s.collSend home q (.contribution b.rank b.seqNo k ((d.drop (64 * k)).take 64))) s

/-- A collective of a group is in progress (R469). -/
def State.collStart (s : State) (q kind seqNo : Nat) (result : List (Byte × Bool)) : State :=
  let c : Collective := { group := q, seqNo, kind, result, landed := [] }
  ({ s with br := { s.br with colls := s.br.colls ++ [c] } } : State).collNext q

/-- COLL_BEGIN (R468, R469): arrived submissions are judged; when every rank's next submission has been accepted, the
collective begins. At a device that is not the group's home it begins for the ranks of that device, and their contributions
go to the home (R467, R471). -/
def State.collBegin (s : State) (q : Nat) : State :=
  if !s.br.cen then s
  else
    let s := s.judgeSubs q (s.br.subs.length * 17 + 1)
    let g := tabGet {} s.br.groups q
    let home := decide (s.groupHome g = s.br.id.toNat)
    let ranks := if home then upTo g.ranks else (upTo g.ranks).filter fun r => decide ((s.member g r).1 = s.br.id.toNat)
    let subs := s.br.subs.filter fun b => decide (b.group = q) && b.accepted && decide (b.seqNo = g.next)
    let subOf (r : Nat) : Option Submission := subs.find? fun b => decide (b.rank = r)
    let busy := s.br.colls.any fun c => decide (c.group = q)
    if !g.en || busy || !(ranks.all fun r => (subOf r).isSome) then s
    else
      let mine := ranks.filterMap subOf
      match mine with
      | [] => s
      | b0 :: _ =>
        match if home then disagrees g.ranks b0 mine else none with
        | some r => ((s.collFail q g.next stNoTarget).groupError q r g.next).collNext q
        | none =>
          match s.readSources mine with
          | (.ok d, s') =>
            if home then s'.collStart q b0.kind g.next (collResult b0.kind b0.rop d)
            else ((mine.zip d).foldl (fun s b => s.contribute (s.groupHome g) q b.1 b.2) s').collStart q b0.kind g.next []
          | (.error (some st), s') => (s'.collFail q g.next st).collNext q
          | (.error none, s') => s.keepHolds s'

/-- The bytes of a chunk for a rank: of the result, or as the home has sent them (R471). -/
def State.chunkBytes (s : State) (c : Collective) (b : Submission) (g : Group) (chunk : Nat) (ext : ExtReply) :
    Option (List (Byte × Bool)) :=
  if s.groupHome g = s.br.id.toNat then some ((c.result.drop ((collSlice c.kind b.len g.ranks b.rank).1 + 64 * chunk)).take 64)
  else match c.arrived.find? fun a => decide (a.1 = b.rank) && decide (a.2.1 = chunk) with
    | some a => some a.2.2
    | none => if ext.data.isEmpty then none else some ((upTo 64).map fun i => (nth 0 ext.data i, false))

/-- A chunk of the collective has landed, or left for another device; with the last the collective ends here. -/
def State.chunkLanded (s : State) (q : Nat) (c : Collective) (rank chunk : Nat) : State :=
  let g := tabGet {} s.br.groups q
  let c' := { c with landed := (rank, chunk) :: c.landed }
  let mine := fun (x : Submission) => decide (x.group = q) && x.accepted && decide (x.seqNo = c.seqNo)
  let done := (s.br.subs.filter mine).all fun x =>
    (upTo ((collSlice c.kind x.len g.ranks x.rank).2 / 64)).all fun k => c'.landed.contains (x.rank, k)
  if done then
    let s' : State := { s with br := { s.br with
      subs := s.br.subs.filter fun x => !mine x
      colls := s.br.colls.filter fun x => decide (x.group ≠ q) } }
    (s.br.subs.filter mine).foldl (fun s x => s.subEnd x) s'
  else { s with br := { s.br with colls := s.br.colls.map fun x => if x.group = q then c' else x } }

/-- COLL_CHUNK_LAND (R471, R472): one 64-byte chunk of the collective in progress lands at a rank's destination, once, or
leaves for the rank's device. Where the group's home is another device, the chunk is one that has arrived, or `ext` gives it. -/
def State.collChunkLand (s : State) (q rank chunk : Nat) (ext : ExtReply) : State :=
  match s.br.colls.find? fun c => decide (c.group = q) with
  | none => s
  | some c =>
    let g := tabGet {} s.br.groups q
    match s.br.subs.find? fun b => decide (b.group = q) && decide (b.rank = rank) && b.accepted &&
        decide (b.seqNo = c.seqNo) with
    | none => s
    | some b =>
      if decide ((collSlice c.kind b.len g.ranks rank).2 ≤ 64 * chunk) || c.landed.contains (rank, chunk) then s
      else
        match s.chunkBytes c b g chunk ext, b.dev with
        | none, _ => s
        | some bytes, some d => (s.collSend d q (.result rank c.seqNo chunk bytes)).chunkLanded q c rank chunk
        | some bytes, none =>
          match s.accessSpan (b.access b.dst b.dissuer (64 * chunk) 64 (.write bytes) ext) 2 with
          | (.ok _, s') => (s'.countAt b.tile b.cc 64).chunkLanded q c rank chunk
          | (.error (some st), s') => s'.collFail q c.seqNo st
          | (.error none, s') => s.keepHolds s'

/-- A message of a group's collectives comes from another device (R467, R471, R472). A submission is judged with the next
COLL_BEGIN; a chunk that has come before, or belongs to no submission or collective in progress, is discarded. -/
def State.collMessage (s : State) (dev q : Nat) (m : CollMsg) : State :=
  let g := tabGet {} s.br.groups q
  let of (rank seqNo : Nat) (b : Submission) : Bool :=
    decide (b.group = q) && decide (b.rank = rank) && b.accepted && decide (b.seqNo = seqNo)
  match m with
  | .submit rank seqNo kind rop len =>
    let d : FarDest := { addr := 0, owner := 0, mode := 0, hen := false, home := 0 }
    { s with br := { s.br with subs := s.br.subs ++
      [{ group := q, rank, seqNo, tile := 0, kind, rop, len, src := d, dst := d, cc := 0, issuer := 0, arriveAt := s.clk
         dev := some dev }] } }
  | .contribution rank seqNo chunk bytes =>
    let put (b : Submission) : Submission :=
      if decide (b.group = q) && decide (b.rank = rank) && decide (b.seqNo = seqNo) && decide (b.dev = some dev) &&
          decide (chunk < b.len / 64) && (b.chunks.lookup chunk).isNone then
        { b with chunks := tabSet b.chunks chunk (bytes.take 64) } else b
    { s with br := { s.br with subs := s.br.subs.map put } }
  | .result rank seqNo chunk bytes =>
    let put (c : Collective) : Collective :=
      if decide (c.group = q) && decide (c.seqNo = seqNo) && decide (s.groupHome g = dev) &&
          !(c.arrived.any fun a => decide (a.1 = rank) && decide (a.2.1 = chunk)) then
        { c with arrived := c.arrived ++ [(rank, chunk, bytes.take 64)] } else c
    { s with br := { s.br with colls := s.br.colls.map put } }
  | .rejected rank seqNo st =>
    match s.br.subs.find? (of rank seqNo) with
    | none => s
    | some b =>
      if decide (s.groupHome g ≠ dev) || b.dev.isSome then s
      else ({ s with br := { s.br with
        subs := s.br.subs.filter fun c => decide (c ≠ b)
        colls := s.br.colls.filter fun c => !(decide (c.group = q) && decide (c.seqNo = seqNo)) } }).subFault b st
  | .failed seqNo st =>
    if s.groupHome g ≠ s.br.id.toNat then s
    else if s.br.colls.any fun c => decide (c.group = q) && decide (c.seqNo = seqNo) then s.collFail q seqNo st
    else
      let put (b : Submission) : Submission :=
        if decide (b.group = q) && decide (b.seqNo = seqNo) && decide (b.dev = some dev) then { b with failed := some st } else b
      { s with br := { s.br with subs := s.br.subs.map put } }
  | .stopped st => if (s.otherDevices g).contains dev then s.stopHere q st else s

/-- BR_GROUP_WRITE (R467, R468, Table 19-6). -/
def State.groupWrite (s : State) (q : Nat) (v : BitVec 128) : State :=
  let x := v.toNat
  let rm1 := bits x 25 16
  let mlist := bits x 51 32
  let g : Group := { rm1 := BitVec.ofNat 10 rm1, owner := BitVec.ofNat 16 x, mlist := BitVec.ofNat 20 mlist }
  if q ≥ 4096 then s
  else if !bit x 31 then { s with br := { s.br with groups := tabSet s.br.groups q g } }
  else if decide (rm1 = 0) || decide (2 ^ 24 < mlist * 16 + 16 * (rm1 + 1)) then
    { s with br := { s.br with groups := tabSet s.br.groups q g
                               grperr := BitVec.ofNat 64 (2 ^ 63 + q * 2 ^ 48) } }
  else { s with br := { s.br with
    groups := tabSet s.br.groups q { g with en := true, exps := (upTo (rm1 + 1)).map fun _ => 0 } } }

/-! ### HDM decoders and the host's CXL.mem (R475, R476) -/

/-- Bytes that a decoder maps. -/
def Hdm.bytes (h : Hdm) : Nat := h.size.toNat * 2 ^ 28

/-- HDM_CTL_WRITE (Table 19-6): EN stays 0 on an overlap with an enabled decoder or past the paged region. -/
def State.hdmCtl (s : State) (k : Nat) (v : Word) : State :=
  let h := vget {} s.br.hdm k
  let h := { h with size := v.extractLsb' 16 15, owner := v.setWidth 16, en := false }
  let overlap := (upTo 8).any fun j =>
    let o := vget {} s.br.hdm j
    decide (j ≠ k) && o.en && decide (h.hbase.toNat < o.hbase.toNat + o.bytes) &&
      decide (o.hbase.toNat < h.hbase.toNat + h.bytes)
  let bad := overlap || decide (lsWinBase < h.gbase.toNat + h.bytes) || decide (h.size = 0) || decide (2048 < h.size.toNat)
  { s with br := { s.br with hdm := vset s.br.hdm k { h with en := v.getLsbD 31 && !bad } } }

/-- The host is answered (R475). -/
def State.hostAnswer (s : State) (hpa : Nat) (data : List (Byte × Bool)) : State :=
  { s with br := { s.br with hostAnswers := s.br.hostAnswers ++ [{ hpa, data }] } }

/-- The snoop filter takes the line that the host has read, where it lies in HBM (R476). -/
def State.noteLine (s : State) (a : Nat) (owner : BitVec 16) : State :=
  match s.lookupPage a owner.toNat with
  | .entry _ _ p =>
    if p.kind = 0 then { s with br := { s.br with
      snoopLines := insertNat (lineNo p.home (p.frame * 65536 + a % p.size)) s.br.snoopLines } }
    else s
  | _ => s

/-- A host access through decoder k performs and is answered; one that does not complete with OK returns poison for a read,
writes nothing, and raises an error event (R475, R476). False while it is held. -/
def State.hostPerform (s : State) (k hpa : Nat) (wr : Option (List Byte)) (ext : ExtReply) : Bool × State :=
  let h := vget {} s.br.hdm k
  let a := h.gbase.toNat + (hpa - h.hbase.toNat)
  let op : AccOp := match wr with
    | none => .read
    | some bs => .write (clean (bs.take 64))
  match s.access { addr := a, n := 64, op, issuer := h.owner, target := h.owner, crown := true, agent := .host, src := k
                   req := hpa / 64, ext } with
  | (.done 0 d, s') => (true, (if wr.isSome then s' else s'.noteLine a h.owner).hostAnswer hpa d)
  | (.done _ _, s') =>
    (true, (s'.raiseEvent 26 2 noId noId (bits a 31 0)).hostAnswer hpa
      (if wr.isSome then [] else (upTo 64).map fun _ => (0, true)))
  | (_, s') => (false, s')

/-- Host accesses that were held are tried again in their order; one behind a held access to its line waits (R412). -/
def State.hostRetry (s : State) : State :=
  s.br.hostHeld.foldl (fun s h =>
    let earlier := s.br.hostHeld.takeWhile fun g => decide (g ≠ h)
    if earlier.any fun g => decide (g.2.1 = h.2.1) then s
    else
      match s.hostPerform h.1 h.2.1 h.2.2.1 h.2.2.2 with
      | (true, s') => { s' with br := { s'.br with hostHeld := s'.br.hostHeld.erase h } }
      | (false, s') => s') s

/-- HOST_CXL_MEM_ACCESS (R475, R476): a read or a write of 64 bytes through decoder k. -/
def State.hostAccess (s : State) (k hpa : Nat) (wr : Option (List Byte)) (ext : ExtReply) : State :=
  let h := vget {} s.br.hdm k
  if !h.en || decide (hpa < h.hbase.toNat) || decide (h.hbase.toNat + h.bytes ≤ hpa) || decide (hpa % 64 ≠ 0) then s
  else
    let hold (s : State) : State := { s with br := { s.br with hostHeld := s.br.hostHeld ++ [(k, hpa, wr, ext)] } }
    if s.br.hostHeld.any fun g => decide (g.2.1 = hpa) then hold s
    else match s.hostPerform k hpa wr ext with
      | (true, s') => s'
      | (false, s') => hold s'

/-- HOST_SNOOP_RESPONSE (R476): the host gives up a line; writes to it may perform. -/
def State.snoopResponse (s : State) (line : Nat) : State :=
  { s with br := { s.br with
    snoopLines := s.br.snoopLines.filter (· ≠ line), snoopWait := s.br.snoopWait.filter (· ≠ line) } }

/-! ### Registers (R478) -/

/-- A write of CRN_BR_PORTp: EN starts training; bit 63 clears the retry count. -/
def State.portWrite (s : State) (p : Nat) (v : Nat) : State :=
  let q := vget {} s.br.ports p
  let st : BitVec 3 := if !bit v 0 then 0 else if q.en && decide (q.state ≠ 0) then q.state else if s.bu.ready.getLsbD 24 then 1 else 0
  let s := { s with br := { s.br with ports := vset s.br.ports p { q with en := bit v 0, state := st } } }
  if bit v 63 then s.portRetryClear p else s

/-- A write in the bridge block; none where no register of that width stands (R398). -/
def State.brWrite (s : State) (off n v : Nat) : Option State :=
  let b := s.br
  if n = 2 then
    if decide (0x10000 ≤ off) && decide (off < 0x11000) && decide (off % 2 = 0) then
      let g := (off - 0x10000) / 2
      some { s with br := { b with
        rgown := tabSet b.rgown g (BitVec.ofNat 16 v)
        rgownWas := if (b.rgownWas.lookup g).isSome then b.rgownWas else (g, s.rgOwnerOf g) :: b.rgownWas } }
    else none
  else if n = 4 then
    if off = 0 then
      some { s with br := { b with id := if b.lock then b.id else BitVec.ofNat 10 v, lock := b.lock || bit v 31 } }
    else if off = 8 then some { s with br := { b with fwd := bit v 0, cen := bit v 1 } }
    else if off = 0x10 then some s
    else if decide (0x1000 ≤ off) && decide (off < 0x2000) && decide (off % 4 = 0) then
      some { s with br := { b with routes := tabSet b.routes ((off - 0x1000) / 4) (BitVec.ofNat 24 v) } }
    else if decide (0x100010 ≤ off) && decide (off < 0x100100) && decide (off % 32 = 16) then
      some (s.hdmCtl ((off - 0x100000) / 32) (BitVec.ofNat 32 v))
    else none
  else if n = 8 then
    if off = 0x18 then some s.grperrClear
    else if decide (0x100 ≤ off) && decide (off < 0x1C0) && decide (off % 8 = 0) then
      some (s.portWrite ((off - 0x100) / 8) v)
    else if decide (0x100000 ≤ off) && decide (off < 0x100100) && decide (off % 32 = 0) then
      let k := (off - 0x100000) / 32
      some { s with br := { b with hdm := vset b.hdm k { vget {} b.hdm k with
        hbase := BitVec.ofNat 64 (bits v 51 28 * 2 ^ 28) } } }
    else if decide (0x100000 ≤ off) && decide (off < 0x100100) && decide (off % 32 = 8) then
      let k := (off - 0x100000) / 32
      some { s with br := { b with hdm := vset b.hdm k { vget {} b.hdm k with
        gbase := BitVec.ofNat 64 (bits v 50 28 * 2 ^ 28) } } }
    else none
  else if n = 16 then
    if decide (0x40000 ≤ off) && decide (off < 0x50000) && decide (off % 16 = 0) then
      some (s.groupWrite ((off - 0x40000) / 16) (BitVec.ofNat 128 v))
    else none
  else if n = 32 then
    if decide (0x20000 ≤ off) && decide (off < 0x40000) && decide (off % 32 = 0) then
      some (s.windowWrite ((off - 0x20000) / 32) v)
    else none
  else none

/-- What a bridge register reads. -/
def State.brRead (s : State) (off n : Nat) : Option Nat :=
  let b := s.br
  if n = 2 then
    if decide (0x10000 ≤ off) && decide (off < 0x11000) && decide (off % 2 = 0) then
      some (s.rgOwnerOf ((off - 0x10000) / 2)).toNat
    else none
  else if n = 4 then
    if off = 0 then some (b.id.toNat + 2 ^ 31 * ofBool b.lock)
    else if off = 8 then some (ofBool b.fwd + 2 * ofBool b.cen)
    else if off = 0x10 then some b.keys.length
    else if decide (0x1000 ≤ off) && decide (off < 0x2000) && decide (off % 4 = 0) then
      some (tabGet 0 b.routes ((off - 0x1000) / 4)).toNat
    else if decide (0x100010 ≤ off) && decide (off < 0x100100) && decide (off % 32 = 16) then
      let h := vget {} b.hdm ((off - 0x100000) / 32)
      some (h.owner.toNat + h.size.toNat * 65536 + 2 ^ 31 * ofBool h.en)
    else none
  else if n = 8 then
    if off = 0x18 then some b.grperr.toNat
    else if decide (0x100 ≤ off) && decide (off < 0x1C0) && decide (off % 8 = 0) then
      let p := vget {} b.ports ((off - 0x100) / 8)
      some (ofBool p.en + 2 * p.state.toNat + 2 ^ 32 * p.retries.toNat)
    else if decide (0x100000 ≤ off) && decide (off < 0x100100) && decide (off % 32 = 0) then
      some (vget {} b.hdm ((off - 0x100000) / 32)).hbase.toNat
    else if decide (0x100000 ≤ off) && decide (off < 0x100100) && decide (off % 32 = 8) then
      some (vget {} b.hdm ((off - 0x100000) / 32)).gbase.toNat
    else none
  else if n = 16 then
    if decide (0x40000 ≤ off) && decide (off < 0x50000) && decide (off % 16 = 0) then
      let g := tabGet {} b.groups ((off - 0x40000) / 16)
      some (g.owner.toNat + g.rm1.toNat * 65536 + 2 ^ 31 * ofBool g.en + g.mlist.toNat * 2 ^ 32)
    else none
  else if n = 32 then
    if decide (0x20000 ≤ off) && decide (off < 0x40000) && decide (off % 32 = 0) then
      some (b.window ((off - 0x20000) / 32)).bits
    else none
  else none

/-! ### The rows of this chapter -/

/-- UALINK_REQUEST_IN. -/
def execUalinkRequestIn (p : Nat) (r : UalReq) (s : State) : Host.Outcome State Fault Refusal := .next (s.ualRequestIn p r)
/-- KEY_PHASE_EXPIRY. -/
def execKeyPhaseExpiry (o : BitVec 16) (s : State) : Host.Outcome State Fault Refusal := .next (s.keyPhaseExpiry o)
/-- COLL_BEGIN. -/
def execCollBegin (q : Nat) (s : State) : Host.Outcome State Fault Refusal := .next (s.collBegin q)
/-- COLL_CHUNK_LAND. -/
def execCollChunkLand (q rank chunk : Nat) (ext : ExtReply) (s : State) : Host.Outcome State Fault Refusal :=
  .next (s.collChunkLand q rank chunk ext)
/-- BR_GROUP_WRITE. -/
def execBrGroupWrite (q : Nat) (v : BitVec 128) (s : State) : Host.Outcome State Fault Refusal := .next (s.groupWrite q v)
/-- WINDOW_ACTIVATE. -/
def execWindowActivate (w : Nat) (s : State) : Host.Outcome State Fault Refusal := .next (s.windowActivate w)
/-- WINDOW_REVOKE_START. -/
def execWindowRevokeStart (w : Nat) (s : State) : Host.Outcome State Fault Refusal := .next (s.windowRevokeStart w)
/-- REVOCATION_APPLY. -/
def execRevocationApply (w home : Nat) (s : State) : Host.Outcome State Fault Refusal := .next (s.revocationApply w home)
/-- REVOCATION_COMPLETE. -/
def execRevocationComplete (w : Nat) (s : State) : Host.Outcome State Fault Refusal := .next (s.revocationComplete w)
/-- WINDOW_FREE. -/
def execWindowFree (w : Nat) (s : State) : Host.Outcome State Fault Refusal := .next (s.windowFree w)
/-- WINDOW_EXPORT_CMD. -/
def execWindowExportCmd (o : BitVec 16) (s : State) : Host.Outcome State Fault Refusal := .next (s.windowExport o)
/-- WINDOW_REVOKE_CMD. -/
def execWindowRevokeCmd (o : BitVec 16) (s : State) : Host.Outcome State Fault Refusal := .next (s.windowRevoke o)
/-- HDM_CTL_WRITE. -/
def execHdmCtlWrite (k : Nat) (v : Word) (s : State) : Host.Outcome State Fault Refusal := .next (s.hdmCtl k v)
/-- BR_PORT_RETRY_CLEAR. -/
def execBrPortRetryClear (p : Nat) (s : State) : Host.Outcome State Fault Refusal := .next (s.portRetryClear p)
/-- GRPERR_CLEAR. -/
def execGrperrClear (s : State) : Host.Outcome State Fault Refusal := .next s.grperrClear
/-- HOST_CXL_MEM_ACCESS. -/
def execHostCxlMemAccess (k hpa : Nat) (wr : Option (List Byte)) (ext : ExtReply) (s : State) :
    Host.Outcome State Fault Refusal := .next (s.hostAccess k hpa wr ext)
/-- UALINK_PORT_TRAINING_DONE. -/
def execUalinkPortTrainingDone (p : Nat) (up : Bool) (s : State) : Host.Outcome State Fault Refusal :=
  .next (s.ualTrained p up)
/-- UALINK_PORT_FAILURE. -/
def execUalinkPortFailure (p : Nat) (s : State) : Host.Outcome State Fault Refusal := .next (s.ualFailed p)
/-- HOST_SNOOP_RESPONSE. -/
def execHostSnoopResponse (line : Nat) (s : State) : Host.Outcome State Fault Refusal := .next (s.snoopResponse line)

end Sys2Proof.Machine
end

