-- ==== Sys2Proof/Machine/Context.lean ====
section
/-! DEFINITION. The saved context (R45–R48): the context block of Table 1-7 with its shadow entries (Table 1-8) and its sweep
state (Table 14-6), as bytes; what a tile writes into it, and the tile that it describes. -/

namespace Sys2Proof.Machine

/-! ### Pieces of a block -/

/-- `n` bytes of zero. -/
def zeros (n : Nat) : List Byte := List.replicate n 0

/-- A list of bytes brought to a length with zeros. -/
def padTo (n : Nat) (bs : List Byte) : List Byte := (bs ++ zeros n).take n

/-- Bytes from an address on as a memory. -/
def Memory.image (a : Nat) : List Byte → Memory
  | [] => []
  | b :: bs => if b = 0 then Memory.image (a + 1) bs else (a, b) :: Memory.image (a + 1) bs

/-- A memory with a run of bytes replaced; the canonical form is kept. -/
def Memory.splice (m : Memory) (a : Nat) (bs : List Byte) : Memory :=
  (m.filter fun c => decide (c.1 < a)) ++ Memory.image a bs ++ m.filter fun c => decide (a + bs.length ≤ c.1)

/-- Little-endian words (R2). -/
def words32 (ws : List Word) : List Byte := ws.flatMap fun w => toBytes 4 w.toNat

/-- A control register that the context holds (Table 1-5). -/
def cregSaved (n : Nat) : Bool := decide (n < 0x1D) && decide (n ≠ 3)

/-- MSHAPE0–3 and FMTT, which follow MXOWN (R33, R257, R267). -/
def cregMx (n : Nat) : Bool := decide (4 ≤ n ∧ n ≤ 7) || n = 0xF

/-- The bits of a control register that are fields (Table 1-6): a reserved bit is dropped and reads as zero (R7, R30). -/
def cregFields (n v : Nat) : Nat :=
  match n with
  | 0x00 => bits v 12 0 + bits v 17 16 * 2 ^ 16
  | 0x01 => v % 4
  | 0x02 => v % 64
  | 0x08 => v % 16
  | 0x09 | 0x0A => v % 2 ^ 16
  | 0x0B => v % 8
  | 0x0D => v % 2 ^ 42
  | 0x0E => bits v 16 5 * 2 ^ 5
  | 0x0F => bits v 16 4 * 2 ^ 4 + bits v 22 20 * 2 ^ 20
  | _ => v

/-- The value of a control register (Tables 1-5 and 1-6). -/
def Tile.creg (t : Tile) (n : Nat) : Nat :=
  if 4 ≤ n ∧ n ≤ 7 then (vget 0 t.mshape (n - 4)).toNat
  else if 0x10 ≤ n ∧ n ≤ 0x15 then
    let e := t.loop (n - 0x10)
    e.start.toNat + 2 ^ 12 * e.stop.toNat + 2 ^ 32 * e.count.toNat
  else if 0x16 ≤ n ∧ n ≤ 0x1B then (t.loop (n - 0x16)).index.toNat
  else match n with
    | 0x00 => t.tctl.toNat
    | 0x01 => t.vctl.toNat
    | 0x02 => t.vstat.toNat
    | 0x08 => t.cir.toNat
    | 0x09 => t.relmask.toNat
    | 0x0A => t.beta.toNat
    | 0x0B => t.depth
    | 0x0C => t.wid.toNat
    | 0x0D => t.widf.toNat
    | 0x0E => t.segt.toNat
    | 0x0F => t.fmtt.toNat
    | 0x1C => t.spcnt.toNat
    | 0x1D => t.mxown.toNat
    | 0x20 => t.tstat.toNat
    | 0x21 => t.tcause.toNat
    | 0x22 => t.tepc.toNat
    | 0x23 => t.tinfo.toNat
    | 0x24 => t.tvec.toNat
    | 0x25 => t.tscr.toNat
    | 0x26 => t.ctxb.toNat
    | _ => 0

/-! ### Stream descriptors (Table 11-6) -/

/-- The stream of the eight words of a descriptor (Table 11-6). -/
def streamOf (d : Nat) : Stream :=
  let w (i : Nat) := bits d (32 * i + 31) (32 * i)
  { on := true, wrap := bit (w 7) 31, ovr := bit (w 7) 30, fin := bit (w 7) 29, strip := bit (w 0) 24
    base := BitVec.ofNat 17 (w 0)
    n0 := BitVec.ofNat 16 (w 1), n1 := BitVec.ofNat 16 (w 1 / 65536), n2 := BitVec.ofNat 16 (w 2)
    s0 := BitVec.ofNat 32 (w 3), s1 := BitVec.ofNat 32 (w 4), s2 := BitVec.ofNat 32 (w 5)
    i0 := BitVec.ofNat 16 (w 6), i1 := BitVec.ofNat 16 (w 6 / 65536), i2 := BitVec.ofNat 16 (w 7) }

/-- The 32 bytes of a stream's descriptor; zero for a register that is not in stream mode (R292). -/
def Stream.descriptor (st : Stream) : List Byte :=
  if !st.on then toBytes 32 0
  else
    toBytes 4 (st.base.toNat + 2 ^ 24 * ofBool st.strip) ++ toBytes 4 (st.n0.toNat + 65536 * st.n1.toNat) ++
    toBytes 4 st.n2.toNat ++ toBytes 4 st.s0.toNat ++ toBytes 4 st.s1.toNat ++ toBytes 4 st.s2.toNat ++
    toBytes 4 (st.i0.toNat + 65536 * st.i1.toNat) ++
    toBytes 4 (st.i2.toNat + 2 ^ 29 * ofBool st.fin + 2 ^ 30 * ofBool st.ovr + 2 ^ 31 * ofBool st.wrap)

/-! ### Shadow entries (R46, R266) -/

/-- One shadow entry: the descriptor of Table 1-8, then its value. -/
def shadowEntry (sock count : Nat) (stand wide : Bool) (val : Nat) : List Byte :=
  toBytes 8 (sock + 16 * ofBool stand + 32 * (count % 64) + 2048 * ofBool wide) ++
    toBytes 64 (if wide then val else val % 2 ^ 32)

/-- The entries of a socket's results, standing ones first, each in the order of R39. A sweep's result has no countdown:
Table 14-6 carries it. -/
def SockQ.entries (q : SockQ) (sock : Nat) : List (List Byte) :=
  (q.stand.map fun r => shadowEntry sock 0 true r.wide r.val.toNat) ++
    (q.fly.filter fun r => decide (r.due < openEnd)).map fun r => shadowEntry sock r.due false r.wide r.val.toNat

/-- The value of a suspended macro operation's entry: code, v, b, k and the format entry (R266). -/
def Macro.entryVal (m : Macro) : Nat :=
  m.code % 2 ^ 32 + 2 ^ 32 * m.v.toNat + 2 ^ 64 * m.done + 2 ^ 96 * m.kcount + 2 ^ 128 * m.entry.toNat

/-- The entries that `mx` adds: the accumulator, and a suspended macro operation (R266). -/
def Tile.mxEntries (t : Tile) : List (List Byte) :=
  shadowEntry 7 62 false true (ofLanes t.ac.toList) ::
    match t.mac with
    | some m => [shadowEntry 7 63 false true m.entryVal]
    | none => []

/-- Every shadow entry of a tile and its snapshot, by socket; at most 104 (R46). -/
def Tile.shadows (t : Tile) (sn : Snapshot) : List (List Byte) :=
  ((upTo 13).flatMap fun k =>
    (vget {} sn.socks k : SockQ).entries k ++ if k = 7 then t.mxEntries else []).take 104

/-- An entry read from a block: socket, countdown, standing, wide, value. -/
structure Shadow where
  sock : Nat
  count : Nat
  stand : Bool
  wide : Bool
  val : Nat
  deriving DecidableEq, Repr

/-- Entry i of a block. -/
def shadowAt (b : Memory) (i : Nat) : Shadow :=
  let d := b.num (0x1400 + 72 * i) 8
  { sock := bits d 3 0, count := bits d 10 5, stand := bit d 4, wide := bit d 11, val := b.num (0x1408 + 72 * i) 64 }

/-- The entry is one of the two of R266. -/
def Shadow.mx (e : Shadow) : Bool := decide (e.sock = 7) && !e.stand && decide (62 ≤ e.count)

/-- The result that an entry describes; its order is the entry's number. -/
def Shadow.result (e : Shadow) (i : Nat) : Result := { due := e.count, seq := i, wide := e.wide, val := BitVec.ofNat 512 e.val }

/-- The entries of a block with their numbers. -/
def shadowsOf (b : Memory) : List (Nat × Shadow) := (upTo (min 104 (b.num 12 4))).map fun i => (i, shadowAt b i)

/-- The results of a socket that a block holds, with countdowns. -/
def sockOfBlock (es : List (Nat × Shadow)) (k : Nat) : SockQ :=
  let l := es.filter fun e => decide (e.2.sock = k) && !e.2.mx
  { stand := (l.filter fun e => e.2.stand).map fun e => e.2.result e.1
    fly := (l.filter fun e => !e.2.stand).map fun e => e.2.result e.1 }

/-! ### The Balance's part (R47, R356) -/

/-- The sweep state of Table 14-6. -/
def Bal.sweepBytes (b : Bal) : List Byte :=
  let w := b.sweep
  let g := b.group.getD (0, 0, 0, 0)
  padTo 128 <|
    toBytes 8 b.seed.toNat ++ toBytes 4 b.swn.toNat ++ toBytes 4 (w.elim 0 Sweep.left) ++
    toBytes 2 (w.elim 0 fun w => w.beta.toNat) ++ toBytes 1 (w.elim 0 Sweep.phase % 8) ++
    toBytes 1 (ofBool w.isSome + 2 * ofBool (w.any Sweep.marg) + 4 * ofBool (w.any Sweep.prime) + 8 * ofBool b.ent +
      16 * ofBool b.loaded + 32 * ofBool b.msat + 64 * ofBool (w.any Sweep.recerr)) ++
    toBytes 4 b.desc ++ toBytes 2 g.1 ++ toBytes 2 g.2.1 ++ toBytes 2 g.2.2.1 ++ toBytes 2 g.2.2.2 ++
    ((upTo 4).flatMap fun d => let k : Link := vget {} b.links d; toBytes 4 (k.addr % 2 ^ 17 + 2 ^ 17 * k.count)) ++
    toBytes 32 b.halo.toNat ++ toBytes 4 ((b.n - 1) % 1024 + 65536 * (b.ncol - 1)) ++ toBytes 4 b.rbase

/-- The 2,304 bytes of the Balance: spins, marginal counters, sweep state; a variable that does not exist is 0 in the layout
of R352. -/
def Bal.ctxBytes (b : Bal) : List Byte :=
  toBytes 128 (b.spins.toNat % 2 ^ b.n) ++
    ((upTo 1024).flatMap fun i => if i < b.n then toBytes 2 (vget 0 b.marg i).toNat else [0, 0]) ++ b.sweepBytes

/-- The Balance that a block describes; a suspended sweep has the count and mode recorded beside the block, and its result
the order given. -/
def balOfBlock (b : Memory) (sweep : Option (Nat × Bool)) (seq : Nat) : Bal :=
  let w (o n : Nat) := b.num (0x3E80 + o) n
  let f := w 0x13 1
  let shape := w 0x50 4
  { spins := BitVec.ofNat 1024 (b.num 0x3600 128)
    halo := BitVec.ofNat 256 (w 0x30 32)
    marg := Vector.ofFn fun i => BitVec.ofNat 16 (b.num (0x3680 + 2 * i.val) 2)
    seed := BitVec.ofNat 64 (w 0 8), swn := BitVec.ofNat 32 (w 8 4)
    loaded := bit f 4, ent := bit f 3, msat := bit f 5
    n := if bit f 4 then bits shape 9 0 + 1 else 0
    ncol := if bit f 4 then bits shape 18 16 + 1 else 0
    rbase := w 0x54 4, desc := w 0x14 4
    group := if w 0x1C 2 = 0 then none else some (w 0x18 2, w 0x1A 2, w 0x1C 2, w 0x1E 2)
    links := Vector.ofFn fun d => { addr := bits (w (0x20 + 4 * d.val) 4) 16 0, count := bits (w (0x20 + 4 * d.val) 4) 23 17 }
    sweep := if !bit f 0 then none else some
      { total := (sweep.getD (w 0xC 4, false)).1, left := w 0xC 4, marg := bit f 1, prime := bit f 2
        beta := BitVec.ofNat 16 (w 0x10 2), phase := bits (w 0x12 1) 2 0, begun := 0, stage := .stopped, recerr := bit f 6
        seq, sup := (sweep.getD (0, false)).2 } }

/-! ### Writing a block (R45, R47) -/

/-- What a supervisor entry leaves of latches and results, or what would be found now. -/
def Tile.shot (t : Tile) : Snapshot :=
  t.snap.getD { latches := t.latches, socks := t.socks.map fun q => q.snap t.kBase, op4s := [] }

/-- The tile owns its tile registers (R33). -/
def Tile.ownsMx (t : Tile) : Bool := decide (t.mxown.setWidth 16 = t.cid)

/-- Flags [3:0] of a block after a save: what the last save left of configured registers (R47, R267). -/
def Tile.regFlags (t : Tile) (old : Nat) : Nat :=
  if t.ownsMx then
    (upTo 4).foldl (fun n i => n + 2 ^ i * ofBool (bit old i && (vget (0 : Word) t.mshape i).getLsbD 9)) 0
  else bits old 3 0

/-- The header: version, size, flags, entry count, context id. -/
def ctxHeader (flags count cid : Nat) : List Byte :=
  padTo 64 (toBytes 4 0x00010000 ++ toBytes 4 0x1C000 ++ toBytes 4 flags ++ toBytes 4 count ++ toBytes 4 cid)

/-- Flags of a block: tile registers, Balance, stream mode of `v24`–`v31` (Table 1-7). -/
def Tile.ctxFlags (t : Tile) (balance : Bool) (old : Nat) : Nat :=
  t.regFlags old + 16 * ofBool balance +
    (upTo 8).foldl (fun n i => n + 2 ^ (5 + i) * ofBool (vget {} t.streams i : Stream).on) 0

/-- Control registers 0x000–0x03F; while another context owns the tile registers, MSHAPE0–3 and FMTT are those of the
last save (R267). -/
def Tile.ctxCregs (t : Tile) (old : Memory) : List Byte :=
  (upTo 64).flatMap fun n =>
    toBytes 8 (if !cregSaved n then 0 else if cregMx n && !t.ownsMx then old.num (0xA00 + 8 * n) 8 else t.creg n)

/-- The 29 operand latches in the order of Table 1-2. -/
def ctxLatches (l : Vector Wide 52) : List Byte :=
  (upTo 13).flatMap fun k => (upTo (portCount k)).flatMap fun p => toBytes 64 (vget 0 l (4 * k + p)).toNat

/-- Registers outside a safe point's live masks read zero after the resume (R75). -/
def Tile.dropDead (t : Tile) (xm : DWord) (vm : Word) : Tile :=
  { t with x := Vector.ofFn fun i => if xm.getLsbD i.val then vget 0 t.x i.val else 0
           v := Vector.ofFn fun i => if vm.getLsbD i.val then vget 0 t.v i.val else 0 }

/-- Bytes 0 to 0x32FF: what is saved at the switch point. -/
def Tile.ctxHead (t : Tile) (balance : Bool) (old : Memory) : List Byte :=
  let sn := t.shot
  let sh := t.shadows sn
  ctxHeader (t.ctxFlags balance (old.num 8 4)) sh.length t.cid.toNat ++
    words32 t.x.toList ++ (t.v.toList.flatMap fun w => toBytes 64 w.toNat) ++
    padTo 16 [t.g &&& 0xFE] ++
    (t.loops.toList.flatMap fun e =>
      toBytes 4 e.start.toNat ++ toBytes 4 e.stop.toNat ++ toBytes 4 e.count.toNat ++ toBytes 4 e.index.toNat) ++
    zeros 80 ++ t.ctxCregs old ++ padTo 2048 (ctxLatches sn.latches) ++ padTo 7680 sh.flatten ++
    t.streams.toList.flatMap Stream.descriptor

/-- Bytes 0x3300 to 0x3FFF: counters, mailboxes, `ch.s`, Dial sample and Balance, once everything has completed (R47). -/
def Tile.ctxTail (t : Tile) (balance : Bool) : List Byte :=
  (t.cc.toList.flatMap fun c => padTo 16 (toBytes 4 (c.count.toNat + 2 ^ 30 * c.status.toNat))) ++
    padTo 64 (words32 t.mb.toList) ++
    toBytes 8 (2 ^ 24 * t.lstat.toNat + 2 ^ 20 * t.lcc.toNat + 2 ^ 14 * t.lidx.toNat + 2 ^ 13 * ofBool t.nack) ++
    toBytes 8 t.dialSample.toNat ++ zeros 432 ++ padTo 2304 (if balance then t.bal.ctxBytes else []) ++ zeros 256

/-- The local store of a block: 0x0_0000–0x1_6FFF at offset 0x0_5000. -/
def ctxLs (ls : Memory) : Memory := (ls.filter fun c => decide (c.1 < supBase)).map fun c => (c.1 + 0x5000, c.2)

/-- The switch-point part of a context saved. -/
def SavedCtx.saveHead (c : SavedCtx) (t : Tile) (balance : Bool) : SavedCtx :=
  { c with
    run := t.run, tepc := if t.sup then t.tepc else t.pc, gaprem := if t.sup then t.gaprem else 0
    gap := t.shot.gap
    op4s := t.shot.op4s.filterMap fun o =>
      ((vget ({} : SockQ) t.shot.socks 7).fly.findIdx? fun r => decide (r.seq = o.seq)).map fun p => (p, o)
    scales := t.mac.elim [] Macro.scales
    block := c.block.splice 0 (t.ctxHead balance c.block) }

/-- The part of a context that is saved when everything under way has completed: CIR among it, whose bits a landing may
still set. -/
def SavedCtx.saveTail (c : SavedCtx) (t : Tile) (balance : Bool) : SavedCtx :=
  let b := (c.block.splice 0xA40 (toBytes 8 t.cir.toNat)).splice 0x3300 (t.ctxTail balance)
  { c with
    sstep := t.sstep, segtSet := t.segtSet, poison := t.lsPoison.filter fun a => decide (a < supBase)
    sweep := t.bal.sweep.map fun w => (w.total, w.sup)
    block := (b.filter fun x => decide (x.1 < 0x5000)) ++ ctxLs t.ls }

/-- A context as it stands at placement: only its header, and FMTT, which its first access to the tile registers takes
(R34, R267). -/
def newCtx (tlin : Nat) (cid : BitVec 16) (fmtt : Word) : SavedCtx :=
  { tlin, block := (Memory.image 0 (ctxHeader 0 0 cid.toNat)).splice 0xA78 (toBytes 8 fmtt.toNat) }

/-- The block's header takes a new context id (R34). -/
def SavedCtx.setCid (c : SavedCtx) (cid : BitVec 16) : SavedCtx := { c with block := c.block.splice 16 (toBytes 4 cid.toNat) }

/-- The words of a tile register copied into a block, and its flag set (R267). -/
def SavedCtx.putReg (c : SavedCtx) (i : Nat) (m : Vector Word 256) : SavedCtx :=
  let f := c.block.num 8 4
  let b := c.block.splice (0x4000 + 1024 * i) (words32 m.toList)
  { c with block := b.splice 8 (toBytes 4 (if bit f i then f else f + 2 ^ i)) }

/-! ### Reading a block (R48, R80, R267) -/

/-- The reserved bytes of Tables 1-7, 1-8, 11-6 and 14-6: those of which no bit is a field's. -/
def ctxReserved (a : Nat) : Bool :=
  (decide (0x1400 ≤ a ∧ a < 0x1400 + 72 * 104) && decide (2 ≤ (a - 0x1400) % 72 ∧ (a - 0x1400) % 72 < 8)) ||
  (decide (0x3200 ≤ a ∧ a < 0x3300) && (decide (a % 32 = 10) || decide (a % 32 = 11) || decide (a % 32 = 30))) ||
  decide (0x9B0 ≤ a ∧ a < 0xA00) || decide (0x3450 ≤ a ∧ a < 0x3600) || decide (0x3ED8 ≤ a ∧ a < 0x4000)

/-- The context can be restored: its block has the version and no reserved byte that is not zero (R48). -/
def SavedCtx.ok (c : SavedCtx) : Bool := decide (c.block.num 0 4 = 0x00010000) && c.block.all fun x => !ctxReserved x.1

/-- A control register of a block. -/
def ctxCreg (b : Memory) (n : Nat) : Nat := cregFields n (b.num (0xA00 + 8 * n) 8)

/-- The suspended macro operation of a block (R266). -/
def macOfBlock (b : Memory) (es : List (Nat × Shadow)) (scales : List Word) : Option Macro :=
  (es.find? fun e => e.2.mx && decide (e.2.count = 63)).map fun e =>
    let v := e.2.val
    let code := bits v 31 0
    let w : Word := BitVec.ofNat 32 (v / 2 ^ 32)
    let entry := BitVec.ofNat 128 (v / 2 ^ 128)
    let move := decide (code = 0x911) || decide (code = 0x912)
    let sh := ctxCreg b (4 + bits w.toNat 1 0)
    { code, v := w, n := if move then 16 else (mmaForm code entry w).n, done := bits v 95 64, base := 0, susp := true
      kcount := bits v 127 96, entry, scales
      rows := if move then bits sh 3 0 + 1 else 16, cols := if move then bits sh 7 4 + 1 else 16 }

/-- The accumulator of a block. -/
def acOfBlock (es : List (Nat × Shadow)) : Vector Word 16 :=
  match es.find? fun e => e.2.mx && decide (e.2.count = 62) with
  | some e => Vector.ofFn fun i => BitVec.ofNat 32 (e.2.val >>> (32 * i.val))
  | none => Vector.replicate 16 0

/-- The `op4` forms among the in-flight results of `mx`, at their places: each has its stage one cycle before its result
stands (R251, R266). Where the block's value is no longer the one that was saved, that value stands. -/
def op4sOf (fly : List Result) (ps : List (Nat × Op4)) : List Op4 :=
  ps.filterMap fun p => fly[p.1]?.map fun r =>
    let a : Vector Word 16 := Vector.ofFn fun i => lane r.val i.val
    { p.2 with stageAt := r.due - 1, seq := r.seq, fin := some a, fixed := p.2.fixed || decide (p.2.fin ≠ some a) }

/-- The tile that a context describes, in supervisor mode with the snapshot from which trap return resumes it; the local
store is the context's alone. -/
def SavedCtx.toTile (c : SavedCtx) : Tile :=
  let b : Memory := c.block.filter fun x => decide (x.1 < 0x5000)
  let es := shadowsOf b
  let r (n : Nat) : Word := BitVec.ofNat 32 (ctxCreg b n)
  let socks : Vector SockQ 13 := Vector.ofFn fun k => sockOfBlock es k.val
  let susp := bit (b.num 0x3E93 1) 0
  let q9 : SockQ := vget {} socks 9
  let socks := if susp then vset socks 9 { q9 with fly := q9.fly ++ [{ due := openEnd, seq := 200 }] } else socks
  let chs := b.num 0x3440 4
  { x := Vector.ofFn fun i => BitVec.ofNat 32 (b.num (0x40 + 4 * i.val) 4)
    v := Vector.ofFn fun i => BitVec.ofNat 512 (b.num (0x140 + 64 * i.val) 64)
    g := BitVec.ofNat 8 (b.num 0x940 1)
    loops := Vector.ofFn fun i =>
      let a := 0x950 + 16 * i.val
      { start := BitVec.ofNat 12 (b.num a 4), stop := BitVec.ofNat 12 (b.num (a + 4) 4)
        count := BitVec.ofNat 32 (b.num (a + 8) 4), index := BitVec.ofNat 32 (b.num (a + 12) 4) }
    seq := 256
    tctl := r 0, vctl := r 1, vstat := r 2, cir := r 8, relmask := r 9, beta := r 10, depth := (r 11).toNat % 8
    wid := BitVec.ofNat 64 (ctxCreg b 12), widf := BitVec.ofNat 64 (ctxCreg b 13), segt := r 14, spcnt := r 0x1C
    segtSet := c.segtSet
    ls := (c.block.filter fun x => decide (0x5000 ≤ x.1)).map fun x => (x.1 - 0x5000, x.2)
    lsPoison := c.poison
    streams := Vector.ofFn fun i =>
      if bit (b.num 8 4) (5 + i.val) then streamOf (b.num (0x3200 + 32 * i.val) 32) else {}
    ac := acOfBlock es
    mac := macOfBlock b es c.scales
    cc := Vector.ofFn fun i =>
      let w := b.num (0x3300 + 16 * i.val) 4
      { count := BitVec.ofNat 30 w, status := BitVec.ofNat 2 (w / 2 ^ 30) }
    mb := Vector.ofFn fun i => BitVec.ofNat 32 (b.num (0x3400 + 4 * i.val) 4)
    lstat := BitVec.ofNat 8 (bits chs 31 24), lcc := BitVec.ofNat 4 (bits chs 23 20), lidx := BitVec.ofNat 6 (bits chs 19 14)
    nack := bit chs 13
    dialSample := BitVec.ofNat 64 (b.num 0x3448 8)
    bal := if bit (b.num 8 4) 4 then balOfBlock b c.sweep 200 else {}
    tepc := c.tepc, tstat := mkTstat 0 c.gaprem false true, run := c.run, sstep := c.sstep, tlin := c.tlin
    snap := some
      { latches := Vector.ofFn fun i =>
          if i.val % 4 < portCount (i.val / 4) then
            BitVec.ofNat 512 (b.num (0xC00 + 64 * ((upTo (i.val / 4)).foldl (fun n k => n + portCount k) 0 + i.val % 4)) 64)
          else 0
        socks
        op4s := op4sOf (vget ({} : SockQ) socks 7).fly c.op4s
        gap := c.gap } }

/-- The bundles of a loop body that the loop buffer holds, with their tags: bodies of up to 64 bundles (R28, R483). -/
def Tile.loopBody (t : Tile) (start stop : Nat) : List (BitVec 256 × Bool) :=
  if decide (stop + 1 - start ≤ 64) && decide (stop < 3072) then
    (upTo (stop + 1 - start)).map fun i =>
      (BitVec.ofNat 256 (t.mem (32 * (start + i)) 32), t.poisoned (32 * (start + i)) 32)
  else []

/-- The bodies of active loops of up to 64 bundles as the loop buffer takes them anew (R28, R394). -/
def Tile.rebuffer (t : Tile) : Tile :=
  { t with loops := Vector.ofFn fun k =>
      let e := t.loop k.val
      if k.val < t.depth then { e with buf := t.loopBody e.start.toNat e.stop.toNat } else e }

/-- MSHAPE0–3, FMTT and `m0`–`m3` as step 3 of R267 takes them from a block: a configured register is cleared and marked
DIRTY by the write of its MSHAPE (R32), and then loaded when its flag is set. -/
def Tile.loadMx (t : Tile) (b : Memory) : Tile :=
  let sh (i : Nat) : Word := BitVec.ofNat 32 (ctxCreg b (4 + i))
  let reg (i : Nat) : Vector Word 256 :=
    if mshCfg (sh i) && bit (b.num 8 4) i then
      Vector.ofFn fun k => if elemExists (sh i) (k.val / 16) (k.val % 16)
        then BitVec.ofNat 32 (b.num (0x4000 + 1024 * i + 4 * k.val) 4) else 0
    else Vector.replicate 256 0
  { t with
    mshape := Vector.ofFn fun i => mshDirty (sh i.val &&& 0x3FF) (mshCfg (sh i.val))
    fmtt := BitVec.ofNat 32 (ctxCreg b 0xF)
    m := Vector.ofFn fun i => reg i.val }

/-! ### Contexts of the module -/

/-- A context of a launch changed, if there is one. -/
def State.modCtx (s : State) (o : Option (Nat × Nat)) (f : SavedCtx → SavedCtx) : State :=
  match o with
  | none => s
  | some (id, k) => s.modLaunch id fun l => { l with ctxs := l.ctxs.map fun c => if c.tlin = k then f c else c }

/-- The block recorded for a launch and linear index. -/
def State.ctxBlock (s : State) (id k : Nat) : Memory :=
  match (s.launch? id).bind fun l => l.ctxs.find? fun c => decide (c.tlin = k) with
  | some c => c.block
  | none => []

/-- HELD of MXOWN. -/
def Tile.mxHeld (t : Tile) : Nat := bits t.mxown.toNat 19 16

/-- Step 3.2 of R267, which serves MXFLUSH as well (R268): each held register is copied to its owner's block. Those of a
launch that has ended are discarded with its contexts. -/
def State.flushMx (s : State) (key : Nat) : State :=
  let t := s.tile key
  s.modCtx t.mxOwner fun c => (upTo 4).foldl (fun c i =>
    if bit t.mxHeld i then c.putReg i (vget (Vector.replicate 256 0) t.m i) else c) c

/-- Step 3 of R267 for a tile: the former owner's registers go to its block, and those of the running context come. -/
def State.takeMx (s : State) (key : Nat) : State :=
  (s.flushMx key).modTile key fun t =>
    let own := t.launch.map fun id => (id, t.tlin)
    { t.loadMx (match own with | some (id, k) => s.ctxBlock id k | none => []) with
      mxown := t.cid.setWidth 32, mxOwner := own }

end Sys2Proof.Machine
end

