-- ==== Sys2Proof/Machine/Segment.lean ====
section
/-! DEFINITION. Segment-table entries: their fields (R402), the checks of R403 and R404, and their capture (R199). -/

namespace Sys2Proof.Machine

/-- An entry of its 32 bytes as a number (Table 17-3). -/
def segOf (v : Nat) : Seg :=
  { valid := bit v 223, lrel := bit v 222, rdy := BitVec.ofNat 9 (bits v 221 213), rdx := BitVec.ofNat 9 (bits v 212 204)
    home := BitVec.ofNat 5 (bits v 203 199), hen := bit v 198, perm := BitVec.ofNat 4 (bits v 195 192)
    owner := BitVec.ofNat 16 (bits v 255 240), gbase := BitVec.ofNat 52 (bits v 179 128)
    len := BitVec.ofNat 48 (bits v 111 64), vbase := BitVec.ofNat 48 (bits v 47 0) }

/-- Every reserved bit of the entry is zero. -/
def segReserved (v : Nat) : Bool :=
  decide (bits v 239 224 = 0) && decide (bits v 197 196 = 0) && !bit v 195 && decide (bits v 191 180 = 0) &&
    decide (bits v 127 112 = 0) && decide (bits v 63 48 = 0)

/-- The range of a segment lies in one row of Table 17-1 that is not none. -/
def segInRow (g n : Nat) : Bool :=
  decide (n = 0) || (decide (region g ≠ .none) && decide (region g = region (g + n - 1)))

/-- An entry with VALID = 1 is well formed (R403). -/
def segOk (v : Nat) : Bool :=
  let e := segOf v
  segReserved v && decide (e.vbase.toNat + e.len.toNat ≤ 2 ^ 48) && segInRow e.gbase.toNat e.len.toNat &&
    (!e.hen || decide (e.home.toNat ≤ 15))

/-- A launch-relative entry keeps R404 for a rectangle of w × h. -/
def segLrelOk (v w h : Nat) : Bool :=
  let e := segOf v
  !e.lrel || (decide (e.rdx.toNat < w) && decide (e.rdy.toNat < h) &&
    decide (bits e.gbase.toNat 16 0 + e.len.toNat ≤ supBase))

/-- A whole table of 2,048 bytes keeps R403 and R404. -/
def segTableOk (bytes : List Byte) (w h : Nat) : Bool :=
  (upTo 64).all fun i =>
    let v := ofBytes ((bytes.drop (32 * i)).take 32)
    (!bit v 223 || segOk v) && segLrelOk v w h

/-- What the capture takes of entry i at a table base (R199, R403). -/
def Tile.segAt (t : Tile) (base i : Nat) : Seg :=
  let a := base + 32 * i
  if lsSize < a + 32 || t.poisoned a 32 then {}
  else
    let v := t.mem a 32
    if bit v 223 && segOk v then segOf v else {}

/-- SEGT_WRITE: SEGT takes its value and the table is captured (R199). -/
def Tile.captureSegt (t : Tile) (v : Word) : Tile :=
  let base := bits v.toNat 16 5 * 32
  let bad := (upTo 64).any fun i => decide (base + 32 * i + 32 ≤ lsSize) && t.poisoned (base + 32 * i) 32
  let t := { t with segtSet := true, segt := v &&& 0x0001FFE0, segs := Vector.ofFn fun i => t.segAt base i.val }
  if bad then t.setCir 0 else t

/-- The launch-relative entries of a table relocated to a rectangle's origin (R404). -/
def relocSegs (ls : Memory) (base ox oy : Nat) : Memory :=
  (upTo 64).foldl (fun m i =>
    let a := base + 32 * i
    let v := m.num a 32
    let e := segOf v
    if e.lrel then
      let g := 0x400000000 + tileAt (ox + e.rdx.toNat) (oy + e.rdy.toNat)
      m.write a (toBytes 32 (v - bits v 179 145 * 2 ^ 145 + g * 2 ^ 145))
    else m) ls

end Sys2Proof.Machine
end

