-- ==== Sys2Proof/Machine/Sched.lean ====
section
/-! DEFINITION. Launches: their work items (chapter 2), placement, start ticks and dependences (R438–R443), swaps
(R79, R80), ends and completion records (R431, R447, R571), and retirement (R505–R507). -/

namespace Sys2Proof.Machine

/-! ### Work items (R56–R59) -/

/-- Width of field i of WIDF (R56). -/
def widthOf (widf i : Nat) : Nat := bits widf (7 * i + 6) (7 * i)
/-- Position of field i (R56). -/
def posOf (widf : Nat) : Nat → Nat
  | 0 => 0
  | i + 1 => posOf widf i + widthOf widf i
/-- The count of a field; one that does not exist counts 1 (R57). -/
def countOf (widf : Nat) (counts : List Nat) (i : Nat) : Nat := if widthOf widf i = 0 then 1 else nth 1 counts i
/-- The item count N (R57). -/
def itemsOf (widf : Nat) (counts : List Nat) : Nat := (upTo 6).foldl (fun n i => n * countOf widf counts i) 1

/-- `item_to_wid` of R58 from field i on: counts `ns` of the header, widths and positions of a WIDF. -/
def itemToWidFrom (widf : Nat) (ns : Nat → Nat) : List Nat → Nat → Nat
  | [], _ => 0
  | i :: is, k =>
    (if widthOf widf i = 0 then 0 else (k % ns i) * 2 ^ posOf widf i) + itemToWidFrom widf ns is (k / ns i)

/-- `item_to_wid` (R58). -/
def itemToWid (widf : Nat) (ns : Nat → Nat) (k : Nat) : Nat := itemToWidFrom widf ns (upTo 6) k % 2 ^ 64

/-- `wid_to_item` (R58): 64-bit arithmetic. -/
def widToItem (widf : Nat) (ns : Nat → Nat) (wid : Nat) : Nat :=
  (upTo 6).foldr (fun i k =>
    let f := if widthOf widf i = 0 then 0 else (wid / 2 ^ posOf widf i) % 2 ^ widthOf widf i
    (k * ns i + f) % 2 ^ 64) 0

/-- The counts of a launch's header (R57). -/
def Launch.count (l : Launch) : Nat → Nat := countOf l.widf.toNat l.counts

/-- The identifier of a tile's next item by the tile's WIDF, or none at exhaustion (R56, R59). -/
def Launch.nextWork (l : Launch) (widf wid : DWord) : Option DWord :=
  let k := widToItem widf.toNat l.count wid.toNat + l.workers
  if k < l.items then some (BitVec.ofNat 64 (itemToWid widf.toNat l.count k)) else none

/-! ### Completion records (R431) -/

/-- A packet's record could not be written: its ring takes ERR and ERRSEQ (R427). -/
def State.ringErr (s : State) (q : Nat) (seq : Word) : State :=
  { s with rings := tabSet s.rings q { tabGet {} s.rings q with err := true, errseq := seq } }

/-- The seven words after word 0 of a record (Table 18-3). -/
def recordTail (handle : Word) (dial : DWord) (i : RecordInfo) : List Byte :=
  toBytes 4 handle.toNat ++ toBytes 8 dial.toNat ++ toBytes 4 i.tlin.toNat ++ toBytes 4 i.tcause.toNat ++
    toBytes 8 i.tinfo.toNat

/-- COMPLETION_RECORD_WRITE (R431, R427): words 1–7, then word 0. False while a granule is held: nothing is written then. -/
def State.writeRecord (s : State) (ring : Nat) (owner : BitVec 16) (seq : Word) (caddr kind : Nat) (handle : Word)
    (i : RecordInfo) : Bool × State :=
  if caddr = 0 then (true, s)
  else
    match s.crownWrite owner (caddr + 4) (recordTail handle s.dialNow i) 3 with
    | (none, s1) => (false, s1)
    | (some 0, s1) =>
      match s1.crownWrite owner caddr (toBytes 4 (kind * 256 + i.status.toNat)) 2 with
      | (none, s2) => (false, s.keepHolds s2)
      | (some 0, s2) => (true, s2)
      | (some _, s2) => (true, s2.ringErr ring seq)
    | (some _, s1) => (true, s1.ringErr ring seq)

/-- The record of an ended launch. -/
def State.launchRecord (s : State) (l : Launch) : Bool × State :=
  match l.record with
  | none => (true, s)
  | some i => s.writeRecord l.ring l.owner l.slotSeq l.caddr.toNat 1 l.handle i

/-- The firmware serves the end notices in order, writing each record (R524). -/
def State.serveNotices (s : State) : Nat → State
  | 0 => s
  | n + 1 =>
    if !s.serves then s
    else
      match s.fw.notices with
      | [] => s
      | id :: rest =>
        let s0 : State := { s with fw := { s.fw with notices := rest } }
        match s.launch? id with
        | none => s0.serveNotices n
        | some l =>
          match s0.launchRecord l with
          | (false, s') => s.keepHolds s'
          | (true, s') => (s'.modLaunch id fun l => { l with recordOwed := false }).serveNotices n

/-! ### Retirement (R505–R507) -/

/-- Retired tiles of a die. -/
def Rel.retiredOn (r : Rel) (die : Nat) : Nat := (r.retired.filter fun t => decide (tileDie t = die)).length

/-- REPLACE_SET (R507): the first reason alone is kept and reported. -/
def State.setReplace (s : State) (reason : Nat) : State :=
  if s.rel.replace then s
  else
    ({ s with rel := { s.rel with replace := true, reason := BitVec.ofNat 3 reason } }).raiseEvent 17 11 noId noId reason

/-- TILE_RETIRE (R505–R507): the tile's bit is set and RETIRED is raised. -/
def State.retire (s : State) (t : Nat) : State :=
  if s.rel.retired.contains t then s
  else
    let s := { s with rel := { s.rel with retired := insertNat t s.rel.retired
                                          retirePend := s.rel.retirePend.filter (· ≠ t) } }
    let s := s.raiseEvent 17 10 t noId (s.rel.retiredOn (tileDie t))
    if s.rel.repthr.toNat ≤ s.rel.retiredOn (tileDie t) then s.setReplace 1 else s

/-- A tile chosen for retirement: at once when no launch holds it, else RETIRE_PENDING with a CONTAIN interrupt in every
started tile of its launch (R506). -/
def State.chooseRetire (s : State) (t : Nat) : State :=
  match (s.tile t).launch with
  | none => s.retire t
  | some id =>
    if s.rel.retired.contains t || s.rel.retirePend.contains t then s
    else
      let s := { s with rel := { s.rel with retirePend := insertNat t s.rel.retirePend } }
      match s.launch? id with
      | none => s
      | some l =>
        let s := s.modTiles l.allTiles fun u =>
          if u.run = .notStarted || u.run = .idle then u else { u with pend := u.pend ||| 8 }
        s.raiseEvent 17 13 t l.handle.toNat 0

/-! ### The end of a launch -/

/-- A tile that belongs to no launch any more: whatever its supervisor did for the launch has ended. -/
def Tile.release (t : Tile) : Tile :=
  { t with tstat := mkTstat t.cid 0 false false, snap := none, socks := Vector.replicate 13 {}
           launch := none, run := .unplaced, isSpawn := false, switchPend := false, saved := false, fenced := false
           mac := none, op4s := [], rmws := [], rings := [], maccs := []
           far := [], copies := [], dmas := [], spawns := [], spawnIn := none, fences := [], heldStores := [], egress := [], colls := 0
           waddrAt := none, layoutWait := none }

/-- The rectangle of a launch is freed; tiles chosen for retirement are retired (R506). -/
def State.freeRect (s : State) (l : Launch) : State :=
  let s := s.modTiles l.allTiles Tile.release
  (l.allTiles.filter fun t => s.rel.retirePend.contains t).foldl (fun s t => s.retire t) s

/-- Status for the groups of an ended launch (R472). -/
def groupStatus (st : Byte) : Byte := if 0x10 ≤ st.toNat && decide (st.toNat ≤ 0x14) then st else stNoTarget

/-- A launch ends with a status; its rectangle is freed and its record is written (R52, R63, R431). -/
def State.finish (s : State) (id : Nat) (i : RecordInfo) : State :=
  match s.launch? id with
  | none => s
  | some l =>
    if l.state = .ended then s
    else
      let s := if l.holds then s.freeRect l else s
      let s := s.setLaunch id { l with
        state := .ended, record := some i, recordOwed := true, ctxs := [], mail := [], mailWords := 0
        heldTiles := [], reserved := false, releaseAt := none }
      let s := s.endRanks l.owner l.handle (groupStatus i.status)
      let s := ({ s with fw := { s.fw with notices := s.fw.notices ++ [id] } }).dropCrownHolds l.owner
      s.serveNotices s.fw.notices.length

/-- Statuses of Table 18-4. -/
def stDependenceLate : Byte := 0x22
/-- DEPENDENCE_FAILED. -/
def stDependenceFailed : Byte := 0x23
/-- START_LATE. -/
def stStartLate : Byte := 0x24
/-- PLACEMENT_IMPOSSIBLE. -/
def stPlacementImpossible : Byte := 0x25
/-- CONTEXT_INVALID. -/
def stContextInvalid : Byte := 0x26
/-- ABORTED. -/
def stAborted : Byte := 0x28
/-- FENCED (Table 20-1). -/
def stFenced : Byte := 0x14
/-- DIVERGED. -/
def stDiverged : Byte := 0x10
/-- SUPERVISOR_HALT. -/
def stSupHalt : Byte := 0x11
/-- TILE_FAILED. -/
def stTileFailed : Byte := 0x12
/-- LINK_DOWN. -/
def stLinkDown : Byte := 0x13

/-- A fence is asked for a launch, with the reason for its traffic and what its record says (R501, R571). A launch that
holds no rectangle ends at once; the first event of a launch is the one its record names. -/
def State.wish (s : State) (id : Nat) (reason : Byte) (i : RecordInfo) : State :=
  match s.launch? id with
  | none => s
  | some l =>
    match l.state with
    | .ended => s
    | .queued | .swapped => s.finish id i
    | _ =>
      if s.rel.wishes.any (fun w => decide (w.launch = id)) || (s.fenceReason id).isSome then s
      else { s with rel := { s.rel with wishes := s.rel.wishes ++ [{ launch := id, reason, info := i, since := s.clk }] } }

/-- A launch that ends otherwise than under R63 with a status of its own (R439, R441, R571). -/
def State.endWith (s : State) (id : Nat) (st : Byte) : State := s.wish id stFenced { status := st }

/-- A fence of the launch is asked for or in progress. -/
def State.ending (s : State) (id : Nat) : Bool :=
  s.rel.wishes.any (fun w => decide (w.launch = id)) || (s.fenceReason id).isSome

/-! ### Dependences and start ticks (R438–R441, R446) -/

/-- Every dependence is satisfied. -/
def Launch.depsOk (l : Launch) : Bool := l.deps.all fun d => d.satisfied

/-- The first release is sent now: it reaches the started tiles G + 4 clk after the start of the present tick (R175). -/
def State.sendRelease (s : State) (id : Nat) : State :=
  s.modLaunch id fun l => { l with releaseAt := some (max (s.clk + 1) (s.bu.tickAt + l.latency + 4)) }

/-- A launch of zero items ends once its dependences are satisfied and its start tick has come (R446). -/
def State.zeroWork (s : State) (id : Nat) : State :=
  match s.launch? id with
  | none => s
  | some l =>
    if l.state = .queued && decide (l.items = 0) && l.depsOk && decide (l.tstart.toNat ≤ s.dialNow.toNat) then
      s.finish id { status := stOK }
    else s

/-- DEPENDENCE_POLL (R438, R439): the record of dependence d of a launch is read. -/
def State.dependencePoll (s : State) (id d : Nat) : State :=
  match s.launch? id with
  | none => s
  | some l =>
    match l.deps[d]? with
    | none => s
    | some x =>
      if x.satisfied || decide (l.state = .ended) || s.ending id then s
      else
        let r0 := s.crownWordDo l.owner x.addr.toNat
        let r1 := r0.2.crownWordDo l.owner (x.addr.toNat + 4)
        let s := r1.2
        match r0.1, r1.1 with
        | some w0, some w1 =>
          if decide (w0 = 0xFFFFFFFF) || decide (w1 ≠ x.handle) then s
          else if w0.setWidth 8 = (0 : Byte) then
            let s := s.modLaunch id fun l => { l with deps := modNth (fun d => { d with satisfied := true }) l.deps d }
            s.zeroWork id
          else s.endWith id stDependenceFailed
        | _, _ => s

/-- The check reads every record that has not been found finished (R438, R440). -/
def State.dependenceCheck (s : State) (id : Nat) : State :=
  match s.launch? id with
  | none => s
  | some l => (upTo l.deps.length).foldl (fun s d => s.dependencePoll id d) s

/-- START_TICK_CHECK (R440, R441, R446): the records are read; a STRICT dependence unfinished at the check ends the launch; a placed launch
whose dependences are satisfied is released, or ends START_LATE. -/
def State.startTickCheck (s : State) (id : Nat) : State :=
  match s.launch? id with
  | none => s
  | some l =>
    if decide (l.tstart = 0) || decide (s.dialNow.toNat < l.tstart.toNat) || s.ending id then s
    else if l.items = 0 then s.zeroWork id
    else
      match l.state with
      | .queued | .placed =>
        let s := if l.checked then s else s.dependenceCheck id
        if s.ending id then s
        else match s.launch? id with
        | none => s
        | some l =>
          if l.state = .ended then s
          else if !l.checked && l.deps.any (fun d => d.strict && !d.satisfied) then s.endWith id stDependenceLate
          else
            let s := s.modLaunch id fun l => { l with checked := true }
            if l.state = .placed && l.depsOk && l.releaseAt.isNone then
              if decide (l.late ≠ 0) && decide (l.tstart.toNat + l.late.toNat < s.dialNow.toNat) then s.endWith id stStartLate
              else s.sendRelease id
            else s
      | _ => s

/-- The start-tick check of a launch has something to do. -/
def State.startDue (s : State) (l : Launch) : Bool :=
  decide (l.tstart ≠ 0) && decide (l.tstart.toNat ≤ s.dialNow.toNat) && !s.ending l.id &&
    (match l.state with
    | .queued => (decide (l.items = 0) && l.depsOk) || (decide (l.items ≠ 0) && !l.checked)
    | .placed => !l.checked || (l.depsOk && l.releaseAt.isNone)
    | _ => false)

/-! ### Placement (R442, R49, R488, R502, R540) -/

/-- Ticks spent QUEUED or SWAPPED (R442). -/
def State.age (s : State) (l : Launch) : Nat :=
  match l.state with
  | .queued | .swapped => l.waitTicks + (s.dialNow.toNat - l.waitSince)
  | _ => l.waitTicks

/-- Effective priority (R442). -/
def State.effPrio (s : State) (l : Launch) : Nat :=
  if s.schAge = 0 then min 7 l.prio else min 7 (l.prio + s.age l / s.schAge.toNat)

/-- Ticks spent waiting at effective priority 7 (R443). -/
def State.ticksAt7 (s : State) (l : Launch) : Option Nat :=
  if s.effPrio l < 7 then none else some (s.age l - (7 - l.prio) * s.schAge.toNat)

/-- The two dies of an edge (R502). -/
def edgeDies (e : Nat) : Nat × Nat :=
  if e < 12 then (4 * (e / 3) + e % 3, 4 * (e / 3) + e % 3 + 1) else (e - 12, e - 12 + 4)

/-- The dies that a rectangle touches. -/
def rectDies (ox oy w h : Nat) : List Nat :=
  (upTo 16).filter fun d =>
    decide (ox / 128 ≤ d % 4) && decide (d % 4 ≤ (ox + w - 1) / 128) &&
    decide (oy / 80 ≤ d / 4) && decide (d / 4 ≤ (oy + h - 1) / 80)

/-- A rectangle has tiles on both sides of a down edge (R502). -/
def State.spansDown (s : State) (ox oy w h : Nat) : Bool :=
  let ds := rectDies ox oy w h
  (upTo 24).any fun e => s.rel.edges.getLsbD e && ds.contains (edgeDies e).1 && ds.contains (edgeDies e).2

/-- Which launches and holds placement looks through: some launches as gone, or every other one (R442, R443). -/
inductive Gone where
  | these (ids : List Nat)
  | all
  deriving DecidableEq, Repr

/-- A die can hold tiles: ready and neither hot nor failed; with every launch gone, also one still starting (R442,
R528, R531, R541). -/
def State.dieFits (s : State) (g : Gone) (d : Nat) : Bool :=
  !s.bu.failed.getLsbD d &&
    match g with
    | .all => true
    | .these _ => s.bu.ready.getLsbD d && !s.bu.tripped.contains d

/-- The tile lies in the rectangle of a fence in progress, which is not yet freed (R498). -/
def Rel.inFence (r : Rel) (t : Nat) : Bool := r.fences.toList.any fun x => x.covers t

/-- A tile can be part of the launch's rectangle (R49, R442, R498). -/
def State.tileFits (s : State) (l : Launch) (g : Gone) (t : Nat) : Bool :=
  isTile t && l.dmask.getLsbD (tileDie t) && s.dieFits g (tileDie t) && !s.rel.retired.contains t &&
    match g with
    | .all => true
    | .these ids =>
      !s.rel.testing.contains t && !s.rel.inFence t &&
      (match (s.tile t).launch with
        | none => true
        | some j => ids.contains j) &&
      !s.launches.any fun m => decide (m.1 ≠ l.id) && m.2.heldTiles.contains t

/-- A rectangle fits at an origin. -/
def State.rectFits (s : State) (l : Launch) (g : Gone) (ox oy : Nat) : Bool :=
  decide (ox + l.w ≤ 512) && decide (oy + l.h ≤ 320) && !s.spansDown ox oy l.w l.h &&
    (rectTiles ox oy l.w l.h).all (s.tileFits l g)

/-- Scans origins row by row from a number on (R442). -/
def scanFrom {α : Type} (p : Nat → Nat → Option α) (i : Nat) : Nat → Option α
  | 0 => none
  | k + 1 => match p (i % 512) (i / 512) with
    | some r => some r
    | none => scanFrom p (i + 1) k

/-- Some tile of the one rectangle lies within distance 1 of a tile of the other (R488). -/
def rectsTouch (ax ay bx b_y w h : Nat) : Bool :=
  decide (ax ≤ bx + w) && decide (bx ≤ ax + w) && decide (ay ≤ b_y + h) && decide (b_y ≤ ay + h)

/-- The first origin that fits, with the twin's for a DUAL launch (R442, R488). -/
def State.fitOrigin (s : State) (l : Launch) (g : Gone) : Option (Nat × Nat × Nat × Nat) :=
  scanFrom (fun ox oy =>
    if !s.rectFits l g ox oy then none
    else if !l.dual then some (ox, oy, 0, 0)
    else
      let i := oy * 512 + ox + 1
      scanFrom (fun tx ty =>
        if s.rectFits l g tx ty && !rectsTouch ox oy tx ty l.w l.h then some (ox, oy, tx, ty) else none) i (163840 - i))
    0 163840

/-- Tiles of a launch. -/
def Launch.size (l : Launch) : Nat := l.w * l.h * (if l.dual then 2 else 1)

/-- The power rule with a number of tiles placed beside the launch's (R540). -/
def State.powerOk (s : State) (placed own : Nat) : Bool :=
  decide (s.bu.base.toNat * 1000 + (placed + own) * s.bu.tile.toNat ≤ s.bu.budget.toNat * 1000)

/-- Tiles placed, but for launches looked through. -/
def State.placedTiles (s : State) (g : Gone) : Nat :=
  match g with
  | .all => 0
  | .these ids => s.launches.foldl (fun n m => if m.2.holds && !ids.contains m.1 then n + m.2.size else n) 0

/-- Where the launch fits, power included. -/
def State.fits (s : State) (l : Launch) (g : Gone) : Option (Nat × Nat × Nat × Nat) :=
  if s.powerOk (s.placedTiles g) l.size then s.fitOrigin l g else none

/-- Dependences and LEAD allow placement (R440). -/
def State.mayPlace (s : State) (l : Launch) : Bool :=
  decide (l.items ≠ 0) &&
    if l.tstart = 0 then l.depsOk else decide (l.tstart.toNat - l.lead.toNat ≤ s.dialNow.toNat)

/-- The launch waits for a rectangle. -/
def Launch.waits (l : Launch) : Bool := decide (l.state = .queued) || decide (l.state = .swapped)

/-- The launch comes before another in the engine's order (R442). -/
def State.before (s : State) (a b : Launch) : Bool :=
  decide (s.effPrio b < s.effPrio a) || (decide (s.effPrio a = s.effPrio b) && decide (a.id < b.id))

/-- The reserved launch that is served, the oldest (R443). -/
def State.reservedOne (s : State) : Option Launch :=
  (s.launches.find? fun m => m.2.reserved && m.2.waits).map Prod.snd

/-- Placement goes on: Crown A is ready and has set CRN_FE_CTRL (R531). -/
def State.placing (s : State) : Bool := s.feCtrl.getLsbD 1 && s.bu.ready.getLsbD 26 && !s.fw.hang

/-- The engine's turn is the launch's: it may be placed, none before it in the order can be placed now, and no other
launch is reserved (R442, R443). -/
def State.turnOf (s : State) (l : Launch) : Bool :=
  s.placing && l.waits && (decide (l.state = .swapped) || s.mayPlace l) &&
  match s.reservedOne with
  | some r => decide (r.id = l.id)
  | none => s.launches.all fun m =>
      !(m.2.waits && s.before m.2 l && (decide (m.2.state = .swapped) || s.mayPlace m.2) &&
        (s.fits m.2 (.these [])).isSome)

/-- An id for a context on a tile: the firmware's choice among those that R34 allows. -/
def pickCid (free : Nat) (avoid : List (BitVec 16)) : BitVec 16 :=
  let c : BitVec 16 := (Config.freeWord free).setWidth 16
  let bad := fun (x : BitVec 16) => decide (x = 0) || decide (x = 0xFFFF) || avoid.contains x
  if !bad c then c
  else (((upTo 4).map fun i => BitVec.ofNat 16 (i + 1)).find? fun x => !bad x).getD 1

/-- The owner id in MXOWN. -/
def Tile.mxCid (t : Tile) : BitVec 16 := t.mxown.setWidth 16
/-- The local store of a tile at placement: the image, the header's segment table, and the supervisor image (R54, R437,
R404). -/
def State.startLs (s : State) (l : Launch) (ox oy : Nat) : Memory :=
  let sup := Memory.image supBase (s.fw.supImage.take 4096)
  let ls := Memory.image l.code.base (l.code.image.take (supBase - l.code.base)) ++ sup
  let base := bits l.segt.toNat 16 5 * 32
  if l.segt = 0xFFFFFFFF then ls
  else relocSegs (if l.hasSeg then ls.write base (l.segBytes.take 2048) else ls) base ox oy

/-- What stays with a tile from launch to launch: tile registers and their owner, event counters, pending sources, and the
numbers of its requests (R33, R367, R364, R418). -/
def Tile.keep (old new : Tile) : Tile :=
  let held := old.mxHeld ≠ 0
  { new with
    mxown := old.mxown, mxOwner := old.mxOwner, counters := old.counters, pend := old.pend
    reqNo := old.reqNo, seqNo := old.seqNo
    m := if held then old.m else new.m
    mshape := if held then old.mshape else new.mshape }

/-- A tile of a launch at placement (Table 2-2). -/
def startTile (l : Launch) (ls : Memory) (cid : BitVec 16) (tlin : Nat) (old : Tile) : Tile :=
  let worker := decide (tlin < l.workers)
  let started := worker && decide (tlin < l.items)
  let t : Tile := old.keep {
    pc := l.code.entry.setWidth 32
    ls
    wid := if started then BitVec.ofNat 64 (itemToWid l.widf.toNat l.count tlin) else 0
    widf := l.widf
    fmtt := if l.fmtt = 0xFFFFFFFF then 0 else l.fmtt
    tctl := 0x00020000
    tstat := mkTstat cid 0 false false
    run := if started then .waitRelease else if worker then .notStarted else .idle
    launch := some l.id
    tlin
    isSpawn := !worker
    plandir := l.plandir.toNat }
  if l.segt = 0xFFFFFFFF then t else t.captureSegt l.segt

/-- The two tiles of a DUAL pair number their requests alike from here on (R493). -/
def State.pairNumbers (s : State) (ks : List Nat) : State :=
  let r := ks.foldl (fun n k => max n (s.tile k).reqNo) 0
  let q := ks.foldl (fun n k => max n (s.tile k).seqNo.toNat) 0
  s.modTiles ks fun t => { t with reqNo := r, seqNo := BitVec.ofNat 32 q }

/-- Loads one logical tile, and its twin with the same id, and gives it its context block (R34, R489). -/
def State.loadTile (s : State) (l : Launch) (ls : Memory) (tlin : Nat) : State :=
  let k := l.tileOf tlin
  let avoid := (s.tile k).mxCid :: (if l.dual then [(s.tile (l.twinOf tlin)).mxCid] else [])
  let cid := pickCid s.free avoid
  let s := { s with free := s.free + 1 }
  let s := s.modLaunch l.id fun l => { l with ctxs := l.ctxs ++ [newCtx tlin cid (if l.fmtt = 0xFFFFFFFF then 0 else l.fmtt)] }
  let s := s.modTile k (startTile l ls cid tlin)
  if l.dual then (s.modTile (l.twinOf tlin) (startTile l ls cid tlin)).pairNumbers [k, l.twinOf tlin] else s

/-- The launch takes a rectangle: the wait ends. -/
def State.takeRect (s : State) (l : Launch) (o : Nat × Nat × Nat × Nat) (st : LaunchState) : Launch :=
  { l with ox := o.1, oy := o.2.1, tox := o.2.2.1, toy := o.2.2.2, state := st, waitTicks := s.age l
           placedDone := true, placeNo := s.placeCount, ranSince := s.clk, reserved := false, heldTiles := [] }

/-- LAUNCH_PLACE (R442, R54, R55): the launch is placed at the first fitting origin and its tiles are loaded; without a
start tick its release is sent at once. A launch that could never fit ends PLACEMENT_IMPOSSIBLE. -/
def State.launchPlace (s : State) (id : Nat) : State :=
  match s.launch? id with
  | none => s
  | some l =>
    if l.state ≠ .queued || !s.placing || decide (l.items = 0) then s
    else if (s.fits l .all).isNone then s.finish id { status := stPlacementImpossible }
    else if !s.turnOf l then s
    else
      match s.fits l (.these []) with
      | none => s
      | some o =>
        let l := s.takeRect l o .placed
        let s := { (s.setLaunch id l) with placeCount := s.placeCount + 1 }
        let ls := s.startLs l l.ox l.oy
        let s := (upTo (l.w * l.h)).foldl (fun s k => s.loadTile l ls k) s
        if l.tstart = 0 then s.sendRelease id else s

/-! ### Pre-emption (R79, R80, R443) -/

/-- SWAP_OUT_BEGIN (R79): a switch becomes pending for every tile. -/
def State.swapBegin (s : State) (id : Nat) : State :=
  match s.launch? id with
  | none => s
  | some l =>
    (s.modLaunch id fun l => { l with state := .swapping }).modTiles l.allTiles fun t => { t with switchPend := true, saved := false }

/-- The contexts of an owner's swapped launches, and of those chosen to be swapped, fit its context area (R443). -/
def State.areaHolds (s : State) (owner : BitVec 16) (ids : List Nat) : Bool :=
  match s.ctxAreas.lookup owner.toNat with
  | none => true
  | some room =>
    let n := (s.launches.filter fun m => decide (m.2.owner = owner) && (ids.contains m.1 ||
      (match m.2.state with | .swapping | .swapped | .restoring => true | _ => false))).foldl
      (fun n m => n + m.2.w * m.2.h) 0
    decide (n ≤ room)

/-- The victims that make a launch fit, in the engine's order of choice; one whose contexts cannot be held is not chosen
(R443). -/
def State.victims (s : State) (l : Launch) : List Launch → List Nat → Option (List Nat)
  | [], _ => none
  | v :: vs, ids =>
    if !s.areaHolds v.owner (ids ++ [v.id]) then s.victims l vs ids
    else
    let ids := ids ++ [v.id]
    if (s.fits l (.these ids)).isSome then some ids else s.victims l vs ids

/-- Insertion of a candidate: lowest effective priority first, then latest placement. -/
def State.insertCand (s : State) (v : Launch) : List Launch → List Launch
  | [] => [v]
  | u :: us =>
    if s.effPrio v < s.effPrio u || (decide (s.effPrio v = s.effPrio u) && decide (u.placeNo < v.placeNo)) then v :: u :: us
    else u :: s.insertCand v us

/-- RUNNING PREEMPTIBLE launches that pass a test, in order of choice. -/
def State.candidates (s : State) (ok : Launch → Bool) : List Launch :=
  (s.launches.filter fun m => decide (m.2.state = .running) && m.2.preemptible && !s.ending m.1 && ok m.2).foldl
    (fun l m => s.insertCand m.2 l) []

/-- The victims are swapped out and their tiles held for the launch served (R443). -/
def State.preempt (s : State) (l : Launch) (ids : List Nat) : State :=
  let tiles := ids.flatMap fun i => match s.launch? i with
    | some v => v.allTiles
    | none => []
  ids.foldl (fun s i => s.swapBegin i) (s.modLaunch l.id fun l => { l with heldTiles := tiles })

/-- The launch's slice has expired (R443). -/
def State.sliceOver (s : State) (l : Launch) : Bool :=
  decide (s.schSlice ≠ 0) && decide (l.ranSince + s.schSlice.toNat * usClk ≤ s.clk)

/-- SLICE_PREEMPT (R443): the launch is the first pending one that cannot fit and that expired victims make fit. -/
def State.slicePreempt (s : State) (id : Nat) : State :=
  match s.launch? id with
  | none => s
  | some l =>
    let cands (m : Launch) := s.candidates fun v => decide (s.effPrio v ≤ s.effPrio m) && s.sliceOver v
    let ready (m : Launch) := m.waits && (decide (m.state = .swapped) || s.mayPlace m) && m.heldTiles.isEmpty &&
      (s.fits m (.these [])).isNone
    let able (m : Launch) := ready m && (s.victims m (cands m) []).isSome
    if !s.placing || decide (s.schSlice = 0) || s.reservedOne.isSome || !able l ||
        s.launches.any (fun m => s.before m.2 l && able m.2) then s
    else
      match s.victims l (cands l) [] with
      | none => s
      | some ids => s.preempt l ids

/-- LAUNCH_RESERVATION (R443): a launch that has waited at effective priority 7 long enough without fitting becomes
reserved, and victims of lower effective priority are chosen for the oldest. -/
def State.reservation (s : State) (id : Nat) : State :=
  match s.launch? id with
  | none => s
  | some l =>
    let long := match s.ticksAt7 l with
      | none => false
      | some t => decide (s.schReserve.toNat * 1000 < t)
    if !s.placing || !l.waits || !(decide (l.state = .swapped) || s.mayPlace l) || !long ||
        (s.fits l (.these [])).isSome then s
    else
      let s := s.modLaunch id fun l => { l with reserved := true }
      match s.reservedOne with
      | none => s
      | some r =>
        if decide (r.id ≠ id) || !r.heldTiles.isEmpty then s
        else
          match s.victims r (s.candidates fun v => decide (s.effPrio v < s.effPrio r)) [] with
          | none => s
          | some ids => s.preempt r ids

/-- Nothing of the tile is on its way: far accesses, copies, engine operations, requests (R47). -/
def Tile.quiet (t : Tile) : Bool :=
  t.far.isEmpty && t.copies.isEmpty && t.dmas.isEmpty && t.spawns.isEmpty && t.spawnIn.isNone && decide (t.colls = 0) && t.kyJobs.isEmpty &&
    t.bal.sends.isEmpty && t.egress.isEmpty

/-- The launch has a layout command in some engine. -/
def State.layoutBusy (s : State) (id : Nat) : Bool :=
  s.engines.any fun e => (e.2.cmds ++ e.2.dualQ).any fun c => decide (c.launch = some id)

/-- The tile has stopped for the swap: it has entered the supervisor for the switch, or stands in program mode where no
bundle runs (R79). -/
def Tile.stopped (t : Tile) : Bool :=
  t.saved || ((decide (t.run = .halted) || decide (t.run = .notStarted) || decide (t.run = .idle)) && (!t.sup || t.dead))

/-- The switch-out of R267: HELD names each register that is configured and dirty, when the context owns them. -/
def Tile.holdMx (t : Tile) : Tile :=
  if !t.ownsMx then t
  else
    let h := (upTo 4).foldl (fun n i =>
      let w : Word := vget 0 t.mshape i
      n + 2 ^ i * ofBool (mshCfg w && w.getLsbD 10)) 0
    { t with mxown := BitVec.ofNat 32 (t.cid.toNat + 65536 * h) }

/-- No sweep is between barriers (R356). -/
def Bal.paused (b : Bal) : Bool :=
  match b.sweep with
  | none => true
  | some w => decide (w.stage = .stopped)

/-- A suspended sweep at a restore: the rebuilt barrier has every member arrived (R356). -/
def Bal.resume (b : Bal) (clk : Nat) : Bal :=
  { b with sweep := b.sweep.map fun w => if w.stage = .stopped then { w with stage := .resumed clk } else w }

/-- The macro operation of a tile that stands without a supervisor entry runs to its boundary and suspends (R140, R262). -/
def Tile.macroStop (t : Tile) (clk : Nat) : Tile :=
  if t.saved then t
  else
    let t := t.macroBoundary clk
    { t with mac := t.mac.map fun m => if m.susp then m else m.suspend t.kBase }

/-- What operations of class F still do has taken place (R75, R140). -/
def Tile.settled (t : Tile) : Bool :=
  t.rmws.all Rmw.written && t.rings.isEmpty && t.maccs.isEmpty && t.op4s.isEmpty && t.bal.half.isNone

/-- The context of one tile at the end of a swap: a tile that never entered the supervisor for the switch is saved whole, and
every tile's later parts are (R45, R47, R79). -/
def SavedCtx.complete (c : SavedCtx) (t : Tile) (balance : Bool) : SavedCtx :=
  (if t.saved then c else c.saveHead t balance).saveTail t balance

/-- What the compared stores of a pair's supervisors write: local store, registers and the rest of the program's state (R496). -/
def Tile.sameContext (t u : Tile) : Bool :=
  let low (m : Memory) := m.filter fun c => decide (c.1 < supBase)
  decide (low t.ls = low u.ls) && decide (t.x = u.x) && decide (t.v = u.v) && decide (t.g = u.g) && decide (t.cc = u.cc) &&
    decide (t.mb = u.mb) && decide (t.wid = u.wid) && decide (t.depth = u.depth) && decide (t.vstat = u.vstat) &&
    decide (t.cir = u.cir) && decide (t.bal.spins = u.bal.spins) && decide (t.bal.halo = u.bal.halo) &&
    decide (t.bal.marg = u.bal.marg)

/-- The first logical tile of a DUAL launch whose pair would save different contexts (R496). -/
def State.pairSplit (s : State) (l : Launch) : Option Nat :=
  if !l.dual then none
  else (upTo (l.w * l.h)).find? fun k => !(s.tile (l.tileOf k)).sameContext (s.tile (l.twinOf k))

/-- A divergence of a logical tile at its primary's next message, of a kind (R494): the event, the fence with its record, and
nothing more of the pair is forwarded. -/
def State.divergenceAt (s : State) (l : Launch) (tlin k kind : Nat) (timeout : Bool) : State :=
  let key := l.tileOf tlin
  let s := s.modTiles [key, l.twinOf tlin] fun t => { t with diverged := true }
  let s := s.raiseEvent (tileDie key) 5 key l.handle.toNat (l.twinOf tlin)
  s.wish l.id stDiverged { status := stDiverged, tlin := BitVec.ofNat 32 tlin
                           tinfo := BitVec.ofNat 64 (k % 2 ^ 32 + kind % 256 * 2 ^ 32 + ofBool timeout * 2 ^ 40) }

/-- A divergence at the primary's next message. -/
def State.divergence (s : State) (l : Launch) (tlin kind : Nat) (timeout : Bool) : State :=
  s.divergenceAt l tlin (s.tile (l.tileOf tlin)).egressNo kind timeout

/-- SWAP_OUT_COMPLETE (R79): every tile has stopped and everything under way has completed; the contexts are saved and
the rectangle is freed. A launch for which a fence is asked or in progress does not get here (R52). An abort that waited
takes effect (R447). The supervisors of a DUAL pair save with compared stores: where they differ the launch diverges, and its
contexts are discarded (R496). -/
def State.swapDone (s : State) (id : Nat) : State :=
  match s.launch? id with
  | none => s
  | some l =>
    let all := l.allTiles.all fun k => (s.tile k).stopped && (s.tile k).quiet && (s.tile k).settled && (s.tile k).bal.paused
    if l.state ≠ .swapping || !all || s.layoutBusy id || s.ending id then s
    else
      let s := s.modTiles l.allTiles fun t => t.macroStop s.clk
      match s.pairSplit l with
      | some k => s.divergence l k 1 false
      | none =>
      let ctxs := l.ctxs.map fun c => c.complete (s.tile (l.tileOf c.tlin)) l.balance
      let s := (s.modTiles l.allTiles Tile.holdMx).freeRect l
      let s := s.setLaunch id { l with state := .swapped, ctxs, waitSince := s.dialNow.toNat, ox := 0, oy := 0 }
      if l.abortWanted then s.finish id { status := stAborted } else s

/-- A saved context written back into a tile under a new id, resumed as trap return resumes it; MSHAPE0–3, FMTT, MXOWN and
the tile registers stay those of the tile (R80, R41, R267). The segment table is relocated and SEGT rewritten when the
context had written it (R199, R404). -/
def restoreTile (clk : Nat) (l : Launch) (c : SavedCtx) (cid : BitVec 16) (sup : Memory) (old : Tile) : Tile :=
  let b := c.toTile
  let ls := if c.segtSet then relocSegs b.ls (bits b.segt.toNat 16 5 * 32) l.ox l.oy else b.ls
  let t : Tile := { old.keep b with
    m := old.m, mshape := old.mshape, fmtt := old.fmtt
    ls := (ls.filter fun x => decide (x.1 < supBase)) ++ sup
    launch := some l.id, isSpawn := !decide (c.tlin < l.workers), plandir := l.plandir.toNat, bal := b.bal.resume clk
    fillQ := ((upTo 8).filter fun i => (vget {} b.streams i : Stream).on).flatMap fun i => List.replicate 4 ⟨clk, i, clk⟩ }
  let t := if c.segtSet then t.captureSegt b.segt else t
  { (t.trapReturn clk).rebuffer with tstat := mkTstat cid 0 false false }

/-- A count at a mailbox counter: 0 `mbn`, 1 `mbe`, 2 `mbs`, 3 `mbw` (R24). -/
def Tile.countMail (t : Tile) (c : Nat) : Tile := { t with mb := vset t.mb c (vget 0 t.mb c + 1) }

/-- Mailbox data lands in a tile and its twin and counts (R434, R493). -/
def State.mail (s : State) (l : Launch) (m : HeldMail) : State :=
  let put := fun (t : Tile) => (t.lsLand s.clk m.doff (clean m.data)).countMail m.ctr
  let s := s.modTile (l.tileOf m.tlin) put
  if l.dual then s.modTile (l.twinOf m.tlin) put else s

/-- Tiles that hold tile registers of the launch (R268). -/
def State.holders (s : State) (id : Nat) : List Nat :=
  (s.tiles.filter fun t => decide (t.2.mxOwner.map Prod.fst = some id) && decide (t.2.mxHeld ≠ 0)).map Prod.fst

/-- One context written back under a new id, which its block's header takes too; a context with a suspended macro operation
takes its tile registers at once (R34, R80, R267, R489). -/
def State.restoreOne (s : State) (l : Launch) (sup : Memory) (c : SavedCtx) : State :=
  let ks := l.tileOf c.tlin :: (if l.dual then [l.twinOf c.tlin] else [])
  let cid := pickCid s.free (ks.map fun k => (s.tile k).mxCid)
  let s := { s with free := s.free + 1 }.modCtx (some (l.id, c.tlin)) fun c => c.setCid cid
  let s := s.modTiles ks (restoreTile s.clk l c cid sup)
  let s := if l.dual then s.pairNumbers ks else s
  if (s.tile (l.tileOf c.tlin)).mac.isSome then ks.foldl (fun s k => s.takeMx k) s else s

/-- Writes back every context; the launch runs (R80, R85). -/
def State.restoreAll (s : State) (l : Launch) : State :=
  let sup := Memory.image supBase (s.fw.supImage.take 4096)
  let s := l.ctxs.foldl (fun s c => s.restoreOne l sup c) s
  let s := l.mail.foldl (fun s m => s.mail l m) s
  s.modLaunch l.id fun l => { l with state := .running, mail := [], mailWords := 0, ranSince := s.clk, escT := s.clk }

/-- LAUNCH_RESTORE (R80, R48, R268, R531, R540): a swapped launch that could never fit again ends PLACEMENT_IMPOSSIBLE; else it
takes a rectangle; its tile registers are flushed from the tiles
that hold them, and then its contexts are written back. -/
def State.launchRestore (s : State) (id : Nat) : State :=
  match s.launch? id with
  | none => s
  | some l =>
    let go (s : State) (l : Launch) : State :=
      if s.ending id then s
      else if !l.ctxs.all (fun c => c.ok) then s.endWith id stContextInvalid
      else
        let hs := s.holders id
        if hs.isEmpty then s.restoreAll l
        else s.modTiles hs fun t => { t with pend := t.pend ||| 2 }
    match l.state with
    | .restoring => go s l
    | .swapped =>
      if s.placing && (s.fits l .all).isNone then s.endWith id stPlacementImpossible
      else if !s.turnOf l then s
      else
        match s.fits l (.these []) with
        | none => s
        | some o =>
          let l := s.takeRect l o .restoring
          let s := { (s.setLaunch id l) with placeCount := s.placeCount + 1 }
          let s := (upTo (l.w * l.h)).foldl (fun s k =>
            let f := fun (t : Tile) => { t with launch := some id, tlin := k, run := RunState.unplaced }
            let s := s.modTile (l.tileOf k) f
            if l.dual then s.modTile (l.twinOf k) f else s) s
          go s l
    | _ => s

/-! ### The end under R63 (R487) -/

/-- The tile has nothing left to do for the end of its launch (R63). -/
def Tile.ended (t : Tile) : Bool :=
  (decide (t.run = .halted) || decide (t.run = .notStarted) || decide (t.run = .idle)) && t.quiet && (!t.sup || t.dead) && t.bal.sweep.isNone

/-- Two values of a DUAL pair's CIR differ (kind 7 of R490). -/
def State.cirSplit (s : State) (l : Launch) : Option Nat :=
  if !l.dual then none
  else (upTo (l.w * l.h)).find? fun k => decide ((s.tile (l.tileOf k)).cir ≠ (s.tile (l.twinOf k)).cir)

/-- LAUNCH_COMPLETE (R63, R487): COMPLETED, or CIR_SET with the lowest tile and the OR of the CIR values. A record that
could not be written yet is tried again. -/
def State.launchComplete (s : State) (id : Nat) : State :=
  match s.launch? id with
  | none => s
  | some l =>
    if l.state = .ended then s.serveNotices s.fw.notices.length
    else if l.state ≠ .running || !(l.allTiles.all fun k => (s.tile k).ended) || s.layoutBusy id || s.ending id then s
    else
      match s.cirSplit l with
      | some k => s.divergence l k 7 false
      | none =>
        let cirs := (upTo (l.w * l.h)).map fun k => (s.tile (l.tileOf k)).cir
        match (upTo (l.w * l.h)).find? fun k => decide (nth 0 cirs k ≠ 0) with
        | none => s.finish id { status := stOK }
        | some k =>
          let all := cirs.foldl (fun a c => a ||| c) (0 : Word)
          s.finish id { status := 0x15, tlin := BitVec.ofNat 32 k
                        tinfo := BitVec.ofNat 64 (all.toNat % 16 + ((nth 0 cirs k).toNat % 16) * 2 ^ 32) }

/-- A write of a handle to a ring's ABORT word, served (R447). -/
def State.abort (s : State) (q : Nat) (handle : Word) : State :=
  let owner := (tabGet {} s.rings q).owner
  let ids := (s.launches.filter fun m => decide (m.2.ring = q) && decide (m.2.owner = owner) &&
    decide (m.2.handle = handle) && decide (m.2.state ≠ .ended)).map Prod.fst
  ids.foldl (fun s id => match s.launch? id with
    | none => s
    | some l =>
      if l.state = .swapping then s.modLaunch id fun l => { l with abortWanted := true }
      else s.wish id stFenced { status := stAborted }) s

/-- LAUNCH_ABORT (R447, R524). -/
def State.launchAbort (s : State) (q : Nat) (handle : Word) : State := s.doorbell q (some handle) (s.abort q handle)

/-! ### The rows of this chapter -/

/-- DEPENDENCE_POLL. -/
def execDependencePoll (l d : Nat) (s : State) : Host.Outcome State Fault Refusal := .next (s.dependencePoll l d)
/-- START_TICK_CHECK. -/
def execStartTickCheck (l : Nat) (s : State) : Host.Outcome State Fault Refusal := .next (s.startTickCheck l)
/-- LAUNCH_PLACE. -/
def execLaunchPlace (l : Nat) (s : State) : Host.Outcome State Fault Refusal := .next (s.launchPlace l)
/-- LAUNCH_RESERVATION. -/
def execLaunchReservation (l : Nat) (s : State) : Host.Outcome State Fault Refusal := .next (s.reservation l)
/-- SLICE_PREEMPT. -/
def execSlicePreempt (l : Nat) (s : State) : Host.Outcome State Fault Refusal := .next (s.slicePreempt l)
/-- SWAP_OUT_COMPLETE. -/
def execSwapOutComplete (l : Nat) (s : State) : Host.Outcome State Fault Refusal := .next (s.swapDone l)
/-- LAUNCH_RESTORE. -/
def execLaunchRestore (l : Nat) (s : State) : Host.Outcome State Fault Refusal := .next (s.launchRestore l)
/-- LAUNCH_COMPLETE. -/
def execLaunchComplete (l : Nat) (s : State) : Host.Outcome State Fault Refusal := .next (s.launchComplete l)
/-- LAUNCH_ABORT. -/
def execLaunchAbort (q : Nat) (handle : Word) (s : State) : Host.Outcome State Fault Refusal :=
  .next (s.launchAbort q handle)

end Sys2Proof.Machine
end

