-- ==== Sys2Proof/Machine/Rel.lean ====
section
/-! DEFINITION. Reliability (chapter 20): fences, automatic fences, parity, scrubbing, links, dual dispatch, self-tests,
retirement, and their registers. -/

namespace Sys2Proof.Machine

/-- TCLK cycles of 24 hours. -/
def dayClk : Nat := 24 * 3600 * 3300000000

/-! ### Fences (R498–R501) -/

/-- Fence unit f. -/
def State.fence (s : State) (f : Nat) : Fence := vget {} s.rel.fences f
/-- Fence unit f replaced. -/
def State.setFence (s : State) (f : Nat) (x : Fence) : State :=
  { s with rel := { s.rel with fences := vset s.rel.fences f x } }

/-- The tiles of a fence's rectangle. -/
def Fence.tiles (x : Fence) : List Nat :=
  let b := x.box
  rectTiles b.1 b.2.1 b.2.2.1 b.2.2.2

/-- Two rectangles share a tile. -/
def boxesMeet (a b : Nat × Nat × Nat × Nat) : Bool :=
  decide (a.1 < b.1 + b.2.2.1) && decide (b.1 < a.1 + a.2.2.1) &&
    decide (a.2.1 < b.2.1 + b.2.2.2) && decide (b.2.1 < a.2.1 + a.2.2.2)

/-- The launches that hold a rectangle with some tile inside; and those with all tiles inside. -/
def State.launchesIn (s : State) (tiles : List Nat) : List Nat × List Nat :=
  let ls := s.launches.filter fun m => m.2.holds
  ((ls.filter fun m => m.2.allTiles.any fun t => tiles.contains t).map Prod.fst,
   (ls.filter fun m => m.2.allTiles.all fun t => tiles.contains t).map Prod.fst)

/-- A far access of a tile is past the boundary at its fence point: it has left the tile, which neither an access before it
nor, in a DUAL launch, the comparison of its message still holds; it travels, or waits at its home (R378, R491, R499). -/
def Tile.pastBoundary (t : Tile) (clk : Nat) (dual : Bool) (r : FarReq) : Bool :=
  decide (r.issuedAt < clk) && r.open_ && !t.anyOpen r.after && !(dual && !t.compared r.msg)

/-- A tile at its fence point: it issues nothing more, its copies and commands are dropped, and a far access that has not
passed the boundary is never applied (R498, R499). -/
def Tile.fenceNow (t : Tile) (clk : Nat) (dual : Bool) : Tile :=
  { t with fenced := true, copies := [], dmas := [], spawns := [], spawnIn := none, egress := []
           far := t.far.filter (t.pastBoundary clk dual) }

/-- A launch's commands in an engine are cancelled (R337). -/
def Engine.cancel (e : Engine) (id : Nat) : Engine :=
  { e with cmds := e.cmds.filter fun c => decide (c.launch ≠ some id)
           dualQ := e.dualQ.filter fun c => decide (c.launch ≠ some id) }

/-- The launches stop: tiles at their fence points, layout commands cancelled, groups ended (R498, R337, R472). -/
def State.stopLaunches (s : State) (ids : List Nat) (reason : Byte) : State :=
  ids.foldl (fun (s : State) id => match s.launch? id with
    | none => s
    | some l =>
      let s := s.modTiles l.allTiles fun t => t.fenceNow s.clk l.dual
      let s := { s with engines := s.engines.map fun (e : Nat × Engine) => (e.1, e.2.cancel id) }
      s.endRanks l.owner l.handle reason) s

/-- The tiles that run a self-test in a fence: the pair that diverged, or every tile fenced for TILE_FAILED, idle ones of the
rectangle `box` among them (R497). -/
def State.testTiles (s : State) (box ids : List Nat) (i : RecordInfo) (reason : Byte) : List Nat :=
  if reason = stTileFailed then
    let held := ids.flatMap fun id => match s.launch? id with
      | none => []
      | some l => l.allTiles
    held ++ box.filter fun t => !held.contains t
  else if reason = stDiverged then
    ids.flatMap fun id => match s.launch? id with
      | none => []
      | some l => if i.tlin.toNat < l.w * l.h then [l.tileOf i.tlin.toNat, l.twinOf i.tlin.toNat] else []
  else []

/-- Fence f proceeds for some launches (R498). -/
def State.fenceStart (s : State) (f : Nat) (ids : List Nat) (reason : Byte) (i : RecordInfo) : State :=
  let s := s.stopLaunches ids reason
  let tests := s.testTiles (s.fence f).tiles ids i reason
  let s := s.setFence f { s.fence f with busy := true, err := false, reason, stage := 2, since := s.clk, launches := ids
                                         tests, info := i }
  { s with rel := { s.rel with wishes := s.rel.wishes.filter fun w => !ids.contains w.launch } }

/-- Another fence in progress overlaps. -/
def State.fenceBlocked (s : State) (f : Nat) : Bool :=
  (upTo 16).any fun g => decide (g ≠ f) && (s.fence g).busy && decide (2 ≤ (s.fence g).stage) &&
    boxesMeet (s.fence g).box (s.fence f).box

/-- FENCE_GO (R498): a GO write of CRN_RL_FCTLf. -/
def State.fenceGo (s : State) (f : Nat) (reason : Byte) : State :=
  let x := s.fence f
  let b := x.box
  let part := s.launchesIn x.tiles
  if 16 ≤ f || x.busy then s
  else if decide (b.2.2.1 = 0) || decide (b.2.2.2 = 0) || decide (512 < b.1 + b.2.2.1) || decide (320 < b.2.1 + b.2.2.2) ||
      decide (reason.toNat < 0x10) || decide (0x14 < reason.toNat) || decide (part.1 ≠ part.2) then
    s.setFence f { x with err := true, reason }
  else if s.fenceBlocked f then s.setFence f { x with busy := true, err := false, reason, stage := 1, since := s.clk }
  else s.fenceStart f part.2 reason { status := reason }

/-- Fences that waited for an overlapping one begin with what is still placed inside them (R498). -/
def State.fencesNext (s : State) : State :=
  (upTo 16).foldl (fun s f =>
    let x := s.fence f
    if x.busy && decide (x.stage = 1) && !s.fenceBlocked f then
      s.fenceStart f (s.launchesIn x.tiles).2 x.reason { status := x.reason }
    else s) s

/-- A tile as it is before placement, its supervisor region loaded anew (R500). Its router goes on numbering requests, so that
no home takes a later one for one that it has applied (R418). -/
def State.freshTile (s : State) (t : Tile) : Tile :=
  { ls := Memory.image supBase (s.fw.supImage.take 4096), launch := t.launch, tlin := t.tlin, reqNo := t.reqNo, seqNo := t.seqNo }

/-- The accesses of a tile that wait at their home, not at a local store, outlive its reset (R499). -/
def Tile.orphaned (t : Tile) : List FarReq :=
  t.far.filter fun r => decide (r.phase = .waiting) && r.dests.all fun d => decide (region d.addr.toNat ≠ .window)

/-- Some access of the fenced launches that had passed the boundary is still on its way to its home (R499). -/
def State.fenceAwaits (s : State) (x : Fence) : Bool :=
  x.launches.any fun id => match s.launch? id with
    | none => false
    | some l => l.tiles.any fun k => (s.tile k).far.any fun r => decide (r.phase = .sent)

/-- The tiles that a fence resets: those of its launches, and the others of its rectangle. -/
def State.fenceTiles (s : State) (x : Fence) : List Nat :=
  let held := x.launches.flatMap fun id => match s.launch? id with
    | some l => l.allTiles
    | none => []
  held ++ (x.tiles.filter fun k => (s.tile k).launch.isNone && s.tiles.any fun e => decide (e.1 = k))

/-- Steps 3 and 4 of R498: tile registers held for another launch go to their blocks, the tiles are reset (R500), and the
self-tests of R497 begin. -/
def State.fenceReset (s : State) (f : Nat) : State :=
  let x := s.fence f
  let ks := s.fenceTiles x
  let s := { s with orphans := s.orphans ++ ks.flatMap fun k => (s.tile k).orphaned.map fun r => (k, r) }
  let s := ks.foldl (fun s k => s.flushMx k) s
  let s := s.modTiles ks fun t => s.freshTile t
  let pair := match x.tests with
    | [a, b] => if x.reason = stDiverged then [(a, b)] else []
    | _ => []
  let s := s.setFence f { s.fence f with stage := 3 }
  { s with rel := { s.rel with testing := s.rel.testing ++ x.tests, diverged := s.rel.diverged ++ pair } }

/-- Step 5 of R498: the records are written, BUSY clears, FENCE_DONE is raised and the rectangle is freed. -/
def State.fenceEnd (s : State) (f : Nat) : State :=
  let x := s.fence f
  let s := x.launches.foldl (fun s id => s.finish id x.info) s
  let s := s.setFence f { s.fence f with busy := false, stage := 0, launches := [], tests := [] }
  let s := s.raiseEvent 27 8 noId noId (f + x.reason.toNat * 256)
  s.fencesNext

/-- FENCE_COMPLETE (R498–R500): once what had passed the boundary has come to its home, the tiles are reset, and once their
self-tests have ended the fence ends; it comes twice for a fence that tests. -/
def State.fenceComplete (s : State) (f : Nat) : State :=
  let x := s.fence f
  if !x.busy || decide (x.stage < 2) then s
  else
    let s1 := if x.stage = 2 && !s.fenceAwaits x then s.fenceReset f else s
    if (s1.fence f).stage = 3 && !x.tests.any (fun t => s1.rel.testing.contains t) then s1.fenceEnd f else s1

/-- AUTO_FENCE (R501, R571): hardware takes a free fence unit for a launch whose fence was asked for. -/
def State.autoFence (s : State) (id f : Nat) : State :=
  match s.rel.wishes.find? fun w => decide (w.launch = id) with
  | none => s
  | some w =>
    let drop : State := { s with rel := { s.rel with wishes := s.rel.wishes.filter fun v => decide (v.launch ≠ id) } }
    match s.launch? id with
    | none => drop
    | some l =>
      if 16 ≤ f || (s.fence f).busy then s
      else if l.state = .ended then drop
      else if !l.holds then drop.finish id w.info
      else
        let rect := BitVec.ofNat 64 (l.ox + l.oy * 2 ^ 16 + l.w * 2 ^ 32 + l.h * 2 ^ 48)
        (drop.setFence f { drop.fence f with rect }).fenceStart f [id] w.reason w.info

/-! ### Errors in tiles and memories (R481–R485) -/

/-- The handle of a tile's launch, for an event. -/
def State.handleOf (s : State) (t : Nat) : Nat := match (s.tile t).launch.bind s.launch? with
  | some l => l.handle.toNat
  | none => noId

/-- The source of a tile's events and the tile that they name (Table 20-6): a crown tile's come from the crown. -/
def tileSource (k : Nat) : Nat × Nat := if isCrown k then (17, noId) else (tileDie k, k)

/-- A tile whose state has a parity error: it issues nothing more, and its results in flight and the operations that
have not come to their effect are discarded (R485). -/
def Tile.fail (t : Tile) : Tile :=
  { t with dead := true, socks := t.socks.map fun q => { q with fly := [] }, rmws := [], copies := [], spawns := []
           bal := { t.bal with sweep := none, sends := [], half := none, old := none }
           far := t.far.map fun r => { r with drop := true }
           op4s := [], maccs := [], mac := none, rings := [], fillQ := [], waddrAt := none, layoutWait := none }

/-- TILE_PARITY_ERROR (R485): the tile stops at once, TILE_FAILED is raised, and its launch is fenced. -/
def State.parityError (s : State) (k : Nat) : State :=
  let t := s.tile k
  let src := tileSource k
  let s := (s.setTile k t.fail).raiseEvent src.1 7 src.2 (s.handleOf k) 0
  match t.launch with
  | none => s
  | some id => s.wish id stTileFailed { status := stTileFailed, tlin := BitVec.ofNat 32 t.tlin }

/-- SUPERVISOR_HALT (R37, R501): a trap in supervisor mode has halted a tile. -/
def State.supHalted (s : State) (k : Nat) : State :=
  let t := s.tile k
  let src := tileSource k
  let s := s.raiseEvent src.1 6 src.2 (s.handleOf k) t.tcause.toNat
  match t.launch with
  | none => s
  | some id => s.wish id stSupHalt
      { status := stSupHalt, tlin := BitVec.ofNat 32 t.tlin, tcause := t.tcause, tinfo := t.tinfo }

/-- The memories that the scrubber reads: a tile's local store by tile id, bank memory, crown SRAM, reduction SRAM, and
the HBM half of die d at 0x80010 + d. -/
inductive ScrubMem where
  | tile (k : Nat)
  | bank
  | csram
  | rsram
  | hbm (d : Nat)
  deriving DecidableEq, Repr

/-- The memory of a number. -/
def scrubMem (m : Nat) : ScrubMem :=
  if m < 0x80000 then .tile m
  else if m = 0x80000 then .bank
  else if m = 0x80001 then .csram
  else if m = 0x80002 then .rsram
  else .hbm ((m - 0x80010) % 16)

/-- Source of a memory's events, and the granule's size (Tables 20-2, 20-6). -/
def ScrubMem.source (m : ScrubMem) (a : Nat) : Nat × Nat := match m with
  | .tile k => (if isCrown k then 17 else tileDie k, 4)
  | .bank => (bits a 29 26, 4)
  | .csram => (17, 8)
  | .rsram => (16, 8)
  | .hbm d => (18 + d / 2, 64)

/-- The granule at an offset has a poison tag. -/
def State.tagAt (s : State) (m : ScrubMem) (a : Nat) : Bool := match m with
  | .tile k => (s.tile k).lsPoison.contains (a / 4 * 4)
  | .bank => s.bankPoison.contains (a / 4)
  | .csram => s.csramPoison.contains (a / 8)
  | .rsram => s.rsramPoison.contains (a / 8)
  | .hbm d => s.hbmBad d a

/-- Sets the tag of the granule at an offset (R482). -/
def State.setTag (s : State) (m : ScrubMem) (a : Nat) : State := match m with
  | .tile k => s.modTile k fun t => { t with lsPoison := insertNat (a / 4 * 4) t.lsPoison }
  | .bank => { s with bankPoison := insertNat (a / 4) s.bankPoison }
  | .csram => { s with csramPoison := insertNat (a / 8) s.csramPoison }
  | .rsram => { s with rsramPoison := insertNat (a / 8) s.rsramPoison }
  | .hbm d => { s with hbmPoison := vset s.hbmPoison d (insertNat (a / 64) (vget [] s.hbmPoison d)) }

/-- A corrected error: CE events of one source are at most one per 1 ms, and a tile whose corrections pass CETHR within
24 hours is chosen for retirement (R503, R506). -/
def State.corrected (s : State) (src : Nat) (tile : Option Nat) : State :=
  let c := tabGet (0, 0) s.rel.ceSince src
  let s :=
    if decide (c.2 = 0) || decide (c.2 + msClk ≤ s.clk) then
      let s := { s with rel := { s.rel with ceSince := tabSet s.rel.ceSince src (0, s.clk + 1) } }
      s.raiseEvent src 1 (tile.getD noId) noId (c.1 + 1)
    else { s with rel := { s.rel with ceSince := tabSet s.rel.ceSince src (c.1 + 1, c.2) } }
  match tile with
  | none => s
  | some k =>
    let recent := (k, s.clk) :: s.rel.ceTile.filter fun e => decide (s.clk < e.2 + dayClk)
    let s := { s with rel := { s.rel with ceTile := recent } }
    if decide (s.rel.cethr.toNat < (recent.filter fun e => decide (e.1 = k)).length) && !isCrown k then s.chooseRetire k else s

/-- SCRUB_READ (R481, R482, R484): what a patrol read of a granule finds. -/
def State.scrubRead (s : State) (m a : Nat) (e : ScrubResult) : State :=
  let mem := scrubMem m
  let src := mem.source a
  let tile := match mem with
    | .tile k => if isCrown k then none else some k
    | _ => none
  match e with
  | .clean => s
  | .correctable => if s.tagAt mem a then s else s.corrected src.1 tile
  | .uncorrectable =>
    if s.tagAt mem a then s
    else (s.setTag mem a).raiseEvent src.1 2 (tile.getD noId) noId (a / src.2 * src.2 % 2 ^ 32)

/-! ### Links (R502) -/

/-- EDGE_DOWN (R452, R502): the edge's bit is set, launches across it are fenced, and REPLACE is set. -/
def State.edgeDown (s : State) (e : Nat) : State :=
  if decide (24 ≤ e) || s.rel.edges.getLsbD e then s
  else
    let s := { s with rel := { s.rel with edges := s.rel.edges ||| BitVec.ofNat 24 (2 ^ e) } }
    let d := edgeDies e
    let s := s.raiseEvent d.1 4 noId noId e
    let across (ox oy : Nat) (l : Launch) : Bool :=
      let ds := rectDies ox oy l.w l.h
      ds.contains d.1 && ds.contains d.2
    let hit := s.launches.filter fun m => m.2.holds &&
      (across m.2.ox m.2.oy m.2 || (m.2.dual && across m.2.tox m.2.toy m.2))
    let s := hit.foldl (fun s m => s.wish m.1 stLinkDown { status := stLinkDown }) s
    s.setReplace 2

/-- LINK_RETRY_REPORT (R502): a link that retried in a period raises one event; a UALink port also counts. -/
def State.linkRetry (s : State) (src link count : Nat) : State :=
  let s :=
    if src = 16 && decide (link < 24) then
      let p := vget {} s.br.ports link
      { s with br := { s.br with ports := vset s.br.ports link { p with retries := p.retries + BitVec.ofNat 16 count } } }
    else s
  if count = 0 then s else s.raiseEvent src 3 noId noId (link % 65536 + count % 65536 * 65536)

/-- CXL_LINK_FAIL (R502). -/
def State.cxlLinkFail (s : State) : State := s.raiseEvent 26 4 noId noId 0

/-! ### Dual dispatch (R488–R497) -/

/-- The tile is the twin of its logical tile (R488). -/
def State.isTwin (s : State) (k : Nat) : Bool :=
  let t := s.tile k
  match t.launch.bind s.launch? with
  | some l => l.dual && decide (l.tileOf t.tlin ≠ k)
  | none => false

/-- One byte into the 64-bit CRC (R490). -/
def crcByte (c : Nat) (b : Nat) : Nat :=
  (upTo 8).foldl (fun c _ => if bit c 63 then (c * 2 % 2 ^ 64) ^^^ 0x42F0E1EBA9EA3693 else c * 2 % 2 ^ 64)
    (c ^^^ (b % 256) * 2 ^ 56)

/-- The hash of an egress message: polynomial, initial value and final XOR of R490. -/
def crc64 (bs : List Nat) : Nat := bs.foldl crcByte (2 ^ 64 - 1) ^^^ (2 ^ 64 - 1)

/-- The hash of a message's canonical form. -/
def Egress.hash (e : Egress) : Nat := crc64 (e.kind :: e.words)

/-- What the primary's router decides of the pair's oldest messages in a cycle: nothing yet, that they agree, or a divergence at a
message, with TIMEOUT when HOLD passed before both were present (R491, R494). -/
def pairVerdict (a b : Option Egress) (clk hold : Nat) : Option (Option (Egress × Bool)) :=
  match a, b with
  | some a, some b =>
    if min a.since b.since + hold < max a.since b.since then some (some (a, true))
    else if clk < max a.since b.since + 2 then none
    else if a.hash = b.hash then some none
    else some (some (a, false))
  | some e, none | none, some e => if e.since + hold ≤ clk then some (some (e, true)) else none
  | none, none => none

/-- HOLD in cycles. -/
def Rel.hold (r : Rel) : Nat := bits r.dual.toNat 15 0 * usClk

/-- TWIN_COMPARE and TWIN_HOLD_TIMEOUT (R491, R494): the oldest message of a primary tile meets its twin's hash, two cycles after
the later of them arose, or HOLD passes first; the escapement counts an arrival from then on (R493). -/
def State.twinStep (s : State) (key : Nat) : State :=
  let t := s.tile key
  match t.launch.bind s.launch? with
  | none => s
  | some l =>
    if !l.dual || decide (l.tileOf t.tlin ≠ key) || t.diverged || t.fenced then s
    else
      let tk := l.twinOf t.tlin
      let u := s.tile tk
      match pairVerdict t.egress.head? u.egress.head? s.clk s.rel.hold with
      | none => s
      | some none =>
        ((s.setTile key { t with egress := t.egress.drop 1 }).modTile tk fun u => { u with egress := u.egress.drop 1 }).modLaunch
          l.id fun l => { l with escT := max l.escT s.clk }
      | some (some (e, timeout)) => s.divergenceAt l t.tlin e.k e.kind timeout

/-- TWIN_COMPARE (R491). -/
def State.twinCompare (s : State) (key : Nat) : State := s.twinStep key

/-- TWIN_HOLD_TIMEOUT (R491, R494): as TWIN_COMPARE, once HOLD has passed. -/
def State.twinTimeout (s : State) (key : Nat) : State :=
  let t := s.tile key
  match t.launch.bind s.launch? with
  | none => s
  | some l =>
    match pairVerdict t.egress.head? (s.tile (l.twinOf t.tlin)).egress.head? s.clk s.rel.hold with
    | some (some (_, true)) => s.twinStep key
    | _ => s

/-- One divergence more for a tile; DCNT within 24 hours retire it (R497). -/
def State.countDivergence (s : State) (t : Nat) : State :=
  let l := (t, s.clk) :: s.rel.divCount.filter fun e => decide (s.clk < e.2 + dayClk)
  let s := { s with rel := { s.rel with divCount := l } }
  if bits s.rel.dual.toNat 19 16 ≤ (l.filter fun e => decide (e.1 = t)).length then s.chooseRetire t else s

/-- SELFTEST_DONE (R497, R506): a tile that fails is chosen for retirement; when both of a diverged pair pass, each counts a divergence. -/
def State.selftestDone (s : State) (t : Nat) (pass : Bool) : State :=
  if !s.rel.testing.contains t then s
  else
    let s := { s with rel := { s.rel with testing := s.rel.testing.filter (· ≠ t) } }
    let s := s.raiseEvent 17 9 t noId (ofBool pass)
    let mine := fun (p : Nat × Nat) => decide (p.1 = t) || decide (p.2 = t)
    if !pass then
      let s := { s with rel := { s.rel with diverged := s.rel.diverged.filter fun p => !mine p } }
      s.chooseRetire t
    else
      match s.rel.diverged.find? mine with
      | none => s
      | some p =>
        if s.rel.testing.contains p.1 || s.rel.testing.contains p.2 then s
        else
          let s := { s with rel := { s.rel with diverged := s.rel.diverged.filter fun q => decide (q ≠ p) } }
          (s.countDivergence p.1).countDivergence p.2

/-! ### The retirement map (R505, R533) -/

/-- The tile of bit n of a die's map (R505). -/
def retTile (d n : Nat) : Nat := d * 16384 + n

/-- RETIREMENT_MAP_WRITE: bits are set and never cleared; a held tile waits (R505, R533). -/
def State.retMapWrite (s : State) (d : Nat) (ns : List Nat) : State :=
  if 16 ≤ d then s
  else (ns.filter fun n => decide (n < 10240)).foldl (fun s n => s.chooseRetire (retTile d n)) s

/-- MSIX_VECTOR_0_REPEAT (R504): vector 0 again while unread events exist, at most once per 1 µs. -/
def State.msix0Repeat (s : State) : State :=
  if !s.rel.unread || !s.rel.evEn then s
  else
  let r := s.crownWordDo 0 (bits s.rel.evCons.toNat 51 2 * 4)
  let s := r.2
  if r.1 = some s.rel.evSeq then { s with rel := { s.rel with unread := false } }
  else if s.clk < s.rel.msix0At then s
  else { s with bu := { s.bu with msix0 := s.bu.msix0 + 1 }, rel := { s.rel with msix0At := s.clk + usClk } }

/-! ### Registers (R508) -/

/-- A write of a reliability register, the offset in the front-end block; none where none stands. -/
def State.relWrite (s : State) (off n v : Nat) : Option State :=
  let put (r : Rel) : Option State := some { s with rel := r }
  let r := s.rel
  if decide (0x80100 ≤ off) && decide (off < 0x80200) then
    let f := (off - 0x80100) / 16
    match off % 16, n with
    | 0, 8 => some (s.setFence f { s.fence f with rect := BitVec.ofNat 64 v &&& 0x01FF03FF01FF01FF })
    | 8, 4 =>
      if bit v 31 then some (s.fenceGo f (BitVec.ofNat 8 v))
      else some (s.setFence f { s.fence f with reason := if (s.fence f).busy then (s.fence f).reason else BitVec.ofNat 8 v })
    | _, _ => none
  else if decide (0x90000 ≤ off) && decide (off < 0x98000) then
    let d := (off - 0x90000) / 0x800
    let o := (off - 0x90000) % 0x800
    if decide (o + n ≤ 1280) && decide (off % n = 0) then
      some (s.retMapWrite d (((upTo (8 * n)).filter fun i => bit v i).map fun i => 8 * o + i))
    else none
  else
    match off, n with
    | 0x80000, 8 => put { r with evBase := BitVec.ofNat 64 (bits v 51 5 * 32) }
    | 0x80008, 4 =>
      let lgn := bits v 4 0
      let en := bit v 7 && decide (6 ≤ lgn) && decide (lgn ≤ 16)
      put { r with evEn := en, evLgn := lgn, evSeq := if en && !r.evEn then 0 else r.evSeq }
    | 0x80010, 8 => put { r with evCons := BitVec.ofNat 64 (bits v 51 2 * 4) }
    | 0x80018, 4 => some s
    | 0x80020, 4 => if bits v 7 0 = 0 then some s else put { r with scrub := BitVec.ofNat 8 v }
    | 0x80028, 4 => put { r with cethr := BitVec.ofNat 16 v }
    | 0x80030, 4 =>
      let old := r.dual.toNat
      let hold := if bits v 15 0 = 0 then bits old 15 0 else bits v 15 0
      let dcnt := if bits v 19 16 = 0 then bits old 19 16 else bits v 19 16
      put { r with dual := BitVec.ofNat 32 (hold + dcnt * 65536) }
    | 0x80038, 4 => put { r with repthr := BitVec.ofNat 14 v }
    | 0x80040, 4 => some s
    | 0x80048, 4 => some s
    | _, _ => none

/-- What a reliability register reads. -/
def State.relRead (s : State) (off n : Nat) : Option Nat :=
  let r := s.rel
  if decide (0x80100 ≤ off) && decide (off < 0x80200) then
    let x := s.fence ((off - 0x80100) / 16)
    match off % 16, n with
    | 0, 8 => some x.rect.toNat
    | 8, 4 => some (ofBool x.busy * 2 ^ 30 + ofBool x.err * 2 ^ 29 + x.reason.toNat)
    | _, _ => none
  else if decide (0x90000 ≤ off) && decide (off < 0x98000) then
    let d := (off - 0x90000) / 0x800
    let o := (off - 0x90000) % 0x800
    if decide (o + n ≤ 1280) && decide (off % n = 0) then
      some ((upTo (8 * n)).foldl (fun z i => if r.retired.contains (retTile d (8 * o + i)) then z + 2 ^ i else z) 0)
    else none
  else
    match off, n with
    | 0x80000, 8 => some r.evBase.toNat
    | 0x80008, 4 => some (128 * ofBool r.evEn + r.evLgn)
    | 0x80010, 8 => some r.evCons.toNat
    | 0x80018, 4 => some r.evLost.toNat
    | 0x80020, 4 => some r.scrub.toNat
    | 0x80028, 4 => some r.cethr.toNat
    | 0x80030, 4 => some r.dual.toNat
    | 0x80038, 4 => some r.repthr.toNat
    | 0x80040, 4 => some (ofBool r.replace * 2 ^ 31 + r.reason.toNat * 2 ^ 28 + r.retired.length % 2 ^ 18)
    | 0x80048, 4 => some r.edges.toNat
    | _, _ => none

/-! ### The rows of this chapter -/

/-- FENCE_GO. -/
def execFenceGo (f : Nat) (reason : Byte) (s : State) : Host.Outcome State Fault Refusal := .next (s.fenceGo f reason)
/-- FENCE_COMPLETE. -/
def execFenceComplete (f : Nat) (s : State) : Host.Outcome State Fault Refusal := .next (s.fenceComplete f)
/-- AUTO_FENCE. -/
def execAutoFence (l f : Nat) (s : State) : Host.Outcome State Fault Refusal := .next (s.autoFence l f)
/-- TILE_PARITY_ERROR. -/
def execTileParityError (t : Nat) (s : State) : Host.Outcome State Fault Refusal := .next (s.parityError t)
/-- SCRUB_READ. -/
def execScrubRead (m a : Nat) (e : ScrubResult) (s : State) : Host.Outcome State Fault Refusal := .next (s.scrubRead m a e)
/-- EDGE_DOWN. -/
def execEdgeDown (e : Nat) (s : State) : Host.Outcome State Fault Refusal := .next (s.edgeDown e)
/-- LINK_RETRY_REPORT. -/
def execLinkRetryReport (src link count : Nat) (s : State) : Host.Outcome State Fault Refusal :=
  .next (s.linkRetry src link count)
/-- CXL_LINK_FAIL. -/
def execCxlLinkFail (s : State) : Host.Outcome State Fault Refusal := .next s.cxlLinkFail
/-- TWIN_COMPARE. -/
def execTwinCompare (t : Nat) (s : State) : Host.Outcome State Fault Refusal := .next (s.twinCompare t)
/-- TWIN_HOLD_TIMEOUT. -/
def execTwinHoldTimeout (t : Nat) (s : State) : Host.Outcome State Fault Refusal := .next (s.twinTimeout t)
/-- SELFTEST_DONE. -/
def execSelftestDone (t : Nat) (pass : Bool) (s : State) : Host.Outcome State Fault Refusal := .next (s.selftestDone t pass)
/-- RETIREMENT_MAP_WRITE. -/
def execRetirementMapWrite (d : Nat) (ns : List Nat) (s : State) : Host.Outcome State Fault Refusal :=
  .next (s.retMapWrite d ns)
/-- MSIX_VECTOR_0_REPEAT. -/
def execMsixVector0Repeat (s : State) : Host.Outcome State Fault Refusal := .next s.msix0Repeat

end Sys2Proof.Machine
end

