-- ==== Sys2Proof/Machine/Issue.lean ====
section
/-! DEFINITION. BUNDLE_ISSUE (R102): the order of checks (R114), the stalls, the moves, the triggers' operations, the
end action of the loop stack (R166), and what the next bundle waits for (R103, R157). -/

namespace Sys2Proof.Machine

/-! ### What an operation is given, and what it answers -/

/-- What an operation sees: its tile, cycle and bundle; its slot, trigger code and value; the tile before the bundle
(`pre`), and the tile with the bundle's moves made, from whose latches it samples (`lat`, R18). -/
structure Ctx where
  key : Nat
  clk : Nat
  p : Word
  gap : Nat
  slot : Nat
  code : Nat
  v : Wide
  pre : Tile
  lat : Tile

/-- How the sequencer stops after a bundle (R171, R363). -/
inductive Stop where
  | none
  | halt
  | ret
  deriving DecidableEq, Repr

/-- What an operation asks of the sequencer: the next bundle, with whether that is a redirection (R157, R158); the cycle
before which nothing issues; a stop; the CIR bits to clear at the end of the cycle (R362); and a write of a loop-stack
register, which takes effect from the next cycle (R169). -/
structure Eff where
  next : Option (Word × Bool) := none
  notBefore : Nat := 0
  stop : Stop := .none
  cirClear : Word := 0
  loopReg : Option (Nat × Nat) := none
  deriving DecidableEq, Repr

/-- An operation's answer: a trap; a wait before the bundle issues (decided before the other operations' traps, or after
them), with what the wait itself does; or its effect. -/
inductive OpOut where
  | trap (t : Trap)
  | wait (early : Bool) (st : Stall) (f : State → State)
  | go (s : State) (e : Eff)

/-- An operation. -/
abbrev OpFn := Ctx → State → OpOut

/-- The trigger value as a word (R142). -/
def Ctx.n (x : Ctx) : Word := narrowOf x.v
/-- The socket of the trigger. -/
def Ctx.sock (x : Ctx) : Nat := sockOf x.code
/-- Latch p, as a word. -/
def Ctx.latN (x : Ctx) (p : Nat) : Word := x.lat.latchN x.sock p
/-- Latch p. -/
def Ctx.latW (x : Ctx) (p : Nat) : Wide := x.lat.latch x.sock p
/-- Latch `.a`. -/
def Ctx.a (x : Ctx) : Word := x.latN 0
/-- Latch `.b`. -/
def Ctx.b (x : Ctx) : Word := x.latN 1

/-- A trap with the slot and trigger code in TINFO, and a detail above. -/
def Ctx.trap (x : Ctx) (c : Cause) (detail : Nat := 0) : OpOut := .trap { cause := c, info := trapInfo x.slot x.code detail }

/-- The tile of the operation changed. -/
def Ctx.ok (x : Ctx) (s : State) (f : Tile → Tile) : OpOut := .go (s.modTile x.key f) {}

/-- A narrow result after `lat` cycles. -/
def Ctx.res (x : Ctx) (s : State) (lat : Nat) (a : Word) (flags : BitVec 6 := 0) : OpOut :=
  x.ok s fun t => t.result x.sock x.clk lat false (wideOf a) flags

/-- A wide result after `lat` cycles. -/
def Ctx.resW (x : Ctx) (s : State) (lat : Nat) (a : Wide) (flags : BitVec 6 := 0) : OpOut :=
  x.ok s fun t => t.result x.sock x.clk lat true a flags

/-- The launch of the operation's tile. -/
def Ctx.launch (x : Ctx) (s : State) : Option Launch := x.pre.launch.bind s.launch?

/-- The checks that every trigger shares (R144, R145), then the operation. -/
def runOp (op : Nat → OpFn) (x : Ctx) (s : State) : OpOut :=
  if isCrown x.key && needsLaunch x.code then x.trap .noLaunch
  else if supOnly x.code && !x.pre.sup then x.trap .privilege
  else op x.code x s

/-- What the operations of a bundle come to so far. -/
structure Run where
  s : State
  e : Eff := {}
  trap : Option Trap := none
  early : Option (Stall × (State → State)) := none
  late : Option (Stall × (State → State)) := none

/-- Two requests to the sequencer joined. -/
def Eff.join (a b : Eff) : Eff :=
  { next := match b.next with | some n => some n | none => a.next
    notBefore := max a.notBefore b.notBefore
    stop := match b.stop with | .none => a.stop | st => st
    cirClear := a.cirClear ||| b.cirClear
    loopReg := match b.loopReg with | some w => some w | none => a.loopReg }

/-- One more operation, in slot order (R114). -/
def Run.add (r : Run) (o : OpOut) : Run :=
  match o with
  | .go s e => { r with s, e := r.e.join e }
  | .trap t => match r.trap with | some _ => r | none => { r with trap := some t }
  | .wait true st f => match r.early with | some _ => r | none => { r with early := some (st, f) }
  | .wait false st f => match r.late with | some _ => r | none => { r with late := some (st, f) }

/-! ### Replies written into registers (R43, R299, R304, R371) -/

/-- A reply written: the register, the status guard and `ch.s` (R299, R304, R371). -/
def Tile.writeReply (t : Tile) (r : FarReq) (status : Byte) (data : List Byte) (poison : Bool) : Tile :=
  let t := { t with far := t.far.filter fun q => !decide (q.id = r.id) }
  if r.drop then t else
  let ok := decide (status = 0)
  let word (i : Nat) : Word := if ok then BitVec.ofNat 32 (ofBytes ((data.drop i).take 4)) else 0
  let t := match r.kind with
    | .load n => if n = 64 then t.setV r.reg (if ok then BitVec.ofNat 512 (ofBytes data) else 0) else t.setX r.reg (word 0)
    | .atomic _ n => if n = 8 then (t.setX r.reg (word 0)).setX (r.reg + 1) (word 4) else t.setX r.reg (word 0)
    | .ringrd _ _ => t.setX r.reg (word 0)
    | _ => t
  let g := match r.kind with
    | .ringrd _ _ => ok && decide ((data.drop 4).head? = some 1)
    | _ => ok
  let t := t.setGuard r.gs g
  let t := if ok then (if poison then t.setCir 0 else t) else (t.nackWith status).countEvent 9
  t

/-- Replies held in supervisor mode are written before the first resumed bundle (R43, R113). -/
def Tile.flushHeld (t : Tile) : Tile :=
  t.far.foldl (fun t r => match r.phase with
    | .held st d p => t.writeReply r st d p
    | _ => t) t

/-- Trap return, once the handler's own operations have completed: the program's state is restored and held replies are
written (R41, R43, R363). -/
def Tile.leaveSup (t : Tile) (clk : Nat) : Tile := (t.stageAll.trapReturn clk).flushHeld

/-! ### Fetch (R27, R28, R394) -/

/-- The cycle as of which the bundle is fetched: at most 3 before its issue, and not before a redirection (R394). -/
def State.fetchAt (s : State) (t : Tile) : Nat :=
  max (min t.freshAt s.clk) (s.clk - (Config.fetchLag s.free).toNat)

/-- Bundle p as the loop buffer holds it in the body of an active loop, and whether it is poisoned (R28). -/
def Tile.buffered (t : Tile) (p : Nat) : Option (BitVec 256 × Bool) :=
  ((upTo t.depth).find? fun k =>
    decide ((t.loop k).start.toNat ≤ p) && decide (p < (t.loop k).start.toNat + (t.loop k).buf.length)).map fun k =>
      nth (0, false) (t.loop k).buf (p - (t.loop k).start.toNat)

/-- The 256 bits of the bundle at PC; zero where no bundle lies. -/
def State.fetchWord (s : State) (key : Nat) : BitVec 256 :=
  let t := s.tile key
  let p := t.pc.toNat
  if 3072 ≤ p then 0
  else match t.buffered p with
    | some w => w.1
    | none => BitVec.ofNat 256 (t.memAt (s.fetchAt t) (32 * p) 32)

/-- A word of the bundle at PC was poisoned when it was fetched (R394, R483). -/
def Tile.fetchPoison (t : Tile) : Bool :=
  match t.buffered t.pc.toNat with
  | some w => w.2
  | none => (upTo 8).any fun i => t.tagOf t.fetchedAt (32 * t.pc.toNat + 4 * i)

/-- The fetch's own trap: order 1 and 2 of Table 3-8. -/
def Tile.fetchTrap (t : Tile) : Option Trap :=
  if 3072 ≤ t.pc.toNat then some { cause := .lsRange }
  else if !t.sup && decide (2944 ≤ t.pc.toNat) then some { cause := .privilege }
  else if t.fetchPoison then some { cause := .fetchPoison, open_ := true }
  else none

/-- Orders 1 to 4 of Table 3-8 (R114, R38, R74). -/
def Tile.bundleTrap (t : Tile) (crown : Bool) (b : Bundle) : Option Trap :=
  match t.fetchTrap with
  | some x => some x
  | none =>
    match violation crown t.streaming b with
    | some v => some { cause := .illegalBundle, info := v.info }
    | none =>
      if t.sup then none
      else if b.s then
        if decide (0 < t.depth) && decide ((t.loop (t.depth - 1)).stop.setWidth 32 ≠ t.pc) then
          some { cause := .safepointInLoop, open_ := true }
        else none
      else if 4095 ≤ t.spcnt.toNat then some { cause := .safepointOverrun, open_ := true }
      else none

/-! ### Traps and stalls -/

/-- A trap is taken: in program mode the supervisor is entered, in supervisor mode the tile halts (R35, R36, R37). -/
def State.takeTrap (s : State) (key : Nat) (x : Trap) : State :=
  let info := if x.open_ then (Config.freeInfo s.free).toNat else x.info
  let s := if x.open_ then { s with free := s.free + 1 } else s
  let s := if x.poison then s.modTile key fun t => t.setCir 0 else s
  let s := if x.cause = .spawnBusy then s.modTile key fun t => { t with spawns := t.spawns.filter fun r => decide (r.sup ≠ t.sup) } else s
  if (s.tile key).sup then (s.modTile key fun t => t.supHalt x.cause.code info).supHalted key
  else s.modTile key fun t => t.enterSup s.clk x.cause.code 0 info false

/-- The bundle waits this cycle (R44). -/
def State.stallTile (s : State) (key : Nat) (st : Stall) : State :=
  s.modTile key fun t => { t with nextAt := s.clk + 1, stall := st }

/-- A bundle past the window of an outstanding far load waits for its reply (R109, R112). A load of a task that has halted
is discarded when it arrives and opens no window (R171). -/
def Tile.windowWait (t : Tile) : Bool :=
  t.far.any fun r => r.replies && !r.drop && decide (r.sup = t.sup) && decide (r.look ≤ r.passed)

/-- The bundles counted after each outstanding far load (R109). -/
def Tile.countPassed (t : Tile) : Tile :=
  { t with far := t.far.map fun r => if r.replies && decide (r.sup = t.sup) then { r with passed := r.passed + 1 } else r }

/-! ### After the operations -/

/-- The end action of R166 at bundle p: the tile and the next bundle. -/
def Tile.endAction (t : Tile) (p : Word) : Nat → Tile × Word
  | 0 => (t, p + 1)
  | n + 1 =>
    let k := t.depth - 1
    let e := t.loop k
    if t.depth = 0 || decide (e.stop.setWidth 32 ≠ p) then (t, p + 1)
    else if 1 < e.count.toNat then
      (t.setLoop k { e with count := e.count - 1, index := e.index + 1 }, e.start.setWidth 32)
    else Tile.endAction { t with depth := k } p n

/-- A tile stops at `cu.halt` (R171): replies outstanding are discarded on arrival, and those held now. -/
def Tile.haltNow (t : Tile) (clk : Nat) : Tile :=
  { t with
    dead := t.sup, run := if t.isSpawn then .idle else .halted, arrivedAt := clk, socks := Vector.replicate 13 {}
    far := (t.far.filter fun r => match r.phase with | .held _ _ _ => false | _ => true).map fun r =>
      if r.replies then { r with drop := true } else r }

/-- The escapement notes a tile that has become ARRIVED, HALTED or IDLE, or a delivery that has landed (R174). -/
def State.escNote (s : State) (l : Option Nat) : State :=
  match l with
  | none => s
  | some id => s.modLaunch id fun l => { l with escT := max l.escT s.clk }

/-- The sequencer after the bundle's operations: next bundle, idle cycles, safe-point count (R38, R103, R157, R166). -/
def Tile.advance (t : Tile) (clk : Nat) (p : Word) (b : Bundle) (e : Eff) : Tile :=
  let gap := b.gap.toNat
  let jump := match e.next with | some (_, r) => r | none => false
  let r := match e.next with
    | some (q, _) => (t, q)
    | none => t.endAction p 7
  let at_ := max (clk + 1 + (if jump then max gap 1 else gap)) e.notBefore
  let t := r.1
  { t with
    pc := r.2
    idleEnd := clk + 1 + gap
    intFrom := clk + 1
    nextAt := at_
    gapEnd := at_
    kBase := if t.sup then t.kBase else clk + 1
    freshAt := if jump then clk + 1 else t.freshAt
    spcnt := if t.sup then t.spcnt else if b.s then 0 else t.spcnt + 1
    switchAt := if t.sup then t.switchAt else if b.s then some (.safePoint (p.setWidth 12)) else none
    stall := .none }

/-- Requests of a tile's spawns that no bundle of its mode waits for any more are given up: a target that had accepted one
is free again (R310). -/
def State.dropSpawns (s : State) (key : Nat) : State :=
  let sup := (s.tile key).sup
  let old := (s.tile key).spawns.filter fun r => decide (r.sup = sup)
  let s := old.foldl (fun s r =>
    if r.answer = some true then s.modTile r.target fun u =>
      { u with spawnIn := match u.spawnIn with
                 | some q => if q.answer.isNone then none else some q
                 | none => none }
    else s) s
  s.modTile key fun t => { t with spawns := t.spawns.filter fun r => decide (r.sup ≠ sup) }

/-- The end of an issue (R103, R171, R363). -/
def State.endIssue (s : State) (key : Nat) (p : Word) (b : Bundle) (e : Eff) : State :=
  let s := s.modTile key fun t =>
    let t := (t.advance s.clk p b e).countEvent 2
    let t := match e.loopReg with | some (n, v) => t.writeLoopReg n v | none => t
    { t with cir := t.cir &&& ~~~e.cirClear }
  match e.stop with
  | .none => s
  | .halt => ((s.dropSpawns key).modTile key fun t => t.haltNow s.clk).escNote (s.tile key).launch
  | .ret => s.modTile key fun t => t.leaveSup s.clk

/-! ### The bundle -/

/-- The tile is able to issue in this cycle: it runs, and a crown tile of the complex that HOCTL has stopped does not
(R62, R171, R364, R522). -/
def State.canIssue (s : State) (key : Nat) : Bool :=
  (s.tile key).mayIssue && decide ((s.tile key).nextAt ≤ s.clk) &&
    !(isCrown key && decide (s.fw.phase = .switched) && decide (crownComplex key ≠ s.fw.act))

/-- The moves of a bundle that take place (R91). -/
def Tile.takingMoves (t : Tile) (b : Bundle) : List (Nat × Slot) := (bundleMoves b).filter fun m => t.taking m.2.grd

/-- A taking move reads the Dial (R25). -/
def readsDial (ms : List (Nat × Slot)) : Bool := ms.any fun m => decide (m.2.src.toNat = 0x110)

/-- The sockets whose `.r` taking moves read. -/
def readSocks (crown : Bool) (ms : List (Nat × Slot)) : List Nat :=
  ms.foldl (fun l m => match srcOf crown m.2.src.toNat with | .result k => insertNat k l | _ => l) []

/-- The first taking read of an empty data-locked port (R106). -/
def Tile.firstEmpty (t : Tile) (crown : Bool) (ms : List (Nat × Slot)) : Option Trap :=
  (ms.find? fun m => t.emptyRead (srcOf crown m.2.src.toNat)).map fun m =>
    { cause := .resultEmpty, info := m.1 + 256 * m.2.src.toNat }

/-- The triggers among moves with their values: slot, code, value. -/
def triggersOf (crown : Bool) (vals : List (Nat × Nat × Wide)) : List (Nat × Nat × Wide) :=
  vals.filter fun x => match dstOf crown x.2.1 with | .trig _ => true | _ => false

/-- A trigger finds its socket's eight entries taken (R39, R107). -/
def Tile.full (t : Tile) (trigs : List (Nat × Nat × Wide)) : Bool :=
  trigs.any fun x => hasResult x.2.1 && decide (8 ≤ (t.sock (sockOf x.2.1)).size)

/-- The tile with the moves into registers, guards and latches made (R17, R19, R102). -/
def Tile.makeMoves (t : Tile) (crown : Bool) (vals : List (Nat × Nat × Wide)) : Tile :=
  vals.foldl (fun t x => t.writeDst (dstOf crown x.2.1) x.2.2) t

/-- The operations of the triggers in slot order (R114). -/
def runOps (op : Nat → OpFn) (key : Nat) (pre lat : Tile) (p : Word) (gap : Nat) (s : State)
    (trigs : List (Nat × Nat × Wide)) : Run :=
  trigs.foldl (fun r x =>
    r.add (runOp op { key, clk := s.clk, p, gap, slot := x.1, code := x.2.1, v := x.2.2, pre, lat } r.s)) { s }

/-- What the operations came to: waits come before traps, except those that only follow when nothing traps. -/
def State.conclude (s : State) (key : Nat) (p : Word) (b : Bundle) (r : Run) : State :=
  match r.early with
  | some (st, f) => (f s).stallTile key st
  | none =>
    match r.trap with
    | some x => s.takeTrap key x
    | none =>
      match r.late with
      | some (st, f) => (f s).stallTile key st
      | none => r.s.endIssue key p b r.e

/-- A bundle that has passed the checks of order 1 to 4 reads its sources, makes its moves and starts its triggers. -/
def State.perform (s : State) (key : Nat) (op : Nat → OpFn) (b : Bundle) : State :=
  let t := s.tile key
  let crown := isCrown key
  let ms := t.takingMoves b
  if t.windowWait then s.stallTile key .late
  else
    let l := t.launch.bind s.launch?
    let t0 := if readsDial ms then { t with dialSample := s.dialNow } else t
    match t0.readMoves t0 s.clk (l.elim 0 Launch.w) (l.elim 0 Launch.h) (bundleLit b) crown ms with
    | none => s.stallTile key .locked
    | some (vals, t1) =>
      match t.firstEmpty crown ms with
      | some x => s.takeTrap key x
      | none =>
        let t2 := (readSocks crown ms).foldl (fun t k => t.consume k) t1
        let trigs := triggersOf crown vals
        if t2.full trigs then s.stallTile key .locked
        else
          let t3 := (t2.makeMoves crown vals).countPassed
          s.conclude key t.pc b (runOps op key t t3 t.pc b.gap.toNat (s.setTile key t3) trigs)

/-- BUNDLE_ISSUE of a bundle on the tile whose turn it is, with the operations that its triggers start (R102, R114). A
tile that cannot issue in this cycle issues nothing. -/
def State.issueWith (s : State) (op : Nat → OpFn) (b : Bundle) : State :=
  let key := s.cur
  if !s.canIssue key then s
  else match (s.tile key).bundleTrap (isCrown key) b with
    | some x => s.takeTrap key x
    | none => s.perform key op b

/-- The row of one socket operation: the bundle whose only move is its trigger. -/
def State.issueOne (s : State) (code : Nat) (op : OpFn) (m : TrigMove) : State :=
  s.issueWith (fun _ => op) (moveBundle code m)

end Sys2Proof.Machine
end

