-- ==== Sys2Proof/Machine/Copy.lean ====
section
/-! DEFINITION. Statically timed copies (R306–R308, plan entries of R67, readouts of R352), their egress and ingress,
and the egress messages of DUAL launches (R490). -/

namespace Sys2Proof.Machine

/-! ### Egress messages (R490, R491) -/

/-- A tile belongs to a DUAL launch (R488). -/
def State.isDual (s : State) (key : Nat) : Bool :=
  match (s.tile key).launch.bind s.launch? with
  | some l => l.dual
  | none => false

/-- A message that a logical tile sends: in a DUAL launch each tile of the pair keeps it until it is compared. -/
def State.emit (s : State) (key kind : Nat) (words : List Nat) : State :=
  if s.isDual key then
    s.modTile key fun t =>
      { t with egress := t.egress ++ [{ k := t.egressNo, kind, words, since := s.clk }], egressNo := t.egressNo + 1 }
  else s

/-- A tile's egress has no room for another message: the bundle waits (R491). -/
def State.egressFull (s : State) (key : Nat) : Bool := s.isDual key && decide (64 ≤ (s.tile key).egress.length)

/-- The bytes of operand words. -/
def wordsBytes (ws : List Word) : List Nat := ws.flatMap fun w => (toBytes 4 w.toNat).map fun b => b.toNat
/-- Bytes as numbers. -/
def byteNats (bs : List Byte) : List Nat := bs.map fun b => b.toNat

/-! ### Destinations (R67) -/

/-- An integer modulo a positive number, from 0 to the modulus − 1. -/
def imod (a : Int) (n : Nat) : Nat := (a % (n : Int)).toNat

/-- The linear index of the tile at an offset, or none outside the rectangle (R67). -/
def Launch.relTile (l : Launch) (tlin : Nat) (dx dy : Int) (wrap : Bool) : Option Nat :=
  let x : Int := (tlin % l.w : Nat) + dx
  let y : Int := (tlin / l.w : Nat) + dy
  if wrap then some (imod y l.h * l.w + imod x l.w)
  else if 0 ≤ x && x < l.w && 0 ≤ y && y < l.h then some (y.toNat * l.w + x.toNat) else none

/-! ### Reading and starting copies (R307) -/

/-- The group that the copy reads in cycle `clk`, from the local store of `t` as it stands (R307). -/
def CopyReq.readNow (c : CopyReq) (t : Tile) (clk : Nat) : CopyReq :=
  if decide (c.read < c.len) && decide (clk = c.start + c.read / 64) then
    let n := min 64 (c.len - c.read)
    { c with groups := c.groups ++ [(c.read, t.lsTagged (c.src + c.read) n, clk + c.travel)], read := c.read + n }
  else c

/-- A copy of a DUAL launch's tile whose bytes have all been read gives its egress message: the operand words of its trigger, or
its plan entry, which has none, and the bytes copied (R490). -/
def CopyReq.message (c : CopyReq) : List Nat :=
  c.ops ++ c.groups.flatMap fun g => byteNats (g.2.1.map Prod.fst)

/-- The messages of copies that have been read arise in the order of R307; one for which the router has no room waits (R491). A
readout is no message. -/
def State.copyMessages (s : State) (key : Nat) : State :=
  (s.tile key).copies.foldl (fun s c =>
    if c.msg.isNone && decide (c.read = c.len) && decide (c.kind ≠ .readout) && !s.egressFull key then
      let n := (s.tile key).egressNo
      let s := s.emit key 2 c.message
      s.modTile key fun t =>
        if s.isTwin key then { t with copies := t.copies.filter fun d => decide (d.id ≠ c.id) }
        else { t with copies := t.copies.map fun d => if d.id = c.id then { d with msg := some n } else d }
    else s) s

/-- The groups that a tile's copies read at the start of this cycle (R307). -/
def State.readCopies (s : State) (key : Nat) : State :=
  let t := s.tile key
  if t.copies.isEmpty then s
  else
    let s := s.setTile key { t with copies := t.copies.map fun c => c.readNow t s.clk }
    if s.isDual key then s.copyMessages key else s

/-- Marks the words of a landing as pending at a tile whose early-read checker is on (R283). -/
def State.markAt (s : State) (key a n : Nat) : State := s.modTile key fun t => t.mark a n

/-- A copy of `len` bytes is taken into a tile's egress (R307): `pre` is the tile as the trigger's cycle found it. The
twin of a DUAL launch reads its bytes for comparison only. -/
def State.startCopy (s : State) (key : Nat) (l : Launch) (pre : Tile) (kind : CopyKind) (src len destTlin dst : Nat)
    (ops : List Nat := []) : State :=
  let t := s.tile key
  let d := l.tileOf destTlin
  let me := l.tileOf t.tlin
  let twin := decide (me ≠ key)
  let st := max s.clk t.egressFree
  let travel := 6 + hops me d + 38 * dieEdges (tileDie me) (tileDie d)
  let marked := !twin && (s.tile d).erchk
  let c : CopyReq := { id := t.reqNo, kind, start := st, src, len, dstTile := d, dst, travel, marked, ops }
  let c := c.readNow pre s.clk
  let s := s.setTile key { t with
    copies := t.copies ++ [c], reqNo := t.reqNo + 1, egressFree := st + (len + 63) / 64 }
  let s := if marked then s.markAt d dst len else s
  let s := if marked && l.dual then s.markAt (l.twinOf destTlin) dst len else s
  if l.dual then s.copyMessages key else s

/-! ### Landing (R68, R279, R307, R308) -/

/-- The first group of a copy that has reached its destination's ingress. -/
def CopyReq.arrived (c : CopyReq) (clk : Nat) : Option (Nat × List (Byte × Bool)) :=
  match c.groups with
  | (o, bs, at_) :: _ => if at_ ≤ clk then some (o, bs) else none
  | [] => none

/-- The mailbox counter that a push from a side increments at its receiver (R308). -/
def haloMail (side : Nat) : Nat := match side with | 0 => 2 | 1 => 3 | 2 => 0 | _ => 1

/-- A copy may land its next group in this cycle: it has arrived, the ingress is free, neither its bank nor a held
store stands in its way, and in a DUAL launch its message has been compared (R276, R284, R307, R492). -/
def State.copyDue (s : State) (key : Nat) (c : CopyReq) : Bool :=
  match c.arrived s.clk with
  | none => false
  | some (o, bs) =>
    let d := s.tile c.dstTile
    decide (c.kind ≠ .readout) && decide (d.ingressAt ≤ s.clk) && !d.rmwHolds s.clk (c.dst + o) bs.length &&
      !d.storeHeld (c.dst + o) bs.length &&
      !s.isTwin key &&
      (!s.isDual key || (match c.msg with | some k => (s.tile key).compared k | none => false))

/-- COPY_GROUP_LAND (R307): copy `i` of a tile lands its next group; a group that would cross an edge which is down is lost
(R452). -/
def State.copyGroupLand (s : State) (key i : Nat) : State :=
  match (s.tile key).copies.find? fun c => decide (c.id = i) with
  | none => s
  | some c =>
    if !s.copyDue key c then s
    else match c.arrived s.clk with
      | none => s
      | some (o, bs) =>
        let dual := s.isDual key
        let l := (s.tile key).launch.bind s.launch?
        let twin := l.bind fun l => if l.dual then some (l.twinOf (s.tile c.dstTile).tlin) else none
        let lost := s.pathDown (tileDie key) (tileDie c.dstTile)
        let s := if lost then s else s.land c.dstTile (c.dst + o) bs
        let clear (t : Tile) : Tile := if c.marked then t.unmark s.clk (c.dst + o) bs.length else t
        let s := s.modTile c.dstTile fun t => { clear t with ingressAt := s.clk + 1 }
        let s := match twin with | some k => s.modTile k clear | none => s
        let c' := { c with groups := c.groups.drop 1, landed := c.landed + bs.length }
        let last := decide (c'.landed = c.len)
        let s := s.modTile key fun t => { t with
          copies := if last then t.copies.filter fun d => decide (d.id ≠ i)
                    else t.copies.map fun d => if d.id = i then c' else d }
        if !last || lost then s
        else match c.kind with
          | .halo side =>
            let s := s.modTile c.dstTile fun t => t.countMail (haloMail side)
            if dual then (match twin with | some k => s.modTile k fun t => t.countMail (haloMail side) | none => s) else s
          | .send | .plan => s.escNote (s.tile key).launch
          | .readout => s

/-- COPY_GROUP_LAND. -/
def execCopyGroupLand (t i : Nat) (s : State) : Host.Outcome State Fault Refusal := .next (s.copyGroupLand t i)

/-! ### Exchange plans (R65–R67) -/

/-- The entries of plan `n` of a tile's directory; none when the directory has no such plan (R65). Plan 0 is none. -/
def Tile.planEntries (t : Tile) (n : Nat) : Option (List Nat) :=
  if n = 0 then some []
  else
    let count := if lsSize ≤ t.plandir then 0 else bits (t.mem t.plandir 4) 7 0
    if count < n then none
    else
      let d := t.mem (t.plandir + 4 * n) 4
      some ((upTo (bits d 31 19)).map fun i => t.mem (bits d 16 0 + 16 * i) 16)

/-- One plan entry starts at a tile (R67). An entry that R66 would refuse, written after the object was loaded, starts
nothing. -/
def State.startEntry (s : State) (key : Nat) (l : Launch) (pre : Tile) (v : Nat) : State :=
  let dx := sextNat (bits v 105 96) 10
  let dy := sextNat (bits v 121 112) 10
  let soff := bits v 16 0
  let doff := bits v 48 32
  let len := bits v 80 64
  if len = 0 || decide (soff % 4 ≠ 0) || decide (doff % 4 ≠ 0) || decide (len % 4 ≠ 0) ||
      decide (supBase < soff + len) || decide (supBase < doff + len) then s
  else match l.relTile pre.tlin dx dy (bit v 95) with
    | none => s
    | some d => s.startCopy key l pre .plan soff len d doff (byteNats (toBytes 16 v))

end Sys2Proof.Machine
end

