-- ==== Sys2Proof/Machine/Ag.lean ====
section
/-! DEFINITION. The address socket (R192–R203): offsets, post-increments, block-cyclic indices, segment look-ups, tile
ids and far-address words. A is latch `.a`, C latch `.b`, Bv the trigger value. -/

namespace Sys2Proof.Machine

/-- `lea` (R192). -/
def opAgLea : OpFn := fun x s => x.res s 1 (x.a + x.n)
/-- `leas` (R192). -/
def opAgLeas : OpFn := fun x s => x.res s 1 (x.a + x.n <<< (x.b.toNat % 32))

/-- The result A, with latch `ag.a` written at the end of the trigger cycle (R193). -/
def Ctx.stepA (x : Ctx) (s : State) (next : Word) : OpOut :=
  x.ok s fun t => (t.result 4 x.clk 1 false (wideOf x.a)).setLatch 4 0 (wideOf next)

/-- The wrapped sum of `incw` (R194). -/
def incwNext (a b c : Word) : Word :=
  let z : Int := a.toNat + b.toInt
  if c = 0 then BitVec.ofInt 32 z else BitVec.ofInt 32 (z % (c.toNat : Int))

/-- `inc` (R192, R193). -/
def opAgInc : OpFn := fun x s => x.stepA s (x.a + x.n)
/-- `incw` (R194). -/
def opAgIncw : OpFn := fun x s => x.stepA s (incwNext x.a x.n x.b)

/-- The result of `bcyc` (R195). -/
def bcycResult (a b c : Word) : Word :=
  let p := bits c.toNat 30 0
  let blk := a.toNat
  let i := b.toNat
  if blk = 0 || p = 0 then 0xFFFFFFFF
  else if c.getLsbD 31 then BitVec.ofNat 32 (i / blk % p)
  else BitVec.ofNat 32 (i / (blk * p) * blk + i % blk)

/-- `bcyc` (R195). -/
def opAgBcyc : OpFn := fun x s => x.res s 1 (bcycResult x.a x.n x.b)

/-! ### Segment look-up (R199, R200) -/

/-- The virtual address {A[15:0], Bv} (R200). -/
def Ctx.va (x : Ctx) : Nat := bits x.a.toNat 15 0 * 2 ^ 32 + x.n.toNat

/-- The captured entry covers the address (R200). -/
def Seg.covers (g : Seg) (va : Nat) : Bool :=
  g.valid && decide (g.vbase.toNat ≤ va) && decide (va - g.vbase.toNat < g.len.toNat)

/-- The lowest entry that covers the address (R200). -/
def Tile.segHit (t : Tile) (va : Nat) : Option Nat := (upTo 64).find? fun i => (vget {} t.segs i).covers va

/-- The global address through entry `i` (R200). -/
def Tile.segAddr (t : Tile) (i va : Nat) : Nat :=
  ((vget {} t.segs i).gbase.toNat + (va - (vget {} t.segs i).vbase.toNat)) % 2 ^ 52

/-- SEG_MISS (R203). -/
def Ctx.segMiss (x : Ctx) (high : Bool) : OpOut :=
  .trap { cause := .segMiss, info := x.slot + 8 * ofBool high + 65536 * x.va }

/-- `seg` (R200). -/
def opAgSeg : OpFn := fun x s =>
  match x.pre.segHit x.va with
  | none => x.segMiss false
  | some i => x.res s 1 (BitVec.ofNat 32 (x.pre.segAddr i x.va))

/-- `segh`: a far-address word with RAW 0 and MODE 0 (R200, R196). -/
def opAgSegh : OpFn := fun x s =>
  match x.pre.segHit x.va with
  | none => x.segMiss true
  | some i => x.res s 1 (BitVec.ofNat 32 (i * 2 ^ 22 + x.pre.segAddr i x.va / 2 ^ 32))

/-- `segchk` (R200). -/
def opAgSegchk : OpFn := fun x s =>
  x.res s 1 (match x.pre.segHit x.va with
    | none => 0xFFFFFFFF
    | some i => BitVec.ofNat 32 ((vget {} x.pre.segs i).perm.toNat * 64 + i))

/-! ### Tile ids and far-address words (R197, R198, R201, R202) -/

/-- The result of `tid` in a launch: the primary rectangle's tile (R197, R489). -/
def tidOf (l : Option Launch) (v : Word) : Word :=
  match l with
  | none => 0xFFFFFFFF
  | some l =>
    let dx := bits v.toNat 8 0
    let dy := bits v.toNat 24 16
    if l.w ≤ dx || l.h ≤ dy then 0xFFFFFFFF else BitVec.ofNat 32 (tileAt (l.ox + dx) (l.oy + dy))

/-- `tid` (R197). -/
def opAgTid : OpFn := fun x s => x.res s 1 (tidOf (if isCrown x.key then none else x.launch s) x.n)

/-- ADDR_MODE of a mode of 3 (R203). -/
def Ctx.modeTrap (x : Ctx) : OpOut := x.trap .addrMode (2 ^ 32 * 3)

/-- `twin` (R198). -/
def opAgTwin : OpFn := fun x s =>
  let mode := bits x.a.toNat 1 0
  if mode = 3 then x.modeTrap
  else x.res s 1 (BitVec.ofNat 32 (2 ^ 28 + mode * 2 ^ 20 + 0x80000 + bits x.n.toNat 17 15))

/-- The tile-in-cluster number and offset of a within-cluster position (R202, R201). -/
def ilvOf (mode q : Nat) : Nat × Nat :=
  match mode with
  | 0 => (bits q 22 17, bits q 16 0)
  | 1 => (bits q 7 2, bits q 22 8 * 4 + bits q 1 0)
  | _ => (bits q 11 6, bits q 22 12 * 64 + bits q 5 0)

/-- `ilv` (R202). -/
def opAgIlv : OpFn := fun x s =>
  let mode := bits x.a.toNat 1 0
  if mode = 3 then x.modeTrap
  else
    let r := ilvOf mode (bits x.n.toNat 22 0)
    x.res s 1 (BitVec.ofNat 32 (r.1 * 2 ^ 24 + r.2))

/-- `fmode` (R202). -/
def opAgFmode : OpFn := fun x s =>
  let mode := bits x.n.toNat 1 0
  if mode = 3 then x.modeTrap
  else x.res s 1 ((x.a &&& ~~~0x00300000) ||| BitVec.ofNat 32 (mode * 2 ^ 20))

/-! ### The rows -/

/-- AG_LEA. -/
def execAgLea (m : TrigMove) (s : State) : Host.Outcome State Fault Refusal := .next (s.issueOne 0x600 opAgLea m)
/-- AG_LEAS. -/
def execAgLeas (m : TrigMove) (s : State) : Host.Outcome State Fault Refusal := .next (s.issueOne 0x601 opAgLeas m)
/-- AG_SEG. -/
def execAgSeg (m : TrigMove) (s : State) : Host.Outcome State Fault Refusal := .next (s.issueOne 0x602 opAgSeg m)
/-- AG_SEGH. -/
def execAgSegh (m : TrigMove) (s : State) : Host.Outcome State Fault Refusal := .next (s.issueOne 0x603 opAgSegh m)
/-- AG_SEGCHK. -/
def execAgSegchk (m : TrigMove) (s : State) : Host.Outcome State Fault Refusal := .next (s.issueOne 0x604 opAgSegchk m)
/-- AG_TID. -/
def execAgTid (m : TrigMove) (s : State) : Host.Outcome State Fault Refusal := .next (s.issueOne 0x605 opAgTid m)
/-- AG_TWIN. -/
def execAgTwin (m : TrigMove) (s : State) : Host.Outcome State Fault Refusal := .next (s.issueOne 0x606 opAgTwin m)
/-- AG_INC. -/
def execAgInc (m : TrigMove) (s : State) : Host.Outcome State Fault Refusal := .next (s.issueOne 0x607 opAgInc m)
/-- AG_INCW. -/
def execAgIncw (m : TrigMove) (s : State) : Host.Outcome State Fault Refusal := .next (s.issueOne 0x608 opAgIncw m)
/-- AG_BCYC. -/
def execAgBcyc (m : TrigMove) (s : State) : Host.Outcome State Fault Refusal := .next (s.issueOne 0x609 opAgBcyc m)
/-- AG_ILV. -/
def execAgIlv (m : TrigMove) (s : State) : Host.Outcome State Fault Refusal := .next (s.issueOne 0x60A opAgIlv m)
/-- AG_FMODE. -/
def execAgFmode (m : TrigMove) (s : State) : Host.Outcome State Fault Refusal := .next (s.issueOne 0x60B opAgFmode m)

end Sys2Proof.Machine
end

