-- ==== Sys2Proof/Machine/Bu.lean ====
section
/-! DEFINITION. Bring-up, the Dial and power (chapter 22). -/

namespace Sys2Proof.Machine

/-! ### Bring-up (R527–R535) -/

/-- A function is failed: it is ready no longer (R528, R535). -/
def State.failFn (s : State) (fn : Nat) : State :=
  { s with bu := { s.bu with failed := s.bu.failed ||| ((1 : Word) <<< fn), ready := s.bu.ready &&& ~~~((1 : Word) <<< fn) } }

/-- Launches with tiles on a die that hold a rectangle. -/
def State.launchesOn (s : State) (d : Nat) : List (Nat × Launch) :=
  s.launches.filter fun m => m.2.holds && m.2.allTiles.any fun t => decide (tileDie t = d)

/-- The tiles of a die, by id (R9). -/
def dieTiles (d : Nat) : List Nat := (upTo 80).flatMap fun r => (upTo 128).map fun c => d * 16384 + r * 128 + c

/-- A die stops: each of its tiles as under R485, so that its launches are fenced with TILE_FAILED; the die is failed and
REPLACE is set (R535). -/
def State.dieDown (s : State) (d : Nat) : State :=
  (((dieTiles d).foldl (fun s k => s.parityError k) s).failFn d).setReplace 3

/-- MODULE_RESET (R527): every part returns to its reset state. The memories of the host and of the pod's other devices,
the fuses and what the outside will do are not of the module. -/
def State.moduleReset (s : State) : State :=
  { State.reset with
    clk := s.clk, agenda := s.agenda, free := s.free, host := s.host, pod := s.pod, podDown := s.podDown
    fw := { State.reset.fw with arb := s.fw.arb, blocks := resetBlocks s.fw.arb }
    bu := { State.reset.bu with tickAt := s.clk } }

/-- PLL_LOCK_LOSS (R535): of a compute die; of the crown, the module is held in reset. -/
def State.pllLoss (s : State) (d : Nat) : State :=
  if d < 16 then s.dieDown d
  else { s.moduleReset with bu := { s.moduleReset.bu with heldInReset := true } }

/-! ### The Dial (R536–R538) -/

/-- Units of a tick: in each TCLK cycle the Dial's phase advances by 10 × (10^9 + ppb) of them (R534, R537). -/
def tickUnits : Nat := 33000000000

/-- Units that one cycle adds at the rate in force. -/
def Bu.perClk (b : Bu) : Nat := (10 * (1000000000 + b.rate.toInt)).toNat

/-- PPS_OUT rises when the Dial crosses a multiple of 10^9 (R537). -/
def crosses (a b : DWord) : Nat := ofBool (decide (a.toNat / 1000000000 ≠ b.toNat / 1000000000))

/-- DIAL_TICK (R536, R537): one tick, when its time has come; a new rate takes effect. -/
def State.dialTick (s : State) : State :=
  if s.bu.dialAcc < tickUnits then s
  else { s with bu := { s.bu with
    dial := s.bu.dial + 1, dialAcc := s.bu.dialAcc - tickUnits, tickAt := s.clk, rate := s.bu.adj
    ppsOut := s.bu.ppsOut + crosses s.bu.dial (s.bu.dial + 1) } }

/-- PPS_IN_EDGE (R537). -/
def State.ppsIn (s : State) : State := { s with bu := { s.bu with cap := s.dialNow } }

/-- DIAL_ADJ_WRITE (R537): writes outside ±500,000 are ignored. -/
def State.dialAdj (s : State) (v : Word) : State :=
  if decide (v.toInt < -500000) || decide (500000 < v.toInt) then s else { s with bu := { s.bu with adj := v } }

/-- DIAL_STEP (R537, R538): n ticks at one instant, in which the tick of the new value begins; bit 63 set is ignored. The
readers of this cycle all see the value from before it (R536). -/
def State.dialStep (s : State) (n : DWord) : State :=
  if n.getLsbD 63 then s
  else { s with bu := { s.bu with
    dial := s.bu.dial + n, dialWas := some s.dialNow, tickAt := if n = 0 then s.bu.tickAt else s.clk
    ppsOut := s.bu.ppsOut + crosses s.bu.dial (s.bu.dial + n) } }

/-! ### Temperatures (R541) -/

/-- A die's sensor reads a value. -/
def State.setTemp (s : State) (d : Nat) (t : Byte) : State :=
  { s with bu := { s.bu with temps := vset s.bu.temps d t } }

/-- THERMAL_TRIP (R541): vector 1, a fence of every launch on the die, and no placement there. -/
def State.thermalTrip (s : State) (d : Nat) (t : Byte) : State :=
  let s := s.setTemp d t
  if decide (16 ≤ d) || decide (t.toNat < s.bu.ttrip.toNat) || s.bu.tripped.contains d then s
  else
    let s := { s with bu := { s.bu with msix1 := s.bu.msix1 + 1, tripped := insertNat d s.bu.tripped } }
    (s.launchesOn d).foldl (fun s m => s.wish m.1 stFenced { status := stFenced }) s

/-- THERMAL_TRIP_CLEAR (R541): below TTRIP − 10 °C the die may hold tiles again. -/
def State.thermalClear (s : State) (d : Nat) (t : Byte) : State :=
  let s := s.setTemp d t
  if t.toNat + 10 < s.bu.ttrip.toNat then
    { s with bu := { s.bu with tripped := s.bu.tripped.filter (· ≠ d) } }
  else s

/-- OVERTEMP_POWER_OFF (R541): at 115 °C the die's logic power is removed. -/
def State.overtemp (s : State) (d : Nat) (t : Byte) : State :=
  let s := s.setTemp d t
  if decide (16 ≤ d) || decide (t.toNat < 115) || s.bu.unpowered.contains d then s
  else { s with bu := { s.bu with unpowered := insertNat d s.bu.unpowered } }.dieDown d

/-! ### Registers (R542) -/

/-- A write of a register of Table 22-2; none where none stands. -/
def State.buWrite (s : State) (off n v : Nat) : Option State :=
  let put (b : Bu) : Option State := some { s with bu := b }
  let b := s.bu
  match off, n with
  | 0xB0000, 4 => some s
  | 0xB0008, 4 => some s
  | 0xB0100, 8 => some s
  | 0xB0108, 8 => some s
  | 0xB0110, 4 => some (s.dialAdj (BitVec.ofNat 32 v))
  | 0xB0118, 8 => some (s.dialStep (BitVec.ofNat 64 v))
  | 0xB0200, 4 => put { b with budget := BitVec.ofNat 14 v }
  | 0xB0208, 4 => put { b with base := BitVec.ofNat 14 v }
  | 0xB0210, 4 => put { b with tile := BitVec.ofNat 16 v }
  | 0xB0218, 4 => if decide (60 ≤ bits v 7 0) && decide (bits v 7 0 ≤ 110) then put { b with ttrip := BitVec.ofNat 8 v } else some s
  | _, _ => if decide (0xB0300 ≤ off) && decide (off < 0xB0380) && decide (off % 8 = 0) && decide (n = 4) then some s else none

/-- What these registers read. -/
def State.buRead (s : State) (off n : Nat) : Option Nat :=
  let b := s.bu
  match off, n with
  | 0xB0000, 4 => some b.ready.toNat
  | 0xB0008, 4 => some b.failed.toNat
  | 0xB0100, 8 => some s.dialNow.toNat
  | 0xB0108, 8 => some b.cap.toNat
  | 0xB0110, 4 => some b.adj.toNat
  | 0xB0118, 8 => some 0
  | 0xB0200, 4 => some b.budget.toNat
  | 0xB0208, 4 => some b.base.toNat
  | 0xB0210, 4 => some b.tile.toNat
  | 0xB0218, 4 => some b.ttrip.toNat
  | _, _ =>
    if decide (0xB0300 ≤ off) && decide (off < 0xB0380) && decide (off % 8 = 0) && decide (n = 4) then
      some (vget 0 b.temps ((off - 0xB0300) / 8)).toNat
    else none

/-! ### The rows of this chapter -/

/-- MODULE_RESET. -/
def execModuleReset (s : State) : Host.Outcome State Fault Refusal := .next s.moduleReset
/-- PLL_LOCK_LOSS. -/
def execPllLockLoss (d : Nat) (s : State) : Host.Outcome State Fault Refusal := .next (s.pllLoss d)
/-- THERMAL_TRIP. -/
def execThermalTrip (d : Nat) (t : Byte) (s : State) : Host.Outcome State Fault Refusal := .next (s.thermalTrip d t)
/-- THERMAL_TRIP_CLEAR. -/
def execThermalTripClear (d : Nat) (t : Byte) (s : State) : Host.Outcome State Fault Refusal := .next (s.thermalClear d t)
/-- OVERTEMP_POWER_OFF. -/
def execOvertempPowerOff (d : Nat) (t : Byte) (s : State) : Host.Outcome State Fault Refusal := .next (s.overtemp d t)
/-- DIAL_TICK. -/
def execDialTick (s : State) : Host.Outcome State Fault Refusal := .next s.dialTick
/-- PPS_IN_EDGE. -/
def execPpsInEdge (s : State) : Host.Outcome State Fault Refusal := .next s.ppsIn
/-- DIAL_ADJ_WRITE. -/
def execDialAdjWrite (v : Word) (s : State) : Host.Outcome State Fault Refusal := .next (s.dialAdj v)
/-- DIAL_STEP. -/
def execDialStep (n : DWord) (s : State) : Host.Outcome State Fault Refusal := .next (s.dialStep n)

end Sys2Proof.Machine
end

