-- ==== Sys2Proof/Machine/Falcon.lean ====
section
/-! DEFINITION. Verification of Falcon-1024 (R13, R370, R511): specification 1.2, algorithms 3, 16 and 18, with signatures in
padded form. Which failures are `malformed`: a key or a signature that cannot be decoded. -/

namespace Sys2Proof.Machine

/-- The modulus. -/
def falconQ : Nat := 12289
/-- The degree. -/
def falconN : Nat := 1024
/-- The bound on the squared norm of a signature. -/
def falconBound : Int := 70265242

/-- The bits of bytes, the most significant first. -/
def bitsOf (bs : List Byte) : List Bool := bs.flatMap fun b => (List.range 8).map fun i => b.getLsbD (7 - i)

/-- The number of bits, the most significant first. -/
def numOf (l : List Bool) : Nat := l.foldl (fun n b => 2 * n + if b then 1 else 0) 0

/-- `n` coefficients of 14 bits below the modulus: none where one is not. -/
def keyCoefs : Nat → List Bool → Option (List Int)
  | 0, _ => some []
  | n + 1, l =>
    let c := numOf (l.take 14)
    if falconQ ≤ c then none else (keyCoefs n (l.drop 14)).map fun r => (c : Int) :: r

/-- The polynomial of a public key of 1,793 bytes. -/
def falconKey (key : List Byte) : Option (List Int) :=
  if key.length = 1793 ∧ key.headD 0 = 0x0A then keyCoefs falconN (bitsOf (key.drop 1)) else none

/-- A count in unary: how many zeros stand before the next one, and what follows it. -/
def unary : List Bool → Nat → Option (Nat × List Bool)
  | [], _ => none
  | true :: l, k => some (k, l)
  | false :: l, k => unary l (k + 1)

/-- `n` coefficients of a compressed polynomial (algorithm 18): sign, seven bits, the rest in unary; a zero has no sign, and
what is left over is zero. -/
def decompress : Nat → List Bool → Option (List Int)
  | 0, l => if l.any id then none else some []
  | n + 1, l =>
    match l with
    | [] => none
    | s :: l =>
      if (l.drop 6).isEmpty then none
      else
        match unary (l.drop 7) 0 with
        | none => none
        | some (k, r) =>
          let v := numOf (l.take 7) + 128 * k
          if s && v = 0 then none else (decompress n r).map fun t => (if s then -(v : Int) else (v : Int)) :: t

/-- The salt and the polynomial of a signature in padded form: 1,280 bytes. -/
def falconSig (sig : List Byte) : Option (List Byte × List Int) :=
  if sig.length = 1280 ∧ sig.headD 0 = 0x3A then
    (decompress falconN (bitsOf (sig.drop 41))).map fun s => ((sig.drop 1).take 40, s)
  else none

/-- Samples of 16 bits, the first byte the more significant, that are below five times the modulus. -/
def samples : List Byte → List Nat
  | a :: b :: l =>
    let t := 256 * a.toNat + b.toNat
    if t < 5 * falconQ then t % falconQ :: samples l else samples l
  | _ => []

/-- Coefficients squeezed from the sponge until there are enough of them; 1,024 blocks are more than enough. -/
def squeezeCoefs (a : List DWord) : Nat → List Nat → List Nat
  | 0, acc => acc
  | fuel + 1, acc =>
    if falconN ≤ acc.length then acc else squeezeCoefs (keccakF a) fuel (acc ++ samples (kBlock a))

/-- The point to which a salt and a message hash (algorithm 3). -/
def hashToPoint (m : List Byte) : List Int :=
  ((squeezeCoefs (kPad (m.foldl kAbsorb (kZero, 0))) 1024 []).take falconN).map Int.ofNat

/-- A polynomial times x modulo x^n + 1. -/
def timesX (p : List Int) : List Int := -(p.getLastD 0) :: p.dropLast

/-- The product of two polynomials modulo x^n + 1. -/
def polyMul (a b : List Int) : List Int :=
  (a.foldl (fun (s : List Int × List Int) c => (List.zipWith (fun x y => x + c * y) s.1 s.2, timesX s.2))
    (b.map fun _ => 0, b)).1

/-- The representative of a coefficient nearest to zero. -/
def centred (c : Int) : Int :=
  let r := c % (falconQ : Int)
  if r ≤ 6144 then r else r - falconQ

/-- The sum of squares. -/
def sumSquares (l : List Int) : Int := l.foldl (fun n c => n + c * c) 0

/-- The verdict on a public key, a signature and a message (algorithm 16): 0 valid, 1 invalid, 2 malformed (R370). -/
def falconVerify (key sig msg : List Byte) : BitVec 2 :=
  match falconKey key, falconSig sig with
  | some h, some (salt, s2) =>
    let s1 := List.zipWith (fun c p => centred (c - p)) (hashToPoint (salt ++ msg)) (polyMul s2 h)
    if sumSquares s1 + sumSquares s2 ≤ falconBound then 0 else 1
  | _, _ => 2

end Sys2Proof.Machine
end

