-- ==== Sys2Proof/Machine/Code.lean ====
section
/-! DEFINITION. Code objects: the checks and adjustments of a load (R130, R131, R133, R134) and of exchange plans
(R66). -/

namespace Sys2Proof.Machine

/-- A little-endian number in a file. -/
def fileNum (f : List Byte) (a n : Nat) : Nat := ofBytes ((f.drop a).take n)

/-- Bytes of a file from `a` on replaced. -/
def filePut (f : List Byte) (a : Nat) (bs : List Byte) : List Byte := f.take a ++ bs ++ f.drop (a + bs.length)

/-- How a load ends (R444). -/
inductive LoadResult where
  | object (image : List Byte) (entry : Nat) (segt fmtt plandir : Word) (safe : List SafePoint)
    (tables : ObjTables)
  | imageInvalid
  | planInvalid
  deriving DecidableEq, Repr

/-- No value (Table 4-3). -/
def noVal : Nat := 0xFFFFFFFF

/-- Sections, given as (offset, count, size of an item), lie in their order from byte `from_` of the file on, each at a
multiple of 16 and within the file; an absent one has offset 0 and count 0 (R130, R131). -/
def sectionsOk (f : List Byte) (from_ : Nat) : List (Nat × Nat × Nat) → Bool
  | [] => true
  | (off, cnt, size) :: l =>
    if off = 0 then decide (cnt = 0) && sectionsOk f from_ l
    else decide (cnt ≠ 0) && decide (off % 16 = 0) && decide (from_ ≤ off) && decide (off + cnt * size ≤ f.length) &&
      sectionsOk f (off + cnt * size) l

/-- The launch template's reserved fields are zero (R131, R135). -/
def templateOk (f : List Byte) (off : Nat) : Bool :=
  decide (off = 0) || (decide (fileNum f (off + 6) 2 = 0) && decide (fileNum f (off + 8) 8 < 2 ^ 42) &&
    decide (fileNum f (off + 40) 8 = 0))

/-- The header of an object keeps Table 4-3 and its sections lie within the file (R130, R131). -/
def headerOk (f : List Byte) : Bool :=
  let w := fun a => fileNum f a 4
  decide (96 ≤ f.length) && decide (w 0 = 0x4F4C4541) && decide (w 4 = 0x00010000) && decide (w 8 < 4) &&
    decide (w 12 < 4096) && decide (w 16 % 32 = 0) && decide (w 16 ≤ supBase) && decide (96 + w 16 ≤ f.length) &&
    sectionsOk f (96 + w 16) [(w 32, w 36, 16), (w 40, w 44, 8), (w 48, w 52, 32), (w 56, w 60, 32),
      (w 64, ofBool (decide (w 64 ≠ 0)), 48)] && templateOk f (w 64) &&
    (upTo 28).all (fun i => decide (fileNum f (68 + i) 1 = 0))

/-- Safe points of an object, before adjustment. -/
def safeRows (f : List Byte) : List (Nat × Nat × Nat × Nat) :=
  (upTo (fileNum f 36 4)).map fun i =>
    let a := fileNum f 32 4 + 16 * i
    (fileNum f a 2, fileNum f (a + 2) 2, fileNum f (a + 4) 4, fileNum f (a + 8) 8)

/-- The symbols of a section of imports or exports: name and number. -/
def symbolRows (f : List Byte) (off cnt : Nat) : List (List Byte × Nat) :=
  (upTo cnt).map fun i => ((f.drop (off + 32 * i)).take 24, fileNum f (off + 32 * i + 24) 4)

/-- Strictly rising numbers. -/
def rising : List Nat → Bool
  | a :: b :: l => decide (a < b) && rising (b :: l)
  | _ => true

/-- The plan directory: its words, as (entry count, entry address), where it lies in the image (R66, R127). -/
def planWords (image : List Byte) (base pd : Nat) : List Nat :=
  (upTo (bits (fileNum image (pd - base) 4) 7 0)).map fun i => fileNum image (pd - base + 4 + 4 * i) 4

/-- A range of local-store addresses lies in the loaded image. -/
def inImage (image : List Byte) (base a n : Nat) : Bool := decide (base ≤ a) && decide (a + n ≤ base + image.length)

/-- A plan entry keeps Table 2-3 (R66). -/
def planEntryOk (v : Nat) : Bool :=
  let soff := bits v 16 0
  let doff := bits v 48 32
  let len := bits v 80 64
  decide (bits v 127 122 = 0) && decide (bits v 111 106 = 0) && decide (bits v 94 81 = 0) && decide (bits v 63 49 = 0) &&
    decide (bits v 31 17 = 0) && decide (soff % 4 = 0) && decide (doff % 4 = 0) && decide (len ≠ 0) &&
    decide (len % 4 = 0) && decide (soff + len ≤ supBase) && decide (doff + len ≤ supBase)

/-- The directory at an address and all its plans pass R66, in an image loaded at a base. -/
def plansOk (image : List Byte) (base pd : Nat) : Bool :=
  decide (pd = noVal) ||
  (decide (pd % 4 = 0) && inImage image base pd 4 && decide (fileNum image (pd - base) 4 < 256) &&
    inImage image base pd (4 + 4 * bits (fileNum image (pd - base) 4) 7 0) &&
    (planWords image base pd).all fun d =>
      let n := bits d 31 19
      let a := bits d 16 0
      decide (n ≠ 0) && decide (bits d 18 17 = 0) && decide (a % 4 = 0) && inImage image base a (16 * n) &&
        (upTo n).all fun i => planEntryOk (fileNum image (a - base + 16 * i) 16))

/-- Addresses of plan entries as offsets in the image, each once. -/
def planOffsets (image : List Byte) (pd : Nat) : List Nat :=
  (planWords image 0 pd).foldl (fun l d => (upTo (bits d 31 19)).foldl (fun l i =>
    let a := bits d 16 0 + 16 * i
    if decide (a + 16 ≤ image.length) then insertNat a l else l) l) []

/-- The directory and plan entries moved by a base; none when a field overflows (R131). -/
def adjustPlans (image : List Byte) (pd b : Nat) : Option (List Byte) :=
  if pd = noVal || decide (image.length < pd + 4) then some image
  else
    let entries := planOffsets image pd
    let n := bits (fileNum image pd 4) 7 0
    let dirs := ((upTo n).map fun i => pd + 4 + 4 * i).filter fun a => decide (a + 4 ≤ image.length)
    let add17 (image : List Byte) (a : Nat) : Option (List Byte) :=
      let w := fileNum image a 4
      if bits w 16 0 + b < 2 ^ 17 then some (filePut image a (toBytes 4 (w + b))) else none
    let step (acc : Option (List Byte)) (a : Nat) : Option (List Byte) := acc.bind fun i => add17 i a
    let im := dirs.foldl step (some image)
    (entries.flatMap fun a => [a, a + 4]).foldl step im

/-- One relocation applied to the image (R134). -/
def relocate (q b : Nat) (image : List Byte) (off kind : Nat) : Option (List Byte) :=
  let at4 (d : Nat) : Option (List Byte) :=
    if decide (off % 4 = 0) && decide (off + 4 ≤ image.length) then
      some (filePut image off (toBytes 4 (fileNum image off 4 + d)))
    else none
  let literal (d : Nat) : Option (List Byte) :=
    if decide (off % 32 ≠ 0) || decide (image.length < off + 32) then none
    else
      let v := fileNum image off 32
      if !bit v 4 then none
      else
        let x := (bits v 3 0 * 2 ^ 28 + bits v 255 228 + d) % 2 ^ 32
        let v := setField (setField v 3 0 (x / 2 ^ 28)) 255 228 x
        some (filePut image off (toBytes 32 v))
  match kind with
  | 1 => literal q
  | 2 => literal b
  | 3 => at4 q
  | 4 => at4 b
  | 5 =>
    if decide (off % 8 = 0) && decide (off + 8 ≤ image.length) then
      some (filePut image off (toBytes 8 (fileNum image off 8 + b)))
    else none
  | 6 =>
    if decide (off % 8 = 0) && decide (off + 8 ≤ image.length) then
      let v := fileNum image off 8
      some (filePut image off (toBytes 8 (setField v 11 0 (bits v 11 0 + q))))
    else none
  | _ => none
where
  /-- Sets a bit field of a number. -/
  setField (x hi lo v : Nat) : Nat := x - bits x hi lo * 2 ^ lo + (v % 2 ^ (hi + 1 - lo)) * 2 ^ lo

/-- A load of an object at base B (R130, R131, R133, R134, R66). -/
def loadObject (f : List Byte) (b : Nat) : LoadResult :=
  let w := fun a => fileNum f a 4
  let q := b / 32
  if !headerOk f then .imageInvalid
  else
    let isize := w 16
    let reloc := bit (w 8) 0
    let pd := w 20
    let segt := w 24
    let fmtt := w 28
    let sps := safeRows f
    let exps := (upTo (w 60)).map fun i => (fileNum f (w 56 + 32 * i + 24) 4, fileNum f (w 56 + 32 * i + 28) 4)
    let imps := (upTo (w 52)).map fun i => fileNum f (w 48 + 32 * i + 28) 4
    let rels := (upTo (w 44)).map fun i =>
      (fileNum f (w 40 + 8 * i) 4, fileNum f (w 40 + 8 * i + 4) 1, fileNum f (w 40 + 8 * i + 5) 3)
    let segBad := segt ≠ noVal && (decide (segt ≠ bits segt 16 5 * 32) || decide (2 ^ 17 ≤ segt + b))
    let fmtBad := fmtt ≠ noVal &&
      (decide (fmtt ≠ bits fmtt 22 20 * 2 ^ 20 + bits fmtt 16 4 * 16) || decide (2 ^ 17 ≤ bits fmtt 16 4 * 16 + b))
    if decide (b % 32 ≠ 0) || (!reloc && decide (b ≠ 0)) || decide (supBase < b + isize) || decide (2944 ≤ w 12 + q) ||
        !rising (sps.map fun r => r.1) || sps.any (fun r => decide (4096 ≤ r.1) || decide (r.2.1 ≠ 0) || decide (2944 ≤ r.1 + q)) ||
        exps.any (fun e => decide (e.2 ≠ 0) || decide (2944 ≤ e.1 + q)) || imps.any (fun i => decide (i ≠ 0)) ||
        segBad || fmtBad || (pd ≠ noVal && decide (supBase ≤ pd + b)) || rels.any (fun r => decide (r.2.2 ≠ 0)) then .imageInvalid
    else
      match adjustPlans ((f.drop 96).take isize) pd b with
      | none => .imageInvalid
      | some im =>
        match rels.foldl (fun acc r => acc.bind fun i => relocate q b i r.1 r.2.1) (some im) with
        | none => .imageInvalid
        | some im =>
          let pd := if pd = noVal then pd else pd + b
          if !plansOk im b pd then .planInvalid
          else .object im (w 12 + q) (BitVec.ofNat 32 (if segt = noVal then segt else segt + b))
            (BitVec.ofNat 32 (if fmtt = noVal then fmtt else fmtt + b)) (BitVec.ofNat 32 pd)
            (sps.map fun r => { index := r.1 + q, xmask := BitVec.ofNat 64 r.2.2.2, vmask := BitVec.ofNat 32 r.2.2.1 })
            { imports := symbolRows f (w 48) (w 52)
              exports := (symbolRows f (w 56) (w 60)).map fun e => (e.1, e.2 + q)
              template := if w 64 = 0 then [] else (f.drop (w 64)).take 48 }

end Sys2Proof.Machine
end

