-- ==== Sys2Proof/Machine/Front.lean ====
section
/-! DEFINITION. The crown front end (chapter 18): rings, the merge unit, packets, and their steps. -/

namespace Sys2Proof.Machine

/-! ### Rings (R420–R424) -/

/-- Ring q. -/
def State.ring (s : State) (q : Nat) : Ring := tabGet {} s.rings q
/-- Ring q replaced. -/
def State.setRing (s : State) (q : Nat) (r : Ring) : State := { s with rings := tabSet s.rings q r }
/-- The address of the slot for sequence number e (R420, R421). -/
def Ring.slotAddr (r : Ring) (e : Nat) : Nat := bits r.base.toNat 51 7 * 128 + (e % 2 ^ r.lgn) * 128
/-- The sequence number of the packet's slot i. -/
def Ring.seqOf (r : Ring) (i : Nat) : Nat := (r.exp.toNat + i) % 2 ^ 32

/-- What reading slots gives: their words, slots not valid, of which the first ones may be known, or a read that is held. -/
inductive SlotRead where
  | words (ws : List Nat)
  | invalid (known : List Nat)
  | held
  deriving DecidableEq, Repr

/-- One slot read: valid when it holds its sequence number (R421). -/
def State.slotWords (s : State) (r : Ring) (i : Nat) : SlotRead × State :=
  match s.crownRead r.owner (r.slotAddr (r.seqOf i)) 128 with
  | (some (0, bs), s') =>
    (if ofBytes (bs.take 4) = r.seqOf i then .words ((upTo 32).map fun j => ofBytes ((bs.drop (4 * j)).take 4))
     else .invalid [], s')
  | (some _, s') => (.invalid [], s')
  | (none, s') => (.held, s')

/-- The slots of the packet at the expectation (R425, R427). -/
def State.packetRead (s : State) (q : Nat) : SlotRead × State :=
  let r := s.ring q
  match s.slotWords r 0 with
  | (.words w0, s') =>
    (upTo (bits (nth 0 w0 1) 9 8)).foldl (fun (acc : SlotRead × State) i => match acc with
      | (.words ws, s) => match s.slotWords r (i + 1) with
        | (.words w, s') => (.words (ws ++ w), s')
        | (.invalid _, s') => (.invalid ws, s')
        | r => r
      | r => r) (.words w0, s')
  | x => x

/-- The words of the packet at the expectation, when all its slots are valid. -/
def State.packetWords (s : State) (q : Nat) : Option (List Nat) :=
  match (s.packetRead q).1 with
  | .words ws => some ws
  | _ => none

/-- The front end has read a ring's expected slots: an access may have been held, or an entry read with poison (R410,
R412). -/
def State.slotsRead (s : State) (q : Nat) : State := (s.packetRead q).2

/-- A packet word. -/
def pw (ws : List Nat) (i : Nat) : Nat := nth 0 ws i
/-- A packet doubleword. -/
def pd2 (ws : List Nat) (i : Nat) : Nat := pw ws i + 2 ^ 32 * pw ws (i + 1)
/-- The completion-record address (Table 18-1). -/
def pktCaddr (ws : List Nat) : Nat := bits (pd2 ws 2) 51 5 * 32
/-- NSLOT. -/
def pktSlots (ws : List Nat) : Nat := bits (pw ws 1) 9 8 + 1
/-- TYPE. -/
def pktType (ws : List Nat) : Nat := bits (pw ws 1) 7 0
/-- CSCOPE. -/
def pktScope (ws : List Nat) : Nat := bits (pw ws 1) 19 16

/-- The numbers of slots a type may have (Table 18-2). -/
def slotsOk (kind n : Nat) : Bool :=
  match kind with
  | 1 => decide (n = 2)
  | 2 | 4 => true
  | 3 | 5 | 6 | 7 | 8 => decide (n = 1)
  | _ => false

/-- The common header is malformed (R427, Table 18-1). -/
def headerBad (ws : List Nat) : Bool :=
  let w := pw ws 1
  let kind := pktType ws
  decide (bits w 31 20 ≠ 0) || decide (bits w 15 11 ≠ 0) || decide (12 ≤ pktScope ws) ||
    (bit w 10 && !(decide (kind = 2) || decide (kind = 4))) || !slotsOk kind (pktSlots ws) ||
    decide (bits (pd2 ws 2) 63 52 ≠ 0) || decide (bits (pd2 ws 2) 4 0 ≠ 0) ||
    decide (pw ws 5 ≠ 0) || decide (pw ws 6 ≠ 0) || decide (pw ws 7 ≠ 0)

/-- The head word is published as a release at HOST scope; one that must wait is published later (R423). -/
def State.publishHead (s : State) (q : Nat) : State :=
  let r := s.ring q
  match s.crownWrite r.owner (bits r.head.toNat 51 2 * 4) (toBytes 4 r.exp.toNat) 2 with
  | (some _, s') => s'.setRing q { s'.ring q with headOwed := false }
  | (none, s') => s'.setRing q { r with headOwed := true }

/-- The packet is consumed: the expectation passes its slots and the head word follows (R421, R423, R426). -/
def State.consume (s : State) (q n : Nat) : State :=
  let r := s.ring q
  ((s.setRing q { r with exp := r.exp + BitVec.ofNat 32 n, presented := false, ready := false, blocked := none }).dropCrownHolds
    r.owner).publishHead q

/-- The packet ends with a status: its record is written and it is consumed; false while the record is held. -/
def State.endPacket (s : State) (q : Nat) (ws : List Nat) (st : Byte) : Bool × State :=
  let r := s.ring q
  match s.writeRecord q r.owner r.exp (pktCaddr ws) (pktType ws) (BitVec.ofNat 32 (pw ws 4)) { status := st } with
  | (true, s') => (true, s'.consume q (pktSlots ws))
  | x => x

/-- PACKET_INVALID. -/
def stPacketInvalid : Byte := 0x33

/-- The packet ends, or stays as in `s0` while its record cannot be written. -/
def State.endOr (s s0 : State) (q : Nat) (ws : List Nat) (st : Byte) : State :=
  match s.endPacket q ws st with
  | (true, s') => s'
  | (false, s') => s0.keepHolds s'

/-- A presented packet of which a slot has become invalid is malformed (R427): it ends with PACKET_INVALID and is consumed,
with its record where its first slot is known, else as one whose CADDR is unusable. -/
def State.endMalformed (s s0 : State) (q : Nat) (known : List Nat) : State :=
  let r := s.ring q
  match known with
  | [] => (s.ringErr q r.exp).consume q r.slots
  | _ =>
    match s.writeRecord q r.owner r.exp (pktCaddr known) (pktType known) (BitVec.ofNat 32 (pw known 4))
        { status := stPacketInvalid } with
    | (true, s') => s'.consume q r.slots
    | (false, s') => s0.keepHolds s'

/-! ### The merge unit (R424, R428–R430) -/

/-- The entries of logical queue k. -/
def State.queue (s : State) (k : Nat) : List DWord := tabGet [] s.queues k

/-- Words of a queue, with those that `enq` has appended and that are not yet visible. -/
def State.queueLength (s : State) (k : Nat) : Nat :=
  (s.queue k).length + (s.enqueued.filter fun e => decide (e.2.1 = k)).length

/-- The descriptor of a presented packet (R429). -/
def descOf (q : Nat) (seq : Word) (ws : List Nat) : DWord :=
  BitVec.ofNat 64 (seq.toNat * 2 ^ 32 + (pktSlots ws - 1) * 2 ^ 24 + pktType ws * 2 ^ 16 + q)

/-- PACKET_PRESENT of one ring (R429): a packet of no known type ends with PACKET_INVALID at once. -/
def State.present (s : State) (q : Nat) : State :=
  let r := s.ring q
  let k := r.queue.toNat
  if 64 ≤ s.queueLength k then s
  else
    match s.packetWords q with
    | none => s.setRing q { r with ready := false }
    | some ws =>
      if decide (pktType ws = 0) || decide (8 < pktType ws) then s.endOr s q ws stPacketInvalid
      else
        { (s.setRing q { r with presented := true, ready := false, slots := pktSlots ws }) with
          queues := tabSet s.queues k (s.queue k ++ [descOf q r.exp ws])
          turns := tabSet s.turns k q }

/-- The rings of a queue that are ready, in the order of the turn: after the last that contributed, then from the lowest
(R428). -/
def State.turnOrder (s : State) (k : Nat) : List Nat :=
  let l := (s.rings.filter fun r => r.2.en && r.2.ready && !r.2.presented && r.2.blocked.isNone &&
    decide (r.2.queue.toNat = k)).map Prod.fst
  match s.turns.lookup k with
  | none => l
  | some last => (l.filter fun q => decide (last < q)) ++ l.filter fun q => decide (q ≤ last)

/-- The merge unit reads a ring's expected slot and serves its queue's turn (R424, R428). -/
def State.ringPoll (s : State) (q : Nat) : State :=
  let r := s.ring q
  let s := if r.headOwed then s.publishHead q else s
  let r := s.ring q
  if !s.feCtrl.getLsbD 0 || !r.en || r.presented || r.blocked.isSome || !s.serves then s
  else
    let s1 := s.slotsRead q
    let s := s1.setRing q { r with ready := (s.packetWords q).isSome }
    (s.turnOrder r.queue.toNat).foldl (fun s q => s.present q) s

/-- A write of a ring's NUDGE word, served (R424): the merge unit reads the ring; while it is off, it will when it is on. -/
def State.nudge (s : State) (q : Nat) : State :=
  if s.feCtrl.getLsbD 0 then s.ringPoll q else { s with fw := { s.fw with nudged := s.fw.nudged.filter (· ≠ q) ++ [q] } }

/-- A write of CRN_FE_CTRL: the merge unit, when it is on, reads the rings that were nudged (R424). -/
def State.feCtrlWrite (s : State) (w : Word) : State :=
  let s := { s with feCtrl := w &&& 3 }
  if w.getLsbD 0 then s.fw.nudged.foldl (fun s q => s.ringPoll q) { s with fw := { s.fw with nudged := [] } } else s

/-- RING_NUDGE (R424): a write to a ring's doorbell. -/
def State.ringNudge (s : State) (q : Nat) : State := s.doorbell q none (s.nudge q)

/-- The slice of the queue that is served is over: it has had its packets or its time, or the queue is empty (R430). -/
def State.sliceEnds (s : State) : Bool :=
  decide (bits s.schQslice.toNat 7 0 ≤ s.servePkts) ||
    decide (s.serveSince + bits s.schQslice.toNat 23 8 * usClk ≤ s.clk) || (s.queue s.serveQueue).isEmpty

/-- QUEUE_SLICE_EXPIRY (R430): at a packet boundary the next queue is served. -/
def State.sliceExpiry (s : State) (k : Nat) : State :=
  if s.serveQueue = k && s.sliceEnds then { s with serveQueue := (k + 1) % 256, servePkts := 0, serveSince := s.clk }
  else s

/-- The queue to be served at a packet boundary: where the slice is over, the next that is not empty, round-robin (R430). -/
def State.rollSlice (s : State) : State :=
  if s.sliceEnds then
    match ((upTo 256).map fun i => (s.serveQueue + 1 + i) % 256).find? fun k => !(s.queue k).isEmpty with
    | none => s
    | some k => { s with serveQueue := k, servePkts := 0, serveSince := s.clk }
  else s

/-- The firmware takes up a ring's presented packet: from the head of the queue it serves, or after its own `qs.deq` took
the descriptor, or while it was blocked for room (R426, R430). -/
def State.taken (s : State) (q : Nat) : Option State :=
  let r := s.ring q
  let k := r.queue.toNat
  let mine (d : DWord) : Bool := decide (bits d.toNat 11 0 = q)
  if !s.serves || !r.presented then none
  else
    match r.blocked with
    | some .room => some s
    | some _ => none
    | none =>
      match s.queue k with
      | d :: ds =>
        if mine d then
          let s := s.rollSlice
          if s.serveQueue = k then some { s with queues := tabSet s.queues k ds, servePkts := s.servePkts + 1 } else none
        else if ds.any mine then none
        else some s
      | [] => some s

/-- The firmware takes a presented packet of a type. -/
def State.takePacket (s : State) (q kind : Nat) : Option (List Nat × State) :=
  match s.taken q, s.packetWords q with
  | some s', some ws => if pktType ws = kind then some (ws, s') else none
  | _, _ => none

/-- The step of a packet that does not begin: the firmware may have read its slots, or found one of them invalid (R427). -/
def State.notTaken (s : State) (q : Nat) : State :=
  match s.taken q, s.packetRead q with
  | some s', (.invalid known, _) => s'.endMalformed s q known
  | some _, (_, s') => s.keepHolds s'
  | none, _ => if s.serves && (s.ring q).presented then s.keepHolds (s.slotsRead q) else s

/-- The step of a packet that blocks its ring and cannot go on: so too. -/
def State.notReady (s : State) (q : Nat) : State :=
  match s.packetRead q with
  | (.invalid known, _) => if s.serves then s.endMalformed s q known else s
  | (_, s') => if s.serves then s.keepHolds s' else s

/-- A queue whose head packet blocks its ring yields its slice at once (R430). -/
def State.yieldIfBlocked (s : State) (q : Nat) : State :=
  if (s.ring q).blocked.isSome && decide (s.serveQueue = (s.ring q).queue.toNat) then
    { s with serveQueue := (s.serveQueue + 1) % 256, servePkts := 0, serveSince := s.clk }
  else s

/-! ### Writes and signals (R432–R434) -/

/-- The data bytes of a packet from word `i` on, skipping sequence numbers (R433). -/
def pktData (ws : List Nat) (i n : Nat) : List Byte :=
  (((upTo (ws.length - i)).filter fun j => decide ((i + j) % 32 ≠ 0)).flatMap fun j => toBytes 4 (pw ws (i + j))).take n

/-- Greatest LEN of a WRITE of a number of slots (Table 18-5). -/
def writeMax (slots : Nat) : Nat := 80 + 124 * (slots - 1)

/-- The length is usable (R433). -/
def lenOk (n max : Nat) : Bool := decide (n ≠ 0) && decide (n % 4 = 0) && decide (n ≤ max)

/-- The launch that MAIL names: the latest accepted of the owner and handle that has not ended (R434). -/
def State.mailTarget (s : State) (owner : BitVec 16) (handle : Word) : Option Launch :=
  (s.launches.reverse.find? fun m => decide (m.2.owner = owner) && decide (m.2.handle = handle) &&
    decide (m.2.state ≠ .ended)).map Prod.snd

/-- The tiles in which mailbox data for a `tlin` lands. -/
def Launch.mailTiles (l : Launch) (tlin : Nat) : List Nat := l.tileOf tlin :: if l.dual then [l.twinOf tlin] else []

/-- MAIL_DELIVERY (R434, R84, R85): status and state; no status while the delivery waits (R276, R284). -/
def State.mailWrite (s : State) (owner : BitVec 16) (ws : List Nat) (n : Nat) (bs : List Byte) : Option Byte × State :=
  let doff := bits (pw ws 9) 16 0
  let ctr := bits (pw ws 9) 19 18
  if decide (doff % 4 ≠ 0) || decide (supBase < doff + n) then (some stPacketInvalid, s)
  else
    match s.mailTarget owner (BitVec.ofNat 32 (pw ws 11)) with
    | none => (some stNoTarget, s)
    | some l =>
      let m : HeldMail := { tlin := pw ws 8, doff, ctr, data := bs }
      if decide (l.w * l.h ≤ pw ws 8) then (some stPacketInvalid, s)
      else
        match s.fenceReason l.id with
        | some r => (some r, s)
        | none =>
          match l.state with
          | .running =>
            if (l.mailTiles m.tlin).all fun k => s.landFree k doff n then (some stOK, s.mail l m) else (none, s)
          | .swapping | .swapped =>
            if 256 < l.mailWords + n / 4 then (some 0x32, s)
            else (some stOK, s.modLaunch l.id fun l => { l with mail := l.mail ++ [m], mailWords := l.mailWords + n / 4 })
          | _ => (some stNoTarget, s)

/-- The write part of a packet: a status and the state, or none while a granule is held. -/
def State.writePart (s : State) (q : Nat) (ws : List Nat) (from_ max : Nat) : Option Byte × State :=
  let r := s.ring q
  let n := pw ws 10
  let mail := bit (pw ws 1) 10
  if !lenOk n max || (!mail && (decide (pd2 ws 8 % 4 ≠ 0) || decide (pw ws 11 ≠ 0))) then (some stPacketInvalid, s)
  else if mail then s.mailWrite r.owner ws n (pktData ws from_ n)
  else s.crownWrite r.owner (pd2 ws 8) (pktData ws from_ n) 9

/-- A signal's shape: address, size and range (R433). -/
def signalOk (a sz : Nat) : Bool :=
  decide (sz < 4) && decide (a % (if bit sz 0 then 8 else 4) = 0) &&
    (!bit sz 1 || match region a with | .paged | .bank | .reduce => true | _ => false)

/-- The signal part: a write or an add of 4 or 8 bytes. -/
def State.signalPart (s : State) (q a v sz : Nat) : Option Byte × State :=
  let r := s.ring q
  let n := if bit sz 0 then 8 else 4
  let op : AccOp := if bit sz 1 then .atomic (if n = 8 then .add64 else .red 0) (toBytes n v) else .write (clean (toBytes n v))
  match s.access { addr := a, n, op, issuer := r.owner, target := r.owner, crown := true } with
  | (.done st _, s') => (some st, s')
  | (_, s') => (none, s.keepHolds s')

/-- WRITE_PACKET (R433). -/
def State.writePacket (s : State) (q : Nat) : State :=
  match s.takePacket q 2 with
  | none => s.notTaken q
  | some (ws, s1) =>
    if headerBad ws then s1.endOr s q ws stPacketInvalid
    else
      match s1.writePart q ws 12 (writeMax (pktSlots ws)) with
      | (none, s2) => s.keepHolds s2
      | (some st, s2) => s2.endOr s q ws st

/-- SIGNAL_PACKET (R433). -/
def State.signalPacket (s : State) (q : Nat) : State :=
  match s.takePacket q 3 with
  | none => s.notTaken q
  | some (ws, s1) =>
    if headerBad ws || !signalOk (pd2 ws 8) (pw ws 12) then s1.endOr s q ws stPacketInvalid
    else
      match s1.signalPart q (pd2 ws 8) (pd2 ws 10) (pw ws 12) with
      | (none, s2) => s.keepHolds s2
      | (some st, s2) => s2.endOr s q ws st

/-- WRITE_SIGNAL_PACKET (R433): the write, then the signal ordered after it. -/
def State.writeSignalPacket (s : State) (q : Nat) : State :=
  match s.takePacket q 4 with
  | none => s.notTaken q
  | some (ws, s1) =>
    let res := decide (pw ws 17 ≠ 0) || decide (pw ws 18 ≠ 0) || decide (pw ws 19 ≠ 0)
    if headerBad ws || res || !signalOk (pd2 ws 12) (pw ws 16) then s1.endOr s q ws stPacketInvalid
    else
      match s1.writePart q ws 20 (writeMax (pktSlots ws) - 32) with
      | (none, s2) => s.keepHolds s2
      | (some 0, s2) =>
        match s2.signalPart q (pd2 ws 12) (pd2 ws 14) (pw ws 16) with
        | (none, s3) => s.keepHolds s3
        | (some st, s3) => s3.endOr s q ws st
      | (some st, s2) => s2.endOr s q ws st

/-! ### Waits and fences (R435) -/

/-- WAIT_TIMEOUT. -/
def stWaitTimeout : Byte := 0x34

/-- The timeout of a WAIT that began in cycle `since` has passed (R435). -/
def State.waitOver (s : State) (ws : List Nat) (since : Nat) : Bool :=
  decide (pw ws 13 ≠ 0) && decide (since + pw ws 13 * usClk ≤ s.clk)

/-- WAIT_POLL (R435): the word is read; a satisfied condition, or a status other than OK, ends the packet, and so does the
timeout once it has passed. -/
def State.waitPoll (s : State) (q : Nat) : State :=
  let r := s.ring q
  match r.blocked, s.packetWords q with
  | some (.wait since met), some ws =>
    if !s.serves then s
    else
      let n := if bit (pw ws 12) 3 then 8 else 4
      let got : Option Byte × State := match met with
        | some st => (some st, s)
        | none => if s.waitOver ws since then (some stWaitTimeout, s) else match s.crownRead r.owner (pd2 ws 8) n with
          | (some (0, bs), s') =>
            (if condHolds (8 * n) (bits (pw ws 12) 2 0) (ofBytes bs) (pd2 ws 10 % 2 ^ (8 * n)) then some stOK else none, s')
          | (some (st, _), s') => (some st, s')
          | (none, s') => (none, s')
      match got with
      | (none, s') => s'
      | (some st, s') => s'.endOr (s'.setRing q { r with blocked := some (.wait since (some st)) }) q ws st
  | some (.wait _ _), none => s.notReady q
  | _, _ => s

/-- WAIT_PACKET (R435): the packet begins to wait, and the word is read at once. -/
def State.waitPacket (s : State) (q : Nat) : State :=
  match s.takePacket q 5 with
  | none => s.notTaken q
  | some (ws, s1) =>
    if headerBad ws || decide (pd2 ws 8 % 8 ≠ 0) || decide (bits (pw ws 12) 2 0 = 7) then s1.endOr s q ws stPacketInvalid
    else ((s1.setRing q { s1.ring q with blocked := some (.wait s.clk none) }).waitPoll q).yieldIfBlocked q

/-- WAIT_TIMEOUT (R435). -/
def State.waitTimeout (s : State) (q : Nat) : State :=
  let r := s.ring q
  match r.blocked, s.packetWords q with
  | some (.wait since none), some ws =>
    if !s.serves || !s.waitOver ws since then s
    else s.endOr (s.setRing q { r with blocked := some (.wait since (some stWaitTimeout)) }) q ws stWaitTimeout
  | some (.wait _ none), none => s.notReady q
  | _, _ => s

/-- Every earlier packet of the ring has its record: of earlier packets only launches can lack one, those of a LAUNCH packet
each its own (R435, R445). -/
def State.fenceMet (s : State) (q : Nat) : Bool :=
  s.launches.all fun m => decide (m.2.ring ≠ q) || m.2.table || (decide (m.2.state = .ended) && !m.2.recordOwed)

/-- FENCE_PACKET_DONE (R435). -/
def State.fencePacketDone (s : State) (q : Nat) : State :=
  match (s.ring q).blocked, s.packetWords q with
  | some (.fence _), some ws => if s.serves && s.fenceMet q then s.endOr s q ws stOK else s
  | some (.fence _), none => s.notReady q
  | _, _ => s

/-- FENCE_PACKET (R435). -/
def State.fencePacket (s : State) (q : Nat) : State :=
  match s.takePacket q 7 with
  | none => s.notTaken q
  | some (ws, s1) =>
    if headerBad ws then s1.endOr s q ws stPacketInvalid
    else ((s1.setRing q { s1.ring q with blocked := some (.fence false) }).fencePacketDone q).yieldIfBlocked q

/-! ### Code objects (R444) -/

/-- The object of an owner and handle. -/
def State.object? (s : State) (owner : BitVec 16) (h : Nat) : Option CodeObj :=
  s.objects.find? fun o => decide (o.owner = owner) && decide (o.handle = h)

/-- LOADCODE_PACKET (R444): bits [31:16] of the word that holds the handle are not looked at. -/
def State.loadcodePacket (s : State) (q : Nat) : State :=
  match s.takePacket q 6 with
  | none => s.notTaken q
  | some (ws, s1) =>
    let r := s1.ring q
    let len := pw ws 10
    let h := bits (pw ws 11) 15 0
    let others := s1.objects.filter fun o => !(decide (o.owner = r.owner) && decide (o.handle = h))
    let busy := s1.launches.any fun m => decide (m.2.owner = r.owner) && decide (m.2.code.handle = h) &&
      decide (m.2.state ≠ .ended)
    if headerBad ws || decide (1024 ≤ h) then s1.endOr s q ws stPacketInvalid
    else if busy then s1.endOr s q ws 0x35
    else if len = 0 then ({ s1 with objects := others } : State).endOr s q ws stOK
    else
      match s1.crownRead r.owner (pd2 ws 8) len with
      | (none, s2) => s.keepHolds s2
      | (some (0, f), s1) =>
        if bit (fileNum f 8 4) 1 then s1.endOr s q ws 0x30
        else
          match loadObject f (pw ws 12) with
          | .imageInvalid => s1.endOr s q ws 0x30
          | .planInvalid => s1.endOr s q ws 0x31
          | .object image entry segt fmtt plandir safe tables =>
            let o : CodeObj := { owner := r.owner, handle := h, base := pw ws 12, entry := BitVec.ofNat 12 entry
                                 image, segt, fmtt, plandir, safe, tables }
            ({ s1 with objects := others ++ [o] } : State).endOr s q ws stOK
      | (some (st, _), s1) => s1.endOr s q ws st

/-! ### Launches (R436, R437, R445, R446) -/

/-- Launches in the pending set (R426, R443). -/
def State.pending (s : State) : Nat := (s.launches.filter fun m => m.2.waits).length

/-- Dependence i of a header: word 33 + 4i on (Table 18-7). -/
def depOf (ws : List Nat) (i : Nat) : Nat × Dep :=
  let b := 33 + 4 * i
  (bits (pw ws (b + 1)) 31 30,
    { addr := BitVec.ofNat 52 (pw ws b + bits (pw ws (b + 1)) 19 0 * 2 ^ 32)
      strict := decide (bits (pw ws (b + 1)) 31 30 = 1), handle := BitVec.ofNat 32 (pw ws (b + 2)) })

/-- Reserved fields of the launch header, and a dependence of KIND 3 (Tables 18-6, 18-7). -/
def launchReserved (ws : List Nat) : Bool :=
  decide (bits (pw ws 8) 31 19 ≠ 0) || decide (bits (pw ws 9) 31 25 ≠ 0) || decide (bits (pw ws 9) 15 10 ≠ 0) ||
  decide (bits (pw ws 10) 15 9 ≠ 0) || decide (bits (pw ws 11) 31 3 ≠ 0) || decide (pw ws 27 ≠ 0) ||
  decide (pw ws 30 ≠ 0) || decide (pw ws 31 ≠ 0) ||
  (upTo 15).any (fun i => decide (pw ws (49 + i) ≠ 0)) ||
  (upTo 4).any fun i =>
    let b := 33 + 4 * i
    decide (bits (pw ws b) 4 0 ≠ 0) || decide (bits (pw ws (b + 1)) 29 20 ≠ 0) || decide (pw ws (b + 3) ≠ 0) ||
      decide (bits (pw ws (b + 1)) 31 30 = 3)

/-- The header alone is invalid (step 1 of R437). -/
def launchHeaderBad (ws : List Nat) : Bool :=
  let h := bits (pw ws 9) 24 16
  let w := bits (pw ws 9) 9 0
  let widf := pd2 ws 16
  let counts := (upTo 6).map fun i => pw ws (18 + i)
  let segp := pd2 ws 28
  let segt := pw ws 24
  let fmtt := pw ws 25
  let pd := pw ws 26
  launchReserved ws || decide (w = 0) || decide (512 < w) || decide (h = 0) || decide (320 < h) ||
  decide (h ≤ bits (pw ws 10) 8 0) || decide (bits (pw ws 10) 31 16 = 0) ||
  decide (2 ^ 42 ≤ widf) || decide (64 < posOf widf 6) ||
  (upTo 6).any (fun i => decide (widthOf widf i ≠ 0) && decide (2 ^ widthOf widf i < nth 0 counts i)) ||
  decide (2 ^ 64 - 1 < itemsOf widf counts) ||
  (decide (segp ≠ 0) && (decide (segt = noVal) || decide (segp % 64 ≠ 0))) ||
  (decide (segt ≠ noVal) && (decide (segt ≠ bits segt 16 5 * 32) || decide (supBase < segt + 2048))) ||
  (decide (fmtt ≠ noVal) && decide (fmtt ≠ bits fmtt 22 20 * 2 ^ 20 + bits fmtt 16 4 * 16)) ||
  (decide (pd ≠ noVal) && (decide (pd % 4 ≠ 0) || decide (supBase ≤ pd)))

/-- The launch of a header, before its checks, with the object it names. -/
def launchOf (ws : List Nat) (id : Nat) (owner : BitVec 16) (ring : Nat) (seq : Word) (tstart : Nat) (now : Nat)
    (o : CodeObj) : Launch :=
  let widf := pd2 ws 16
  let counts := (upTo 6).map fun i => pw ws (18 + i)
  let pick (i : Nat) (d : Word) : Word := if pw ws i = noVal then d else BitVec.ofNat 32 (pw ws i)
  { id, owner, handle := BitVec.ofNat 32 (pw ws 4), ring, slotSeq := seq, cscope := pktScope ws
    caddr := BitVec.ofNat 52 (pktCaddr ws), code := o, preemptible := bit (pw ws 8) 18, balance := bit (pw ws 8) 17
    dual := bit (pw ws 8) 16, w := bits (pw ws 9) 9 0, h := bits (pw ws 9) 24 16
    dmask := BitVec.ofNat 16 (bits (pw ws 10) 31 16), srows := bits (pw ws 10) 8 0, prio := bits (pw ws 11) 2 0
    tstart := BitVec.ofNat 64 tstart, late := BitVec.ofNat 32 (pw ws 14), lead := BitVec.ofNat 32 (pw ws 15)
    widf := BitVec.ofNat 64 widf, counts, items := itemsOf widf counts
    segt := pick 24 o.segt, fmtt := pick 25 o.fmtt, plandir := pick 26 o.plandir, hasSeg := decide (pd2 ws 28 ≠ 0)
    deps := ((upTo 4).filter fun i => decide ((depOf ws i).1 ≠ 0)).map fun i => (depOf ws i).2
    waitSince := now }

/-- An empty object, for a launch that names none. -/
def noObject : CodeObj :=
  { owner := 0xFFFF, handle := 0, base := 0, entry := 0, image := [], segt := 0xFFFFFFFF, fmtt := 0xFFFFFFFF
    plandir := 0xFFFFFFFF, safe := [] }

/-- The segment table that the object's image holds at an address. -/
def CodeObj.segTable (o : CodeObj) (a : Nat) : List Byte :=
  ((Memory.image o.base o.image).read a 2048)

/-- The checks of R437 in order: a status where one fails, else the segment bytes read. None while a read is held. -/
def State.launchCheck (s : State) (owner : BitVec 16) (ws : List Nat) (l : Launch) (found : Bool) :
    Option (Except Byte (List Byte)) × State :=
  if headerBad ws || launchHeaderBad ws then (some (.error 0x20), s)
  else if !found then (some (.error 0x21), s)
  else
    let read := if l.hasSeg then s.crownRead owner (pd2 ws 28) 2048 else (some (stOK, []), s)
    match read with
    | (none, s') => (none, s')
    | (some (0, bytes), s') =>
      let table := if l.hasSeg then bytes else l.code.segTable l.segt.toNat
      if decide (l.segt ≠ 0xFFFFFFFF) && !segTableOk table l.w l.h then (some (.error 0x20), s')
      else if decide (pw ws 26 ≠ noVal) && !plansOk l.code.image l.code.base (pw ws 26) then (some (.error 0x31), s')
      else (some (.ok bytes), s')
    | (some (st, _), s') => (some (.error st), s')

/-- Acceptance of one launch (R437): it enters the pending set QUEUED, or ends with the first check's status. False
while a read of the crown is held. -/
def State.accept (s : State) (q : Nat) (ws : List Nat) (tstart : Nat) (table : Bool := false) : Bool × State :=
  let r := s.ring q
  let o := s.object? r.owner (bits (pw ws 8) 15 0)
  let id := s.accepted
  let l := { launchOf ws id r.owner q r.exp tstart s.dialNow.toNat (o.getD noObject) with table }
  match s.launchCheck r.owner ws l o.isSome with
  | (none, s') => (false, s')
  | (some res, s') =>
    let s := { s' with accepted := id + 1 }
    match res with
    | .error st => (true, (s.setLaunch id l).finish id { status := st })
    | .ok bytes => (true, (s.setLaunch id { l with segBytes := bytes }).zeroWork id)

/-- LAUNCH_PACKET (R436, R437, R426). -/
def State.launchPacket (s : State) (q : Nat) : State :=
  match s.takePacket q 1 with
  | none => s.notTaken q
  | some (ws, s1) =>
    if headerBad ws then s1.endOr s q ws stPacketInvalid
    else if 16384 ≤ s1.pending then (s1.setRing q { s1.ring q with blocked := some .room }).yieldIfBlocked q
    else
      match s1.accept q ws (pd2 ws 12) with
      | (false, s2) => s.keepHolds s2
      | (true, s2) => s2.consume q 2

/-- The entries of a time table, accepted in order (R445), and the status of the packet. An entry or a header that cannot be
read ends the packet with its access's status (Table 18-4), one whose address is not a multiple of 64 with PACKET_INVALID; the
launches of the entries before it stand. No status while a read is held. -/
def State.acceptTable (s : State) (q : Nat) (a : Nat) : Nat → Option Byte × State
  | 0 => (some stOK, s)
  | n + 1 =>
    let r := s.ring q
    match s.crownRead r.owner a 16 with
    | (some (0, e), s1) =>
      let h := ofBytes (e.drop 8)
      if h % 64 ≠ 0 then (some stPacketInvalid, s1)
      else match s1.crownRead r.owner h 256 with
      | (some (0, h), s2) =>
        let ws := (upTo 64).map fun j => ofBytes ((h.drop (4 * j)).take 4)
        match s2.accept q ws (ofBytes (e.take 8)) true with
        | (true, s') => s'.acceptTable q (a + 16) n
        | (false, s') => (none, s')
      | (some (st, _), s2) => (some st, s2)
      | (none, s2) => (none, s2)
    | (some (st, _), s1) => (some st, s1)
    | (none, s1) => (none, s1)

/-- TIMETABLE_PACKET (R445). -/
def State.timetablePacket (s : State) (q : Nat) : State :=
  match s.takePacket q 8 with
  | none => s.notTaken q
  | some (ws, s1) =>
    let n := pw ws 10
    if headerBad ws || decide (n = 0) || decide (256 < n) || decide (pd2 ws 8 % 16 ≠ 0) then s1.endOr s q ws stPacketInvalid
    else if 16384 < s1.pending + n then (s1.setRing q { s1.ring q with blocked := some .room }).yieldIfBlocked q
    else
      match s1.acceptTable q (pd2 ws 8) n with
      | (none, s2) => s.keepHolds s2
      | (some st, s2) => s2.endOr s q ws st

/-! ### Registers (R448) -/

/-- The address names memory: some row of the map that the ring's owner may hold a word in (Table 18-8). -/
def namesMemory (a : Nat) : Bool := match region a with | .paged | .bank | .reduce => true | _ => false

/-- RING_CTL_WRITE (Table 18-8): every write writes EN and clears ERR. -/
def State.ringCtl (s : State) (q : Nat) (v : Word) : State :=
  let r := { s.ring q with err := false }
  let en := v.getLsbD 7
  if r.en then (s.setRing q { r with en, off := !en, ready := r.ready && en }).dropCrownHolds r.owner
  else
    let lgn := bits v.toNat 4 0
    let r := { r with owner := v.extractLsb' 16 16, queue := v.extractLsb' 8 8, lgn, off := true }
    if !en then s.setRing q r
    else if decide (lgn < 4) || decide (16 < lgn) || !namesMemory (bits r.base.toNat 51 7 * 128) ||
        !namesMemory (bits r.head.toNat 51 2 * 4) then s.setRing q { r with err := true }
    else s.setRing q { r with en := true, off := false }

/-- RING_EXP_WRITE (R424): ignored while EN = 1. -/
def State.ringExp (s : State) (q : Nat) (v : Word) : State :=
  let r := s.ring q
  if r.en then s else s.setRing q { r with exp := v }

/-- STATE of CRN_RING_STATq: 0 after a reset, 3 from a write of EN = 0 on. -/
def Ring.stateCode (r : Ring) : Nat :=
  if r.blocked.isSome then 2 else if r.presented then 1 else if r.off then 3 else 0

/-- A write in the front end's scheduling and ring registers; none where none stands. -/
def State.feWrite (s : State) (off n v : Nat) : Option State :=
  let w : Word := BitVec.ofNat 32 v
  if off < 0x10000 then
    if n ≠ 4 then none
    else match off with
      | 0x00 => some (s.feCtrlWrite w)
      | 0x08 => some { s with schAge := w }
      | 0x10 => some { s with schSlice := w }
      | 0x18 => some { s with schReserve := w }
      | 0x20 =>
        let old := s.schQslice.toNat
        let p := if bits v 7 0 = 0 then bits old 7 0 else bits v 7 0
        let t := if bits v 23 8 = 0 then bits old 23 8 else bits v 23 8
        some { s with schQslice := BitVec.ofNat 32 (p + 256 * t) }
      | 0x28 => some s
      | 0x30 => some s
      | _ => none
  else if off < 0x30000 then
    let q := (off - 0x10000) / 32
    let r := s.ring q
    match (off - 0x10000) % 32, n with
    | 0x00, 8 => some (s.setRing q { r with base := BitVec.ofNat 64 (bits v 51 7 * 128) })
    | 0x08, 4 => some (s.ringCtl q w)
    | 0x0C, 4 => some (s.ringExp q w)
    | 0x10, 8 => some (s.setRing q { r with head := BitVec.ofNat 64 (bits v 51 2 * 4) })
    | 0x18, 8 => some s
    | _, _ => none
  else none

/-- What these registers read. -/
def State.feRead (s : State) (off n : Nat) : Option Nat :=
  if off < 0x10000 then
    if n ≠ 4 then none
    else match off with
      | 0x00 => some s.feCtrl.toNat
      | 0x08 => some s.schAge.toNat
      | 0x10 => some s.schSlice.toNat
      | 0x18 => some s.schReserve.toNat
      | 0x20 => some s.schQslice.toNat
      | 0x28 => some (s.pending % 2 ^ 15 + 65536 * ((s.launches.filter fun m => m.2.holds).length % 2 ^ 15))
      | 0x30 => some (match s.reservedOne with
        | none => 0
        | some l => 2 ^ 31 + l.owner.toNat)
      | _ => none
  else if off < 0x30000 then
    let r := s.ring ((off - 0x10000) / 32)
    match (off - 0x10000) % 32, n with
    | 0x00, 8 => some r.base.toNat
    | 0x08, 4 => some (r.owner.toNat * 65536 + r.queue.toNat * 256 + 128 * ofBool r.en + r.lgn)
    | 0x0C, 4 => some r.exp.toNat
    | 0x10, 8 => some r.head.toNat
    | 0x18, 8 => some (r.errseq.toNat * 2 ^ 32 + 4 * ofBool r.err + r.stateCode)
    | _, _ => none
  else none

/-! ### The rows of this chapter -/

/-- RING_POLL. -/
def execRingPoll (q : Nat) (s : State) : Host.Outcome State Fault Refusal := .next (s.ringPoll q)
/-- RING_NUDGE. -/
def execRingNudge (q : Nat) (s : State) : Host.Outcome State Fault Refusal := .next (s.ringNudge q)
/-- QUEUE_SLICE_EXPIRY. -/
def execQueueSliceExpiry (k : Nat) (s : State) : Host.Outcome State Fault Refusal := .next (s.sliceExpiry k)
/-- LAUNCH_PACKET. -/
def execLaunchPacket (q : Nat) (s : State) : Host.Outcome State Fault Refusal := .next (s.launchPacket q)
/-- WRITE_PACKET. -/
def execWritePacket (q : Nat) (s : State) : Host.Outcome State Fault Refusal := .next (s.writePacket q)
/-- SIGNAL_PACKET. -/
def execSignalPacket (q : Nat) (s : State) : Host.Outcome State Fault Refusal := .next (s.signalPacket q)
/-- WRITE_SIGNAL_PACKET. -/
def execWriteSignalPacket (q : Nat) (s : State) : Host.Outcome State Fault Refusal := .next (s.writeSignalPacket q)
/-- WAIT_PACKET. -/
def execWaitPacket (q : Nat) (s : State) : Host.Outcome State Fault Refusal := .next (s.waitPacket q)
/-- LOADCODE_PACKET. -/
def execLoadcodePacket (q : Nat) (s : State) : Host.Outcome State Fault Refusal := .next (s.loadcodePacket q)
/-- FENCE_PACKET. -/
def execFencePacket (q : Nat) (s : State) : Host.Outcome State Fault Refusal := .next (s.fencePacket q)
/-- TIMETABLE_PACKET. -/
def execTimetablePacket (q : Nat) (s : State) : Host.Outcome State Fault Refusal := .next (s.timetablePacket q)
/-- WAIT_POLL. -/
def execWaitPoll (q : Nat) (s : State) : Host.Outcome State Fault Refusal := .next (s.waitPoll q)
/-- WAIT_TIMEOUT. -/
def execWaitTimeout (q : Nat) (s : State) : Host.Outcome State Fault Refusal := .next (s.waitTimeout q)
/-- FENCE_PACKET_DONE. -/
def execFencePacketDone (q : Nat) (s : State) : Host.Outcome State Fault Refusal := .next (s.fencePacketDone q)
/-- RING_CTL_WRITE. -/
def execRingCtlWrite (q : Nat) (v : Word) (s : State) : Host.Outcome State Fault Refusal := .next (s.ringCtl q v)
/-- RING_EXP_WRITE. -/
def execRingExpWrite (q : Nat) (v : Word) (s : State) : Host.Outcome State Fault Refusal := .next (s.ringExp q v)

end Sys2Proof.Machine
end

