-- ==== Sys2Proof/Machine/Fw.lean ====
section
/-! DEFINITION. Crown firmware, live update and attestation (chapter 21), bring-up checks, and crown and control space
(R398). -/

namespace Sys2Proof.Machine

/-! ### Complexes and their tiles (R509, R511) -/

/-- The keys of a complex's tiles. -/
def complexTiles (c : Nat) : List Nat := (upTo 32).map fun i => 0x40000 + 32 * c + i

/-- The first of a complex's own measurement blocks: B of R513. -/
def blockBase (c : Nat) : Nat := 8 + 8 * c

/-- A complex is reset: its tiles, and its own measurement blocks (Table 21-3). -/
def State.resetComplex (s : State) (c : Nat) : State :=
  let s := { s with tiles := s.tiles.filter fun e => !(complexTiles c).contains e.1 }
  { s with fw := { s.fw with blocks := (upTo 8).foldl (fun b i => vset b (blockBase c + i) 0) s.fw.blocks } }

/-- The anti-rollback counter (R512). -/
def State.arbOf (s : State) : BitVec 6 := arbAt s.fw.arb

/-- Fuse word i as `fuserd` reads it (R369, R512, R516). -/
def State.fuseWord (s : State) (i : Nat) : Wide := fuseAt s.fw.arb i

/-- A write of crown SRAM: the bytes, and the tags of the granules that it writes whole (R482). -/
def State.csramPut (s : State) (o : Nat) (bs : List Byte) : State :=
  { s with csram := s.csram.write o bs, csramPoison := tagsAfter s.csramPoison 8 o (clean bs) }

/-- A section of an image (Table 21-2): kind, tile, destination, offset, length, and its reserved bits. -/
def imgSection (img : List Byte) (i : Nat) : Nat × Nat × Nat × Nat × Nat × Bool :=
  let a := 1920 + 16 * i
  let w0 := fileNum img a 4
  (bits w0 7 0, bits w0 12 8, fileNum img (a + 4) 4, fileNum img (a + 8) 4, fileNum img (a + 12) 4,
    decide (bits w0 31 16 = 0) && decide (bits w0 15 13 = 0))

/-- The sections of an image. -/
def imgSections (img : List Byte) : List (Nat × Nat × Nat × Nat × Nat × Bool) :=
  (upTo (fileNum img 32 4)).map (imgSection img)

/-- Check 1 of R511: the header, the directory's reserved bits with it. -/
def imgHeaderOk (img : List Byte) : Bool :=
  let w := fun a => fileNum img a 4
  decide (w 0 = 0x4E575243) && decide (w 4 = 0x00010000) && decide (w 12 < 64) && decide (fileNum img 22 2 = 0) &&
    decide (w 24 % 8 = 0) && decide (1 ≤ w 28) && decide (w 28 ≤ 1280) && decide (w 24 + w 28 ≤ 4194304) &&
    decide (1 ≤ w 32) && decide (w 32 ≤ 64) && (upTo 28).all (fun i => decide (fileNum img (36 + i) 1 = 0)) &&
    ((upTo 63).all fun i => decide (fileNum img (1857 + i) 1 = 0)) && (imgSections img).all fun x => x.2.2.2.2.2

/-- Check 5 of R511: one section. -/
def imgSectionOk (img : List Byte) (x : Nat × Nat × Nat × Nat × Nat × Bool) : Bool :=
  let (kind, _, dest, off, len, _) := x
  decide (off % 32 = 0) && decide (off + len ≤ fileNum img 24 4) &&
    match kind with
    | 1 => decide (dest = 0) && (match loadObject ((img.drop off).take len) 0 with | .object .. => true | _ => false)
    | 2 => decide (dest + len ≤ 2 ^ 24)
    | _ => false

/-- The boot ROM's checks of R511 in order: the reason of the first that fails; none when the image passes. -/
def State.imageCheck (s : State) (img : List Byte) : Option Byte :=
  if !imgHeaderOk img then some 1
  else
    let msg := img.take (fileNum img 24 4)
    let key := (img.drop 64).take 1793
    if shake512 key ≠ toBytes64 (s.fuseWord 0) then some 2
    else
      let sig := (img.drop (fileNum img 24 4)).take (fileNum img 28 4)
      if falconVerify key sig msg ≠ 0 then some 3
      else if fileNum img 12 4 < s.arbOf.toNat then some 4
      else if !(imgSections img).all (imgSectionOk img) then some 5
      else none

/-- A crown tile as a KIND 1 section loads it: supervisor mode, CID 0xFFFF (R34, R132, R511). -/
def crownTile (clk : Nat) (image : List Byte) (entry : Nat) (segt fmtt : Word) : Tile :=
  let t : Tile := {
    ls := Memory.image 0 image, pc := BitVec.ofNat 32 entry, tstat := 0xFFFF0001, run := .computing, nextAt := clk + 1
    freshAt := clk + 1, fmtt := if fmtt = 0xFFFFFFFF then 0 else fmtt }
  if segt = 0xFFFFFFFF then t else t.captureSegt segt

/-- Loads the sections of an image into a complex, and extends its block with the image's hash (R511, R515). -/
def State.loadImage (s : State) (c : Nat) (img : List Byte) : State :=
  let s := (imgSections img).foldl (fun s x =>
    let (kind, tile, dest, off, len, _) := x
    let bytes := (img.drop off).take len
    if kind = 1 then
      match loadObject bytes 0 with
      | .object image entry segt fmtt _ _ _ => s.setTile (0x40000 + 32 * c + tile) (crownTile s.clk image entry segt fmtt)
      | _ => s
    else s.csramPut dest bytes) s
  let m := shake512 (img.take (fileNum img 24 4))
  let b := blockBase c
  { s with fw := { s.fw with
    blocks := vset s.fw.blocks b (extendBlock (vget 0 s.fw.blocks b) m)
    versions := vset s.fw.versions c
      (BitVec.ofNat 16 (fileNum img 8 2), BitVec.ofNat 16 (fileNum img 10 2), BitVec.ofNat 32 (fileNum img 12 4))
    imMaj := vset s.fw.imMaj c (BitVec.ofNat 16 (fileNum img 20 2))
    exVer := vset s.fw.exVer c (BitVec.ofNat 16 (fileNum img 16 2), BitVec.ofNat 16 (fileNum img 18 2))
    imgM := vset s.fw.imgM c (ofBytes64 m) } }

/-- A function passes its check: it is ready, unless it has failed (R528). -/
def State.readyFn (s : State) (fn : Nat) : State :=
  if s.bu.failed.getLsbD fn then s else { s with bu := { s.bu with ready := s.bu.ready ||| ((1 : Word) <<< fn) } }

/-- A function that is not ready fails its check: it is failed until the next module reset (R528). -/
def State.failCheck (s : State) (fn : Nat) : State :=
  if s.bu.ready.getLsbD fn then s else s.failFn fn

/-- The standby complex. -/
def Fw.standby (f : Fw) : Nat := 1 - f.act

/-- STATUS of BAR 4: DONE with a code; vector 1 is raised (R521). -/
def State.mbDone (s : State) (code : Nat) : State :=
  { s with fw := { s.fw with mbBusy := false, mbStatus := BitVec.ofNat 32 (2 ^ 31 + s.fw.sbReason.toNat * 256 + code) }
           bu := { s.bu with msix1 := s.bu.msix1 + 1 } }

/-- STANDBY_RESET (Table 21-7). -/
def State.standbyReset (s : State) : State :=
  if s.fw.phase = .switched then s
  else
    let s := s.resetComplex s.fw.standby
    { s with fw := { s.fw with sb := .reset, sbReason := 0, booting := none } }

/-- STANDBY_BOOT (R511): ignored unless the standby is in reset. -/
def State.standbyBoot (s : State) (img : BitVec 16) : State :=
  if decide (s.fw.sb ≠ .reset) || decide (s.fw.phase = .switched) then s
  else { s with fw := { s.fw with sb := .booting, img, booting := some (img.toNat * 256) } }

/-- BOOT_ROM_DONE (R511): READY, or REFUSED with its reason; a STAGE that waits for it is answered. In recovery the image
is loaded into Crown A itself, which is then ready (R530). Crown B's first image decides its check (R528). -/
def State.bootRomDone (s : State) : State :=
  match s.fw.booting with
  | none => s
  | some off =>
    let c := if s.fw.recovery then 0 else s.fw.standby
    let img := s.csram.read off 4194304
    let fin (s : State) (code : Nat) : State := if s.fw.mbBusy && decide (s.fw.mbCmd = 1) then s.mbDone code else s
    match s.imageCheck img with
    | some r =>
      let s : State := { s with fw := { s.fw with sb := SbState.refused, sbReason := r, booting := none } }
      fin (if c = 1 then s.failCheck 27 else s) 1
    | none =>
      let s := s.loadImage c img
      if s.fw.recovery then
        fin { s with fw := { s.fw with recovery := false, booting := none, sb := .reset }
                     bu := { s.bu with ready := s.bu.ready ||| ((1 : Word) <<< 26)
                                       failed := s.bu.failed &&& ~~~((1 : Word) <<< 26) } } 0
      else
        let s : State := { s with fw := { s.fw with sb := .ready, sbReason := 0, booting := none } }
        fin (if c = 1 then s.readyFn 27 else s) 0

/-- BRINGUP_CHECK_DONE (R528, R529): a function's check passes or fails, once. Crown A starts the flash image. -/
def State.bringup (s : State) (fn : Nat) (pass : Bool) : State :=
  if decide (27 ≤ fn) || s.bu.ready.getLsbD fn || s.bu.failed.getLsbD fn || s.bu.heldInReset then s
  else if fn = 26 then
    match if pass then s.imageCheck Config.flashImage else some 1 with
    | none =>
      { s.loadImage 0 Config.flashImage with
        bu := { s.bu with ready := s.bu.ready ||| ((1 : Word) <<< 26) } }
    | some r =>
      { s with fw := { s.fw with recovery := true, sbReason := r }
               bu := { s.bu with failed := s.bu.failed ||| ((1 : Word) <<< 26) } }
  else if pass then { s with bu := { s.bu with ready := s.bu.ready ||| ((1 : Word) <<< fn) } }
  else
    let s := s.failFn fn
    if fn < 24 then s.setReplace 3 else s

/-- The SRAM self-test of a die that is starting finds tiles that fail: their bits of the retirement map are set, and the
die can still become ready (R529). -/
def State.tilesFail (s : State) (d : Nat) (bad : List Nat) : State :=
  if decide (16 ≤ d) || s.bu.ready.getLsbD d || s.bu.failed.getLsbD d then s else s.retMapWrite d bad

/-! ### Handover (R522–R525) -/

/-- TCLK cycles of the handover timer. -/
def hoClk : Nat := 20 * msClk

/-- HANDOVER_GO (Table 21-5): the active complex switches. -/
def State.handoverGo (s : State) (v : Word) : State :=
  if s.fw.phase ≠ .idle then s
  else { s with fw := { s.fw with act := s.fw.standby, phase := .switched, switchedAt := s.clk
                                  table := v.extractLsb' 8 16 } }

/-- The doorbells latched during a handover, served in the order of their arrival (R524). -/
def State.serveDoorbells (s : State) : State :=
  s.fw.doorbells.foldl (fun s d => match d.2 with
    | some h => s.abort d.1 h
    | none => s.nudge d.1) { s with fw := { s.fw with doorbells := [] } }

/-- What waited for the outcome of a handover: end notices and doorbells (R524). -/
def State.serveWaiting (s : State) : State := (s.serveNotices s.fw.notices.length).serveDoorbells

/-- Rollback (Table 21-5): the new complex is reset and the old one resumes. -/
def State.rollback (s : State) : State :=
  let new := s.fw.act
  let s := s.resetComplex new
  let s := { s with fw := { s.fw with act := 1 - new, phase := .rolledBack, sb := .reset, heldWrites := [], sessions := []
                                      lastBeat := s.clk } }
  s.serveWaiting

/-- HANDOVER_ABORT (Table 21-5, R526): outside SWITCHED it is ignored. -/
def State.handoverAbort (s : State) : State := if s.fw.phase = .switched then s.rollback else s

/-- The directory entries of a state table: ID, REQUIRED, offset and length (R519). -/
def tableSections (m : Memory) (a : Nat) : List (Nat × Bool × Nat × Nat) :=
  (upTo (m.num (a + 12) 4)).map fun i =>
    let e := a + 128 + 16 * i
    (m.num e 2, bit (m.num (e + 2) 2) 0, m.num (e + 8) 4, m.num (e + 12) 4)

/-- Two directory entries have a byte in common. -/
def sectionsMeet (x y : Nat × Bool × Nat × Nat) : Bool :=
  decide (x.2.2.1 < y.2.2.1 + y.2.2.2) && decide (y.2.2.1 < x.2.2.1 + x.2.2.2)

/-- Some two entries of a directory overlap. -/
def overlapping : List (Nat × Bool × Nat × Nat) → Bool
  | [] => false
  | x :: l => l.any (sectionsMeet x) || overlapping l

/-- The digest of a state table of `n` bytes: SHAKE256 with the DIGEST field zero (Table 21-4). -/
def tableDigest (m : Memory) (a n : Nat) : List Byte :=
  shake512 (m.read a 64 ++ List.replicate 64 0 ++ m.read (a + 128) (n - 128))

/-- The importer refuses a state table at an offset of crown SRAM (R519, R520): `maj` is its IMMAJ. -/
def tableRefused (m : Memory) (a : Nat) (maj : Half) : Bool :=
  let n := m.num (a + 8) 4
  let k := m.num (a + 12) 4
  decide (m.num a 4 ≠ 0x54535743) || decide (n < 128) || decide (8388608 < n) || decide (2 ^ 24 < a + n) ||
    decide (k = 0) || decide (64 < k) || decide (n < 128 + 16 * k) ||
    decide (m.read (a + 64) 64 ≠ tableDigest m a n) || decide (m.num (a + 4) 2 ≠ maj.toNat) ||
    (tableSections m a).any (fun x => decide (n < x.2.2.1 + x.2.2.2) || (x.2.1 && !Config.knownSection x.1)) ||
    overlapping (tableSections m a)

/-- The provisional complex's firmware imports the table that GO named: it refuses it and writes ABORT, or extends block
B + 1 with its DIGEST (R513, R520). -/
def State.importTable (s : State) : State :=
  let a := s.fw.table.toNat * 256
  if s.fw.phase ≠ .switched then s
  else if tableRefused s.csram a (vget 0 s.fw.imMaj s.fw.act) then s.handoverAbort
  else
    let b := blockBase s.fw.act + 1
    { s with fw := { s.fw with
      blocks := vset s.fw.blocks b (extendBlock (vget 0 s.fw.blocks b) (s.csram.read (a + 64) 64)) } }

/-- A table of the sections that the firmware gives, with MAJ and MIN: header, directory and contents, DIGEST in place
(R519, Table 21-4). -/
def tableBytes (ver : Half × Half) (l : List (Nat × Bool × Nat × List Byte)) : List Byte :=
  let start := 128 + 16 * l.length
  let dir := l.foldl (fun (a : List Byte × Nat) x =>
    (a.1 ++ toBytes 2 x.1 ++ toBytes 2 (ofBool x.2.1) ++ toBytes 4 x.2.2.1 ++ toBytes 4 a.2 ++ toBytes 4 x.2.2.2.length,
      a.2 + x.2.2.2.length)) ([], start)
  let head := toBytes 4 0x54535743 ++ toBytes 2 ver.1.toNat ++ toBytes 2 ver.2.toNat ++ toBytes 4 dir.2 ++
    toBytes 4 l.length ++ List.replicate 48 0
  let body := dir.1 ++ l.flatMap fun x => x.2.2.2
  head ++ shake512 (head ++ List.replicate 64 0 ++ body) ++ body

/-- The active complex exports its state table before it writes GO (R519, R522): at most 8 MiB, 1 to 64 sections, within
crown SRAM. -/
def State.exportTable (s : State) (off : BitVec 16) (l : List (Nat × Bool × Nat × List Byte)) : State :=
  let bs := tableBytes (vget (0, 0) s.fw.exVer s.fw.act) l
  if !s.serves || l.isEmpty || decide (64 < l.length) || decide (8388608 < bs.length) ||
    decide (2 ^ 24 < off.toNat * 256 + bs.length) then s
  else s.csramPut (off.toNat * 256) bs

/-- The 20 ms of a handover are over (Table 21-5). -/
def State.handoverDue (s : State) : Bool :=
  decide (s.fw.phase = .switched) && decide (s.fw.switchedAt + hoClk ≤ s.clk)

/-- HANDOVER_TIMEOUT (Table 21-5). -/
def State.handoverTimeout (s : State) : State := if s.handoverDue then s.rollback else s

/-- HANDOVER_DONE (R522): the phase returns to IDLE. An ACTIVATE that waits for the outcome is answered. -/
def State.handoverDone (s : State) : State :=
  let fin (s : State) (code : Nat) : State := if s.fw.mbBusy && decide (s.fw.mbCmd = 2) then s.mbDone code else s
  match s.fw.phase with
  | .committed => fin { s with fw := { s.fw with phase := HoPhase.idle } } 0
  | .rolledBack => fin { s with fw := { s.fw with phase := HoPhase.idle } } 1
  | _ => s

/-- 20 ms have passed without a heartbeat after a commit (R525). -/
def State.hangDue (s : State) : Bool :=
  s.fw.watch && !s.fw.hang && decide (s.fw.phase ≠ .switched) && decide (s.fw.lastBeat + hoClk ≤ s.clk)

/-- HEARTBEAT_HANG (R525). -/
def State.heartbeatHang (s : State) : State :=
  if s.hangDue then
    { s with fw := { s.fw with hang := true }, bu := { s.bu with msix0 := s.bu.msix0 + 1 } }
  else s

/-- ARB_WRITE (R512). -/
def State.arbWrite (s : State) (n : Word) : State :=
  if decide (s.arbOf.toNat < n.toNat) && decide (n.toNat ≤ 63) && decide (s.fw.phase ≠ .switched) then
    { s with fw := { s.fw with arb := some (n.setWidth 6) } }
  else s

/-! ### Identity and SPDM (R516–R518) -/

/-- ID_SIGN_GO (R516): ERR while BUSY or for a range outside crown SRAM. -/
def State.idSignGo (s : State) : State :=
  let src := bits s.fw.idMsg.toNat 23 0
  let dst := bits s.fw.idMsg.toNat 55 32
  if s.fw.idBusy || decide (2 ^ 24 < src + 64) || decide (2 ^ 24 < dst + 1280) then
    { s with fw := { s.fw with idErr := true } }
  else { s with fw := { s.fw with idBusy := true, idErr := false, idJob := s.fw.idMsg } }

/-- A signature of a message under the identity key (R13, R516): the next free value, if it verifies under the key, which
only a signature in padded form does. -/
def State.signature (s : State) (msg : List Byte) : Option (List Byte) :=
  let sig := Config.falconSign s.free msg
  if falconVerify idPub sig msg = 0 then some sig else none

/-- ID_SIGN_DONE (R516): the signature is written where the GO asked for it, in padded form, and BUSY clears; where the
free value is no signature the engine still signs. -/
def State.idSignDone (s : State) : State :=
  if !s.fw.idBusy then s
  else
    let msg := s.csram.read (bits s.fw.idJob.toNat 23 0) 64
    let s1 : State := { s with free := s.free + 1 }
    match s.signature msg with
    | none => s1
    | some sig =>
      let s2 := s1.csramPut (bits s.fw.idJob.toNat 55 32) sig
      { s2 with fw := { s2.fw with idBusy := false } }

/-- An answer to the host's requester. -/
def State.reply (s : State) (kind : Nat) (bs : List Byte) : State :=
  { s with fw := { s.fw with replies := s.fw.replies ++ [(kind, bs)] } }

/-- The digest of a measurement index (R517). -/
def Fw.measure (f : Fw) (i : Nat) : Option Wide :=
  if decide (1 ≤ i) && decide (i ≤ 8) then some (vget 0 f.blocks (i - 1))
  else if decide (9 ≤ i) && decide (i ≤ 16) then some (vget 0 f.blocks (blockBase f.act + i - 9))
  else none

/-- CAPABILITIES: the flags of those supported, as SPDM numbers them: CERT, CHAL, MEAS with signature, ENCRYPT, MAC,
MUT_AUTH, KEY_EX; PSK and CHUNK clear. -/
def spdmCaps : Nat := 0x3D6

/-- ALGORITHMS: Falcon-1024, SHAKE256 with 64 bytes, ML-KEM-1024, AES-256-GCM; each named by the edition that defines it. -/
def spdmAlgs : List Byte := [0x12, 0x40, 203, 197].map (BitVec.ofNat 8)

/-- A signed answer (R517): kind, body and a signature of the digest of the requester's nonce and the body; an error while
the engine has none. -/
def State.signedReply (s : State) (kind : Nat) (nonce body : List Byte) : State :=
  let s1 : State := { s with free := s.free + 1 }
  match s.signature (shake512 (nonce ++ body)) with
  | none => s1.reply 4 []
  | some sig => s1.reply kind (body ++ sig)

/-- A message of the IDE key management, which only an open session carries (R473, R517). -/
def State.ideMessage (s : State) (i : Nat) (f : Fw → Fw) : State :=
  if s.fw.sessions.any fun x => decide (x.id = i) then ({ s with fw := f s.fw }).reply 10 [] else s.reply 4 []

/-- SPDM_REQUEST (R517): reply kinds 0 certificate, 1 measurement, 2 session opened, 3 session ended, 4 refused, 7 version,
8 capabilities, 9 algorithms, 10 IDE key management, 11 challenge answered, 12 measurement signed. -/
def State.spdm (s : State) (r : SpdmReq) : State :=
  if !s.serves then s
  else
    match r with
    | .getVersion => s.reply 7 [0x13]
    | .getCapabilities => s.reply 8 (toBytes 4 spdmCaps)
    | .negotiateAlgorithms => s.reply 9 spdmAlgs
    | .challenge n => s.signedReply 11 n (shake512 Config.idCert)
    | .signedMeasurement i n =>
      match s.fw.measure i with
      | some w => s.signedReply 12 n (toBytes64 w)
      | none => s.reply 4 []
    | .ideKeyProg i q key => s.ideMessage i fun f =>
        { f with ideKeys := (f.ideKeys.filter fun e => decide (e.1 ≠ q)) ++ [(q, key)] }
    | .ideGo i q => s.ideMessage i fun f =>
        if f.ideKeys.any fun e => decide (e.1 = q) then { f with ideOn := insertNat q f.ideOn } else f
    | .ideStop i q => s.ideMessage i fun f => { f with ideOn := f.ideOn.filter (· ≠ q) }
    | .getCertificate => s.reply 0 Config.idCert
    | .getMeasurement i =>
      match s.fw.measure i with
      | some w => s.reply 1 (toBytes64 w)
      | none => s.reply 4 []
    | .openSession q =>
      let id := s.fw.sessionNo
      let new : Session := { id, requester := q }
      ({ s with fw := { s.fw with sessions := s.fw.sessions ++ [new], sessionNo := id + 1 } }).reply 2 (toBytes 4 id)
    | .endSession i =>
      ({ s with fw := { s.fw with sessions := s.fw.sessions.filter fun x => decide (x.id ≠ i) } }).reply 3 (toBytes 4 i)
    | .otherVersion => s.reply 4 []

/-- The session's requester authenticated with the pod manager's key (R518). -/
def Fw.podSession (f : Fw) (i : Nat) : Bool :=
  f.pod.isSome && f.sessions.any fun x => decide (x.id = i) && decide (x.requester = f.pod)

/-- An owner that a key may be set for (R518). -/
def keyOwnerOk (o : BitVec 16) : Bool := decide (o ≠ 0) && decide (o ≠ 0xFFFF)

/-- SET_FABRIC_KEY (R518): reply 5 OK, 6 TABLE_FULL, 4 refused. -/
def State.setFabricKey (s : State) (i : Nat) (o : BitVec 16) (key : BitVec 256) : State :=
  if !s.serves then s
  else if !s.fw.podSession i || !keyOwnerOk o then s.reply 4 []
  else
    let r := s.br.loadKey s.clk o key
    ({ s with br := r.2 }).reply (if r.1 then 5 else 6) []

/-- CLEAR_FABRIC_KEY (R518). -/
def State.clearFabricKey (s : State) (i : Nat) (o : BitVec 16) : State :=
  if !s.serves then s
  else if !s.fw.podSession i || !keyOwnerOk o then s.reply 4 []
  else ({ s with br := s.br.clearKey o }).reply 5 []

/-! ### The firmware mailbox (Table 21-6) -/

/-- The crown SRAM offset to which a STAGE copies its image: the firmware's choice. -/
def stageOff : Nat := 0x800000

/-- STAGE (R521, R530): the image goes to crown SRAM, the standby is reset and boots it. -/
def State.stage (s : State) (img : List Byte) : State :=
  if !(s.serves || s.fw.recovery) then s
  else if 4194304 < img.length then s.mbDone 1
  else
    let s := { s.csramPut stageOff img with fw := { s.fw with mbBusy := true, mbCmd := 1, mbStatus := 2 } }
    if s.fw.recovery then { s with fw := { s.fw with booting := some stageOff, img := BitVec.ofNat 16 (stageOff / 256) } }
    else s.standbyReset.standbyBoot (BitVec.ofNat 16 (stageOff / 256))

/-- ACTIVATE (R522): refused unless the standby is READY and the phase IDLE; the active complex stops presenting packets
before its GO. -/
def State.activate (s : State) : State :=
  if !s.serves then s
  else if decide (s.fw.sb ≠ .ready) || decide (s.fw.phase ≠ .idle) then s.mbDone 1
  else { s with feCtrl := s.feCtrl &&& ~~~(3 : Word), fw := { s.fw with mbBusy := true, mbCmd := 2, mbStatus := 2 } }

/-- SETRET (R526, R533): the maps of the 16 dies in order; block 3 is extended. -/
def State.setret (s : State) (map : List Byte) : State :=
  if !s.serves then s
  else if map.length ≠ 20480 then s.mbDone 1
  else
    let s := (upTo 16).foldl (fun s d =>
      let m := (map.drop (1280 * d)).take 1280
      s.retMapWrite d ((upTo 10240).filter fun i => ((nth 0 m (i / 8)).getLsbD (i % 8)))) s
    let s := { s with fw := { s.fw with
      blocks := vset s.fw.blocks 3 (extendBlock (vget 0 s.fw.blocks 3) (shake512 map)) } }
    s.mbDone 0

/-- SETPOD (R518): once after module reset. -/
def State.setpod (s : State) (d : Wide) : State :=
  if !s.serves then s
  else if s.fw.pod.isSome then s.mbDone 1
  else ({ s with fw := { s.fw with pod := some d } }).mbDone 0

/-- The phase's number (Table 21-5). -/
def HoPhase.code : HoPhase → Nat
  | .idle => 0
  | .switched => 1
  | .committed => 2
  | .rolledBack => 3

/-- INFO (Table 21-6): versions of each complex, ACT and PHASE. -/
def State.info (s : State) : State :=
  if !(s.serves || s.fw.recovery) then s
  else
    let one (v : Half × Half × Word) : List Byte := toBytes 2 v.1.toNat ++ toBytes 2 v.2.1.toNat ++ toBytes 4 v.2.2.toNat
    let v := one (vget (0, 0, 0) s.fw.versions 0) ++ one (vget (0, 0, 0) s.fw.versions 1)
    ({ s with fw := { s.fw with info := v ++ toBytes 4 s.fw.act ++ toBytes 4 s.fw.phase.code } }).mbDone 0

/-- A mailbox command is served (Table 21-6); no other number is a command. In recovery the boot ROM serves STAGE and INFO
alone (R530). -/
def State.mbRun (s : State) (cmd : Nat) (arg : List Byte) : State :=
  if s.fw.recovery && decide (cmd ≠ 1) && decide (cmd ≠ 5) then s
  else match cmd with
  | 1 => s.stage arg
  | 2 => s.activate
  | 3 => s.setret arg
  | 4 => if arg.length = 64 then s.setpod (ofBytes64 arg) else s.mbDone 1
  | 5 => s.info
  | _ => s.mbDone 1

/-- The firmware serves the commands written, one at a time and in order (R521). -/
def State.mbServe (s : State) : Nat → State
  | 0 => s
  | n + 1 =>
    if s.fw.mbBusy || !(s.serves || s.fw.recovery) then s
    else match s.fw.mbQueue with
      | [] => s
      | (c, a) :: rest => (({ s with fw := { s.fw with mbQueue := rest } }).mbRun c a).mbServe n

/-- A command is written to the mailbox (R521, R530). Before Crown A is ready only its boot ROM's recovery serves any. -/
def State.mbCommand (s : State) (cmd : Nat) (arg : List Byte) : State :=
  if !(s.bu.ready.getLsbD 26 || s.fw.recovery) then s
  else ({ s with fw := { s.fw with mbQueue := s.fw.mbQueue ++ [(cmd, arg)] } }).mbServe (s.fw.mbQueue.length + 1)

/-! ### Crown and control space (R398, R509, R523) -/

/-- SBSTAT.STATE (Table 21-7). -/
def SbState.code : SbState → Nat
  | .reset => 0
  | .booting => 1
  | .ready => 2
  | .refused => 3

/-- A write of CRN_FW_HOCTL: GO, ABORT or DONE alone (R526). -/
def State.hoctl (s : State) (v : Nat) : State :=
  match bit v 31, bit v 30, bit v 29 with
  | true, false, false => s.handoverGo (BitVec.ofNat 32 v)
  | false, true, false => s.handoverAbort
  | false, false, true => s.handoverDone
  | _, _, _ => s

/-- A write of a firmware or identity register (Table 21-7), HBEAT apart; none where none stands. -/
def State.fwWrite (s : State) (off n v : Nat) : Option State :=
  match off, n with
  | 0xA0000, 4 => some s
  | 0xA0008, 4 =>
    let s := { s with fw := { s.fw with img := BitVec.ofNat 16 (bits v 23 8) } }
    let s := if bit v 0 then s.standbyReset else s
    some (if bit v 1 then s.standbyBoot (BitVec.ofNat 16 (bits v 23 8)) else s)
  | 0xA0010, 4 => some s
  | 0xA0018, 4 => some (s.hoctl v)
  | 0xA0020, 4 => some s
  | 0xA0030, 4 => some (s.arbWrite (BitVec.ofNat 32 v))
  | 0xA0100, 4 => some (if bit v 31 then s.idSignGo else s)
  | 0xA0108, 8 => some { s with fw := { s.fw with idMsg := BitVec.ofNat 64 v &&& 0x00FFFFFF00FFFFFF } }
  | _, _ => none

/-- What these registers read. -/
def State.fwRead (s : State) (off n : Nat) : Option Nat :=
  let f := s.fw
  let bytes (l : List Byte) (o : Nat) : Nat := ofBytes ((upTo n).map fun i => nth 0 l (o + i))
  match off, n with
  | 0xA0000, 4 => some (f.act + 2 * ofBool (decide (f.phase = .switched)))
  | 0xA0008, 4 => some (f.img.toNat * 256)
  | 0xA0010, 4 => some (f.sb.code + f.sbReason.toNat * 256)
  | 0xA0018, 4 => some 0
  | 0xA0020, 4 => some (f.phase.code + 256 * ofBool f.hang)
  | 0xA0028, 4 => some 0
  | 0xA0030, 4 => some s.arbOf.toNat
  | 0xA0100, 4 => some (ofBool f.idBusy + 2 * ofBool f.idErr)
  | 0xA0108, 8 => some f.idMsg.toNat
  | _, _ =>
    if decide (0xA1000 ≤ off) && decide (off + n ≤ 0xA1800) && decide (off % n = 0) then some (bytes idPub (off - 0xA1000))
    else if decide (0xA4000 ≤ off) && decide (off + n ≤ 0xA8000) && decide (off % n = 0) then
      some (bytes Config.idCert (off - 0xA4000))
    else none

/-- A register write at an offset of crown and control space, CRN_FW_HBEAT apart (Table 17-2). -/
def State.regWrite (s : State) (o n v : Nat) : Option State :=
  if o < 0x1000000 then none
  else if o < 0x2000000 then
    let f := o - 0x1000000
    if f < 0x80000 then s.feWrite f n v
    else if f < 0xA0000 then s.relWrite f n v
    else if f < 0xB0000 then s.fwWrite f n v
    else s.buWrite f n v
  else if o < 0x4000000 then s.brWrite (o - 0x2000000) n v
  else if o < 0x4001000 then s.xlWrite (o - 0x4000000) n v
  else if decide (0x4010000 ≤ o) && decide (o < 0x4018000) && decide (o % 2 = 0) && decide (n = 2) then
    let g := (o - 0x4010000) / 2
    some { s with
      bankOwner := tabSet s.bankOwner g (BitVec.ofNat 16 v)
      bankOwnerWas := if (s.bankOwnerWas.lookup g).isSome then s.bankOwnerWas else (g, s.bankOwnerOf g) :: s.bankOwnerWas }
  else none

/-- A register read there. -/
def State.regRead (s : State) (o n : Nat) : Option Nat :=
  if o < 0x1000000 then none
  else if o < 0x2000000 then
    let f := o - 0x1000000
    if f < 0x80000 then s.feRead f n
    else if f < 0xA0000 then s.relRead f n
    else if f < 0xB0000 then s.fwRead f n
    else s.buRead f n
  else if o < 0x4000000 then s.brRead (o - 0x2000000) n
  else if o < 0x4001000 then s.xlRead (o - 0x4000000) n
  else if decide (0x4010000 ≤ o) && decide (o < 0x4018000) && decide (o % 2 = 0) && decide (n = 2) then
    some (s.bankOwnerOf ((o - 0x4010000) / 2)).toNat
  else none

/-- Offset of CRN_FW_HBEAT in crown and control space. -/
def hbeatOff : Nat := 0x10A0028
/-- Offset of CRN_FW_HOCTL. -/
def hoctlOff : Nat := 0x10A0018

/-- Crown SRAM or a register of that width stands at an offset of crown and control space (R398). -/
def State.crnStands (s : State) (o n : Nat) : Bool :=
  decide (o + n ≤ 0x1000000) || (s.regWrite o n 0).isSome || (s.regRead o n).isSome || (decide (o = hbeatOff) && decide (n = 4))

/-- A write performed in crown and control space: crown SRAM or a register; NO_TARGET where nothing stands. -/
def State.crnPut (s : State) (o : Nat) (bs : List Byte) : Byte × State :=
  let n := bs.length
  if o + n ≤ 0x1000000 then (stOK, s.csramPut o bs)
  else
    match s.regWrite o n (ofBytes bs) with
    | some s' => (stOK, s')
    | none => if decide (o = hbeatOff) && decide (n = 4) then (stOK, s) else (stNoTarget, s)

/-- The committing complex extends the activation log with its image's digest (Table 21-3). -/
def Fw.logActivation (f : Fw) : Fw :=
  { f with blocks := vset f.blocks 1 (extendBlock (vget 0 f.blocks 1) (toBytes64 (vget 0 f.imgM f.act))) }

/-- HEARTBEAT (R522, R525): while SWITCHED it commits within 20 ms, the old complex becomes standby, and the held writes
perform in their order; after that it keeps the module from hanging, if it comes in time. -/
def State.heartbeat (s : State) : State :=
  if s.handoverDue then s.rollback
  else if s.hangDue then s.heartbeatHang
  else if s.fw.phase = .switched then
    let s := s.resetComplex s.fw.standby
    let held := s.fw.heldWrites
    let s := { s with fw := { s.fw with phase := .committed, sb := .reset, heldWrites := [], sessions := []
                                        lastBeat := s.clk, watch := true } }
    let s := held.foldl (fun s w => (s.crnPut w.1 w.2).2) s
    ({ s with fw := s.fw.logActivation }).serveWaiting
  else { s with fw := { s.fw with lastBeat := s.clk } }

/-- A write to crown and control space by a complex (R398, R509, R523): where nothing stands it ends NO_TARGET; the standby's
is dropped; a provisional complex's is held, its heartbeat and its HOCTL apart. -/
def State.crnWrite (s : State) (complex o : Nat) (bs : List Byte) : Byte × State :=
  let hoctl := decide (o = hoctlOff) && decide (bs.length = 4)
  if !s.crnStands o bs.length then (stNoTarget, s)
  else if complex ≠ s.fw.act then (stOK, s)
  else if decide (o = hbeatOff) && decide (bs.length = 4) then (stOK, s.heartbeat)
  else if s.fw.phase = .switched then
    if hoctl then (stOK, if bit (ofBytes bs) 31 || bit (ofBytes bs) 29 then s else s.hoctl (ofBytes bs))
    else (stOK, { s with fw := { s.fw with heldWrites := s.fw.heldWrites ++ [(o, bs)] } })
  else if hoctl && bit (ofBytes bs) 30 then (stOK, s)
  else s.crnPut o bs

/-- A read of crown and control space: bytes with their tags, or NO_TARGET. -/
def State.crnRead (s : State) (o n : Nat) : Byte × List (Byte × Bool) :=
  if o + n ≤ 0x1000000 then (stOK, taggedRead s.csram s.csramPoison 8 o n)
  else
    match s.regRead o n with
    | some v => (stOK, clean (toBytes n v))
    | none => (stNoTarget, [])

/-- CRN_REGISTER_WRITE: a register write by the active complex. -/
def State.crnRegisterWrite (s : State) (addr n : Nat) (v : BitVec 256) : State :=
  if decide (addr < crownBase) || decide (32 < n) then s
  else (s.crnWrite s.fw.act (addr - crownBase) (toBytes n v.toNat)).2

/-- What the host reads in BAR 4 (Table 21-6, R530): STATUS reads zero until Crown A is ready. -/
def State.mailboxRead (s : State) (off n : Nat) : Nat :=
  match off with
  | 0x0008 => s.fw.mbArg.toNat
  | 0x0010 => s.fw.mbLen.toNat
  | 0x0018 => if s.bu.ready.getLsbD 26 then s.fw.mbStatus.toNat else 0
  | _ => if off < 0x1000 then 0 else ofBytes ((upTo n).map fun i => nth 0 s.fw.info (off - 0x1000 + i))

/-- A host write into a BAR (R474, R447, R424, R464, R521, R530). -/
def State.barWrite (s : State) (bar off n v : Nat) : State :=
  match bar with
  | 0 =>
    if !s.bu.ready.getLsbD 26 || decide (n ≠ 4) then s
    else
      match off % 4096 with
      | 0 => s.launchAbort (off / 4096) (BitVec.ofNat 32 v)
      | 4 => s.ringNudge (off / 4096)
      | _ => s
  | 2 => if !s.bu.ready.getLsbD 26 then s else s.pageWrite (off / 4096) (off % 4096) n v
  | 4 =>
    match off with
    | 0x0008 => { s with fw := { s.fw with mbArg := BitVec.ofNat 64 v } }
    | 0x0010 => { s with fw := { s.fw with mbLen := BitVec.ofNat 64 v } }
    | 0x0000 =>
      s.mbCommand (v % 256) (s.host.read s.fw.mbArg.toNat (min s.fw.mbLen.toNat 4194305))
    | _ => s
  | _ => s

/-! ### The rows of this chapter -/

/-- BRINGUP_CHECK_DONE. -/
def execBringupCheckDone (fn : Nat) (pass : Bool) (s : State) : Host.Outcome State Fault Refusal := .next (s.bringup fn pass)
/-- CRN_REGISTER_WRITE. -/
def execCrnRegisterWrite (addr n : Nat) (v : BitVec 256) (s : State) : Host.Outcome State Fault Refusal :=
  .next (s.crnRegisterWrite addr n v)
/-- STANDBY_RESET. -/
def execStandbyReset (s : State) : Host.Outcome State Fault Refusal := .next s.standbyReset
/-- STANDBY_BOOT. -/
def execStandbyBoot (img : BitVec 16) (s : State) : Host.Outcome State Fault Refusal := .next (s.standbyBoot img)
/-- BOOT_ROM_DONE. -/
def execBootRomDone (s : State) : Host.Outcome State Fault Refusal := .next s.bootRomDone
/-- HANDOVER_GO. -/
def execHandoverGo (v : Word) (s : State) : Host.Outcome State Fault Refusal := .next (s.handoverGo v)
/-- HANDOVER_ABORT. -/
def execHandoverAbort (s : State) : Host.Outcome State Fault Refusal := .next s.handoverAbort
/-- HANDOVER_DONE. -/
def execHandoverDone (s : State) : Host.Outcome State Fault Refusal := .next s.handoverDone
/-- HEARTBEAT. -/
def execHeartbeat (s : State) : Host.Outcome State Fault Refusal := .next s.heartbeat
/-- HANDOVER_TIMEOUT. -/
def execHandoverTimeout (s : State) : Host.Outcome State Fault Refusal := .next s.handoverTimeout
/-- HEARTBEAT_HANG. -/
def execHeartbeatHang (s : State) : Host.Outcome State Fault Refusal := .next s.heartbeatHang
/-- ARB_WRITE. -/
def execArbWrite (n : Word) (s : State) : Host.Outcome State Fault Refusal := .next (s.arbWrite n)
/-- ID_SIGN_GO. -/
def execIdSignGo (s : State) : Host.Outcome State Fault Refusal := .next s.idSignGo
/-- ID_SIGN_DONE. -/
def execIdSignDone (s : State) : Host.Outcome State Fault Refusal := .next s.idSignDone
/-- STAGE. -/
def execStage (img : List Byte) (s : State) : Host.Outcome State Fault Refusal := .next (s.mbCommand 1 img)
/-- ACTIVATE. -/
def execActivate (s : State) : Host.Outcome State Fault Refusal := .next (s.mbCommand 2 [])
/-- SETRET. -/
def execSetret (map : List Byte) (s : State) : Host.Outcome State Fault Refusal := .next (s.mbCommand 3 map)
/-- SETPOD. -/
def execSetpod (d : Wide) (s : State) : Host.Outcome State Fault Refusal := .next (s.mbCommand 4 (toBytes64 d))
/-- INFO. -/
def execInfo (s : State) : Host.Outcome State Fault Refusal := .next (s.mbCommand 5 [])
/-- SPDM_REQUEST. -/
def execSpdmRequest (r : SpdmReq) (s : State) : Host.Outcome State Fault Refusal := .next (s.spdm r)
/-- SET_FABRIC_KEY. -/
def execSetFabricKey (i : Nat) (o : BitVec 16) (key : BitVec 256) (s : State) : Host.Outcome State Fault Refusal :=
  .next (s.setFabricKey i o key)
/-- CLEAR_FABRIC_KEY. -/
def execClearFabricKey (i : Nat) (o : BitVec 16) (s : State) : Host.Outcome State Fault Refusal :=
  .next (s.clearFabricKey i o)

end Sys2Proof.Machine
end

