-- ==== Sys2Proof/Machine/Order.lean ====
section
/-! DEFINITION. The order of a tile's accesses (R376–R378, R384) and the fences (R360): which outstanding accesses a later
one must follow, and which later bundles wait. -/

namespace Sys2Proof.Machine

/-- Two ranges of addresses meet. -/
def meets (a n b m : Nat) : Bool := decide (a < b + m) && decide (b < a + n)

/-- Bytes that a far access touches at each destination. -/
def FarKind.size : FarKind → Nat
  | .load n => n
  | .store n => n
  | .multi => 64
  | .reduce _ => 64
  | .atomic _ n => n
  | .headpub => 4
  | .ringrd _ _ => 4

/-- The address of a tile's byte under mode 0 (R201). -/
def windowAt (key o : Nat) : Nat := lsWinBase + 2 ^ 17 * key + o

/-- The locations of an access of `n` bytes under a mode, as ranges of addresses; a byte of a local-store window goes by its
address under mode 0 (R201). -/
def placesAt (a n mode : Nat) : List (Nat × Nat) :=
  if decide (region a ≠ .window) || mode = 0 then [(a, n)]
  else if mode = 1 then
    (upTo ((n + 3) / 4)).map fun i => let w := winDecode (a + 4 * i) 1; (windowAt w.1 w.2, min n 4)
  else let w := winDecode a mode; [(windowAt w.1 w.2, n)]

/-- The locations of a far access. -/
def FarReq.places (r : FarReq) : List (Nat × Nat) :=
  r.dests.flatMap fun d => placesAt d.addr.toNat r.kind.size d.mode.toNat

/-- What a later access is, as far as its order goes: its class, the classes that it orders as a release, and the
locations it touches. -/
structure Later where
  cls : Nat
  relmask : Word := 0
  touches : Nat → Nat → Bool := fun _ _ => false

/-- Locations given as a list of ranges. -/
def touching (ps : List (Nat × Nat)) (a n : Nat) : Bool := ps.any fun p => meets p.1 p.2 a n

/-- An access of class `c` precedes a later one by its class, or because a release orders it (R378, R384). -/
def Later.byClass (b : Later) (c : Nat) : Bool :=
  decide (c = b.cls) || decide (c = 15) || decide (b.cls = 15) || b.relmask.getLsbD c

/-- An outstanding far access precedes a later access of the tile: by class, as an acquire, or at a common location
(R378). -/
def FarReq.precedes (r : FarReq) (b : Later) : Bool :=
  b.byClass r.cls || r.acquire || r.places.any fun p => b.touches p.1 p.2

/-- The ids that fences in force put before a later access of a class (R360, R378). -/
def Tile.fenceIds (t : Tile) (cls : Nat) : List Nat := (t.fences.filter fun f => f.mask.getLsbD cls).flatMap fun f => f.ids

/-- The outstanding accesses of tile `key` that a later one must follow (R378, R384). -/
def Tile.before (t : Tile) (key : Nat) (b : Later) : List Nat :=
  let all := ((t.far.filter fun r => r.precedes b).map fun r => r.id) ++
    ((t.heldStores.filter fun h => b.byClass h.cls || b.touches (windowAt key h.addr) h.len).map fun h => h.id) ++
    (match t.mac with
      | some m => if b.byClass 0 || m.spans.any (fun p => b.touches (windowAt key p.1) p.2) then [m.id] else []
      | none => []) ++ t.fenceIds b.cls
  t.openIds.filter all.contains

/-- A fence holds a later access of the class back until the earlier ones have been performed (R360). -/
def Tile.fenceWait (t : Tile) (cls : Nat) : Bool := t.anyOpen (t.fenceIds cls)

/-- A fence before every later access holds an engine operation that has no class back (R360, R370). -/
def Tile.fenceAll (t : Tile) : Bool :=
  t.anyOpen ((t.fences.filter fun f => decide (f.mask = 0xFFFF)).flatMap fun f => f.ids)

/-- A fence of the tile: later accesses of the classes of `mask` wait for those outstanding accesses that `ids` names. -/
def Tile.addFence (t : Tile) (mask : BitVec 16) (ids : List Nat) : Tile :=
  let ids := t.openIds.filter ids.contains
  let kept := t.fences.filter fun f => t.anyOpen f.ids
  { t with fences := if ids.isEmpty then kept else kept ++ [{ mask, ids }] }

/-- Stores of a class to ranges of the local store, held from other agents until the accesses of `ids` have been performed
(R276). -/
def Tile.holdStores (t : Tile) (cls : Nat) (ids : List Nat) (ps : List (Nat × Nat)) : Tile :=
  if ids.isEmpty then t
  else ps.foldl (fun t p =>
    { t with heldStores := t.heldStores ++ [{ id := 2 ^ 64 + t.holdNo, addr := p.1, len := p.2, cls, ids }]
             holdNo := t.holdNo + 1 })
    { t with heldStores := t.heldStores.filter fun h => t.anyOpen h.ids }

/-- A plain store that follows a fence of its class is held as a release store is: the fence and the store are a release
(R384). -/
def Tile.holdFenced (t : Tile) (cls : Nat) (ps : List (Nat × Nat)) : Tile :=
  t.holdStores cls (t.openIds.filter (t.fenceIds cls).contains) ps

end Sys2Proof.Machine
end

