-- ==== Sys2Proof/Machine/Far.lean ====
section
/-! DEFINITION. Far accesses from their tile to their home and back (R299–R305, R405, R406, R418, R569, R570). -/

namespace Sys2Proof.Machine

/-! ### Times (R451, R569, R570) -/

/-- The tile at the centre of a die, to which H is counted for bank memory and for the memory controller (R451). -/
def dieCentre (d : Nat) : Nat := d * 16384 + 40 * 128 + 64

/-- H + 38X between two tiles. -/
def meshTime (a b : Nat) : Nat := hops a b + 38 * dieEdges (tileDie a) (tileDie b)

/-- A list without the repeats that stand side by side. -/
def noRepeat : List Nat → List Nat
  | a :: b :: l => if a = b then noRepeat (b :: l) else a :: noRepeat (b :: l)
  | l => l

/-- The dies whose distances a paged access pays on its way to its home, its home last, and the time that its memory adds: the
home alone where its cache holds the translation, else a further round trip between the home and its shard (R411, R569), over
die HOME where the segment gives the hint (R405). A crown tile's access enters at the first die of R411 (R570). -/
def State.pagedWay (s : State) (crown : Bool) (a asid : Nat) (hint : Option Nat) (cached : Bool) : List Nat × Nat :=
  let first := s.firstDie a asid hint
  match (if cached then s.cachedPte first a asid else none) with
  | some _ => ([first], 150)
  | none =>
    let sh := s.xl.shard a asid
    match s.lookupPage a asid with
    | .entry _ _ p =>
      if p.kind = 0 then (noRepeat (if crown || hint.isSome then [first, p.home, sh, p.home] else [p.home, sh, p.home]), 150)
      else (noRepeat [first, sh], if p.kind = 1 then 60 else 0)
    | _ => (noRepeat [first, sh], 0)

/-- H + 38X along dies' centres from one to the last. -/
def wayTime : Nat → List Nat → Nat
  | _, [] => 0
  | k, d :: r => meshTime k (dieCentre d) + wayTime (dieCentre d) r

/-- The least number of cycles from a tile to the home of one destination, and back (R569, R570). A crown tile's access
enters at the die's crown port. Where no rule gives a time there is no bound. -/
def State.farTimes (s : State) (key : Nat) (d : FarDest) (cached : Bool) : Nat × Nat :=
  let a := d.addr.toNat
  let tgt (k : Nat) : Nat × Nat :=
    if isCrown key then (60 + hops (dieCentre (tileDie k)) k, 60 + hops (dieCentre (tileDie k)) k)
    else (12 + meshTime key k, 12 + meshTime key k)
  match region a with
  | .window =>
    let k := (winDecode a d.mode.toNat).1
    if winCluster a d.mode.toNat < 160 then tgt k else if isCrown key then (60, 60) else (12, 12)
  | .bank => tgt (dieCentre (bits (a - bankBase) 29 26))
  | .crown => if isCrown key then (20, 20) else (60, 60)
  | .paged =>
    match s.pagedWay (isCrown key) a d.owner.toNat (if d.hen then some d.home.toNat else none) cached with
    | ([], _) => (0, 0)
    | (h :: r, extra) =>
      let home := (h :: r).getLast?.getD h
      if isCrown key then
        if extra = 60 then (0, 0) else (60 + wayTime (dieCentre h) r + extra, 60 + meshTime (dieCentre home) (dieCentre h))
      else (12 + wayTime key (h :: r) + extra, 12 + meshTime (dieCentre home) key + if extra = 60 then 60 else 0)
  | .reduce | .none => (0, 0)

/-- The greatest of a list of numbers. -/
def maxOf (l : List Nat) : Nat := l.foldl max 0

/-! ### One destination at its home -/

/-- An access by a tile to one destination (R406). -/
def State.accessOf (s : State) (key : Nat) (r : FarReq) (d : FarDest) (n : Nat) (op : AccOp) (ext : ExtReply) : Access :=
  { addr := d.addr.toNat, n, mode := d.mode.toNat, op, issuer := r.issuer, target := d.owner
    launch := (s.tile key).launch, die := tileDie key, crown := isCrown key
    hint := if d.hen then some d.home.toNat else none
    agent := .far, cls := r.cls, src := key, req := r.id, seqNo := some r.seqNo, ext }

/-- The front-end, bridge and translation blocks: only the crown firmware reaches their registers (R419, R448, R478, R508,
R542). -/
def firmwareOnly (o : Nat) : Bool := decide (0x1000000 ≤ o) && decide (o < 0x4001000)

/-- An access that reaches crown and control space (R570, R304, R523). -/
def State.crownSpace (s : State) (key o n : Nat) (op : AccOp) : AccOut × State :=
  if !isCrown key && firmwareOnly o then (.done stNoTarget [], s)
  else match op with
  | .read => let r := s.crnRead o n; (.done r.1 r.2, s)
  | .write bs =>
    let r := if isCrown key then s.crnWrite (crownComplex key) o (bs.map Prod.fst) else s.crnPut o (bs.map Prod.fst)
    (.done r.1 [], r.2)
  | .atomic _ _ => (.done (if s.crnStands o n then stNotAtomic else stNoTarget) [], s)

/-- Where atomics and reductions perform (R304). -/
def atomicRegion (g : Region) : Bool :=
  match g with
  | .paged | .bank | .reduce => true
  | _ => false

/-- One destination performed, or its denial (R297, R304). -/
def State.performAt (s : State) (key : Nat) (a : Access) : AccOut × State :=
  match a.op, region a.addr with
  | _, .none => (.done stNoTarget [], s)
  | op, .crown => s.crownSpace key (a.addr - crownBase) a.n op
  | .atomic _ _, g => if atomicRegion g then s.access a else (.done stNotAtomic [], s)
  | _, _ => s.access a

/-- What a multi-destination access has come to: performed at every destination so far, denied at one of them, or unable
to perform yet. -/
inductive MultiOut where
  | ok (data : List (Byte × Bool))
  | denied (i : Nat) (status : Byte)
  | later
  deriving DecidableEq, Repr

/-- Destinations in ascending order; the first that denies gives the status (R302), although an earlier one may have to wait. -/
def State.performAll (s : State) (key : Nat) (r : FarReq) (n : Nat) (op : AccOp) (ext : ExtReply) :
    Nat → List FarDest → MultiOut × State
  | _, [] => (.ok [], s)
  | i, d :: ds =>
    match s.performAt key (s.accessOf key r d n op ext) with
    | (.done 0 bs, s') =>
      match s'.performAll key r n op ext (i + 1) ds with
      | (.ok cs, s'') => (.ok (bs ++ cs), s'')
      | x => x
    | (.done st _, s') => (.denied i st, s')
    | (_, s') =>
      match s'.performAll key r n op ext (i + 1) ds with
      | (.denied k st, s'') => (.denied k st, s'')
      | (_, s'') => (.later, s'')

/-- What a far access does at each destination. -/
def FarReq.op (r : FarReq) : AccOp :=
  let data := wideBytes r.data
  match r.kind with
  | .load _ | .ringrd _ _ => .read
  | .store n => .write (clean (data.take n))
  | .multi => .write (clean data)
  | .headpub => .write (clean (data.take 4))
  | .reduce rop => .atomic (.red rop) data
  | .atomic op n =>
    if op < 8 then .atomic (.red op) (data.take n)
    else if op = 8 then .atomic .swap (data.take n)
    else .atomic .cas (data.take (2 * n))

/-! ### The request's progress -/

/-- A tile's request of an id changed, at the tile and at its twin (R493). -/
def State.modFar (s : State) (key i : Nat) (f : FarReq → FarReq) : State :=
  let upd (t : Tile) : Tile := { t with far := t.far.map fun r => if r.id = i then f r else r }
  let s1 := s.modTile key upd
  match (s.tile key).launch.bind s.launch? with
  | some l => if l.dual then s1.modTile (l.twinOf (s.tile key).tlin) upd else s1
  | none => s1

/-- The tile, and in a DUAL launch its twin, changed: a landing or a reply is mirrored (R493). -/
def State.modBoth (s : State) (key : Nat) (f : Tile → Tile) : State :=
  match (s.tile key).launch.bind s.launch? with
  | some l => if l.dual then (s.modTile key f).modTile (l.twinOf (s.tile key).tlin) f else s.modTile key f
  | none => s.modTile key f

/-- A request may be performed at its home in this cycle: it has travelled, every access that precedes it has been
performed, and in a DUAL launch its message has been compared (R378, R384, R491, R569). -/
def State.farReady (s : State) (key : Nat) (r : FarReq) (cached : Bool) : Bool :=
  let t := s.tile key
  r.open_ && !s.isTwin key && !t.awaits s.clk r.after && (!s.isDual key || t.compared r.msg) &&
    decide (r.issuedAt + maxOf (r.dests.map fun d => (s.farTimes key d cached).1) ≤ s.clk)

/-- The first cycle of a reply to a request performed now (R454, R569). -/
def State.farReplyAt (s : State) (key : Nat) (r : FarReq) (cached : Bool) : Nat :=
  maxOf (r.dests.map fun d =>
    if region d.addr.toNat = .reduce then r.issuedAt + 150 else s.clk + (s.farTimes key d cached).2)

/-- The escapement waits for the request (R309): a store, a reduction or an atomic. -/
def FarReq.escaped (r : FarReq) : Bool :=
  match r.kind with
  | .store _ | .multi | .reduce _ | .atomic _ _ => true
  | _ => false

/-- The escapement notes a request that it waits for (R174, R309). -/
def State.escFar (s : State) (l : Option Nat) (r : FarReq) : State := if r.escaped then s.escNote l else s

/-- The events that an access with several destinations raises although it performs at none of them (R302, R410). -/
def State.multiEvents (s : State) (key : Nat) (r : FarReq) (ext : ExtReply) : List RawEvent :=
  r.dests.flatMap fun d => (s.accessRaw (s.accessOf key r d r.kind.size r.op ext)).2.2

/-- An access with several destinations that is held at some of their pages: it keeps its places at all of them (R412). -/
def State.keepMulti (s s' : State) : State :=
  let s1 := s.keepHolds s'
  { s1 with xl := { s1.xl with held := s.xl.held ++ s'.xl.held.filter fun h => !s.xl.held.contains h } }

/-- Removes what is held of a request of a tile. -/
def State.unholdReq (s : State) (key i : Nat) : State :=
  if s.xl.held.isEmpty then s
  else { s with xl := { s.xl with held := s.xl.held.filter fun h =>
    !(decide (h.agent = .far) && decide (h.tile = key) && decide (h.req = i)) } }

/-- A reply that must cross an edge that is down on its way back: the request has performed, and completes with LINK_FAIL
(R452). -/
def State.replyLost (s : State) (key : Nat) (r : FarReq) : Bool :=
  !isCrown key && r.dests.any fun d =>
    match region d.addr.toNat with
    | .window => s.pathDown (tileDie (winDecode d.addr.toNat d.mode.toNat).1) (tileDie key)
    | .bank => s.pathDown (bits (d.addr.toNat - bankBase) 29 26) (tileDie key)
    | .paged => match s.lookupPage d.addr.toNat d.owner.toNat with
      | .entry _ _ p => decide (p.kind = 0) && s.pathDown p.home (tileDie key)
      | _ => false
    | _ => false

/-- A request of a fenced tile that waits at its home is performed there, and its reply dropped (R499). -/
def State.orphanAccess (s : State) (key i : Nat) (ext : ExtReply) : State :=
  match s.orphans.find? fun o => decide (o.1 = key) && decide (o.2.id = i) with
  | none => s
  | some (_, r) =>
    match s.performAll key r r.kind.size r.op ext 0 r.dests with
    | (.later, s') => if r.dests.length = 1 then s' else s.keepMulti s'
    | (.denied _ _, s') =>
      let s0 := if r.dests.length = 1 then s' else (s.raiseAll (s.multiEvents key r ext)).unholdReq key i
      { s0 with orphans := s0.orphans.filter fun o => !(decide (o.1 = key) && decide (o.2.id = i)) }
    | (.ok _, s') => { s'.unholdReq key i with orphans := s'.orphans.filter fun o => !(decide (o.1 = key) && decide (o.2.id = i)) }

/-- FAR_ACCESS_AT_HOME: request i of a tile performs at its home, or at all of its homes, or at none (R302, R406). -/
def State.farAccess (s : State) (key i : Nat) (ext : ExtReply) : State :=
  match (s.tile key).far.find? fun r => decide (r.id = i) with
  | none => s.orphanAccess key i ext
  | some r =>
    if !s.farReady key r ext.cached then s
    else
      let at_ := s.farReplyAt key r ext.cached
      match s.performAll key r r.kind.size r.op ext 0 r.dests with
      | (.later, s') =>
        (if r.dests.length = 1 then s' else s.keepMulti s').modFar key i fun r => { r with phase := .waiting }
      | (.denied k st, s') =>
        let s0 := if r.dests.length = 1 then s' else (s.raiseAll (s.multiEvents key r ext)).unholdReq key i
        let lidx : BitVec 6 := if 1 < r.dests.length then BitVec.ofNat 6 k else 0
        (s0.modFar key i fun r => { r with phase := .performed st [] false, replyAt := at_, lidx, doneAt := some s.clk }).escFar
          (s.tile key).launch r
      | (.ok bs, s') =>
        let bytes := bs.map Prod.fst
        let data := match r.kind with
          | .ringrd _ _ => bytes.take 4 ++ [if ofBytes (bytes.drop 4) = (lane r.data 0).toNat then (1 : Byte) else 0]
          | _ => bytes
        let bad := match r.kind with
          | .ringrd _ _ => (bs.take 4).any Prod.snd
          | _ => bs.any Prod.snd
        let done : FarPhase := if s.replyLost key r then .performed stLinkFail [] false else .performed stOK data bad
        ((s'.unholdReq key i).modFar key i fun r => { r with phase := done, replyAt := at_, doneAt := some s.clk }).escFar
          (s.tile key).launch r

/-- The home drops its record of an atomic that the source's router has confirmed (R418). -/
def State.confirm (s : State) (key : Nat) (r : FarReq) : State :=
  match r.op with
  | .read | .write _ => s
  | .atomic _ _ =>
  let kept := s.xl.applied.filter fun a => !(decide (a.src = key) && decide (a.seqNo = r.seqNo))
  { s with xl := { s.xl with applied := kept } }

/-- FAR_LOAD_REPLY: the reply of request i reaches its tile. Of a program's request it is held while the tile is in
supervisor mode (R43, R299). -/
def State.farReply (s : State) (key i : Nat) : State :=
  match (s.tile key).far.find? fun r => decide (r.id = i) with
  | none => s
  | some r =>
    match r.phase with
    | .performed st data bad =>
      if !r.replies || s.isTwin key || decide (s.clk < r.replyAt) then s
      else
        (s.confirm key r).modBoth key fun t =>
          if t.sup && !r.sup && !r.drop then
            { t with far := t.far.map fun q => if q.id = i then { q with phase := .held st data bad } else q }
          else match t.far.find? fun q => decide (q.id = i) with
            | some q => t.writeReply q st data bad
            | none => t
    | _ => s

/-- FAR_STORE_ACK: the acknowledgement of request i reaches its tile: the counter counts its bytes, or takes a FAULT; a
status that is not OK shows in `ch.s` (R296, R300, R302, R315). -/
def State.farAck (s : State) (key i : Nat) : State :=
  match (s.tile key).far.find? fun r => decide (r.id = i) with
  | none => s
  | some r =>
    match r.phase with
    | .performed st _ _ =>
      if r.replies || s.isTwin key || decide (s.clk < r.replyAt) then s
      else
        let s := (s.confirm key r).modBoth key fun t => { t with far := t.far.filter fun q => decide (q.id ≠ i) }
        if st = stOK then
          match r.cc with
          | some c => s.countAt key c (r.kind.size * r.dests.length)
          | none => s
        else
          let s := match r.cc with
            | some c => s.faultCounter key c st
            | none => s
          s.modBoth key fun t => let t := t.nackWith st r.lidx; if r.cc.isSome then t else t.countEvent 9
    | _ => s

/-! ### The rows -/

/-- FAR_LOAD_REPLY. -/
def execFarLoadReply (t i : Nat) (s : State) : Host.Outcome State Fault Refusal := .next (s.farReply t i)
/-- FAR_STORE_ACK. -/
def execFarStoreAck (t i : Nat) (s : State) : Host.Outcome State Fault Refusal := .next (s.farAck t i)
/-- FAR_ACCESS_AT_HOME. -/
def execFarAccessAtHome (t i : Nat) (ext : ExtReply) (s : State) : Host.Outcome State Fault Refusal :=
  .next (s.farAccess t i ext)

end Sys2Proof.Machine
end

