-- ==== Sys2Proof/Machine/Ls.lean ====
section
/-! DEFINITION. The load/store socket (chapter 11). A is the address word in `ls.a`, B the data in `ls.b`, v the trigger
value, c the trigger cycle. -/

namespace Sys2Proof.Machine

/-! ### Addresses and checks (R270, R271, R275, R280) -/

/-- Latch `ls.b`. -/
def Ctx.lsB (x : Ctx) : Wide := x.lat.latch 5 1
/-- MODE of the address word. -/
def Ctx.awMode (x : Ctx) : Nat := bits x.a.toNat 23 22
/-- CLASS of the address word. -/
def Ctx.awClass (x : Ctx) : Nat := bits x.a.toNat 27 24
/-- SCOPE of the address word. -/
def Ctx.awScope (x : Ctx) : Nat := bits x.a.toNat 31 28
/-- BASE of the address word. -/
def Ctx.awBase (x : Ctx) : Nat := bits x.a.toNat 16 0

/-- The index v, or its low halfword (Tables 11-2, 11-3). -/
def Ctx.index (x : Ctx) (half : Bool) : Int := if half then sextNat x.n.toNat 16 else x.n.toInt

/-- The effective address (R271). -/
def Ctx.ea (x : Ctx) (z : Nat) (off : Int) : Int :=
  match x.awMode with
  | 0 => x.awBase + off
  | 1 => x.awBase + off * z
  | 2 => x.awBase
  | _ => (off % 2 ^ 17).toNat

/-- The post-increment of MODE 2, at the end of the cycle (R271, R193). -/
def Ctx.postInc (x : Ctx) (off : Int) (t : Tile) : Tile :=
  if x.awMode = 2 then
    t.setLatch 5 0 (wideOf (BitVec.ofNat 32 (x.a.toNat / 2 ^ 17 * 2 ^ 17 + ((x.awBase + off) % 2 ^ 17).toNat)))
  else t

/-- A trap with a local-store address in TINFO (Table 11-4). -/
def Ctx.lsTrap (x : Ctx) (c : Cause) (a : Int) : OpOut := x.trap c (2 ^ 32 * (a % 2 ^ 17).toNat)

/-- Causes 2 to 4 of R280 on the footprint from `ea` over `n` bytes, aligned to `z`. -/
def Ctx.footprint (x : Ctx) (z : Nat) (ea : Int) (n : Nat) : Option OpOut :=
  if ea % z ≠ 0 then some (x.lsTrap .lsAlign ea)
  else if ea < 0 then some (x.lsTrap .lsRange ea)
  else if (lsSize : Int) < ea + n then some (x.lsTrap .lsRange (max ea lsSize))
  else if !x.pre.sup && decide ((supBase : Int) < ea + n) then some (x.lsTrap .privilege (max ea supBase))
  else none

/-- RMW_SLOT: the lowest word of the footprint in the bank of an open window (R285). -/
def Ctx.slotCheck (x : Ctx) (a n : Nat) : Option OpOut :=
  let open_ := x.pre.rmws.filter fun r => r.opens x.clk
  if open_.isEmpty then none
  else ((wordsOf a n).find? fun w => open_.any fun r => decide (bankOf w = bankOf r.addr)).map fun w =>
    x.lsTrap .rmwSlot w

/-- EARLY_READ: the lowest word read with a pending delivery (R283). -/
def Ctx.earlyCheck (x : Ctx) (words : List Nat) : Option OpOut :=
  (words.find? fun w => x.pre.lsPending.contains w).map fun w => x.lsTrap .earlyRead w

/-- The first of several checks that fails, or what follows. -/
def firstTrap (l : List (Option OpOut)) (k : OpOut) : OpOut :=
  match l with
  | [] => k
  | some o :: _ => o
  | none :: r => firstTrap r k

/-- SCOPE_INVALID of a form that carries a scope (R276). -/
def Ctx.scopeCheck (x : Ctx) (scp : Bool) : Option OpOut :=
  if scp && decide (12 ≤ x.awScope) then some (x.trap .scopeInvalid (2 ^ 32 * x.awScope)) else none

/-! ### Loads (R272, R273) -/

/-- What a load gives and how (Table 11-2): its latency, width, and value of the local store and the address. -/
structure LoadForm where
  lat : Nat := 3
  wide : Bool := false
  scp : Bool := false
  val : Tile → Nat → Wide

/-- A load of `z` bytes at one address. -/
def lsLoad (z : Nat) (f : LoadForm) : OpFn := fun x s =>
  let off := x.index false
  let ea := x.ea z off
  let a := ea.toNat
  firstTrap [x.scopeCheck f.scp, x.footprint z ea z, x.slotCheck a z, x.earlyCheck (wordsOf a z)]
    (x.ok s fun t =>
      let t := if x.pre.poisoned a z then t.setCir 0 else t
      x.postInc off (t.result 5 x.clk f.lat f.wide (f.val x.pre a)))

/-- A narrow value of the local store. -/
def ldNarrow (f : Tile → Nat → Nat) (t : Tile) (a : Nat) : Wide := wideOf (BitVec.ofNat 32 (f t a))
/-- A sign-extended value of `n` bytes. -/
def ldSigned (n : Nat) (t : Tile) (a : Nat) : Wide := wideOf (BitVec.ofInt 32 (sextNat (t.mem a n) (8 * n)))
/-- `n` bytes as a wide value, lane 0 lowest. -/
def ldWide (n : Nat) (t : Tile) (a : Nat) : Wide := BitVec.ofNat 512 (t.mem a n)

/-- `ldb` (Table 11-2). -/
def opLsLdb : OpFn := lsLoad 1 { val := ldNarrow fun t a => t.mem a 1 }
/-- `ldbs`. -/
def opLsLdbs : OpFn := lsLoad 1 { val := ldSigned 1 }
/-- `ldh`. -/
def opLsLdh : OpFn := lsLoad 2 { val := ldNarrow fun t a => t.mem a 2 }
/-- `ldhs`. -/
def opLsLdhs : OpFn := lsLoad 2 { val := ldSigned 2 }
/-- `ldw`. -/
def opLsLdw : OpFn := lsLoad 4 { val := ldNarrow fun t a => t.mem a 4 }
/-- `ldd`. -/
def opLsLdd : OpFn := lsLoad 8 { wide := true, val := ldWide 8 }
/-- `ldv`. -/
def opLsLdv : OpFn := lsLoad 64 { wide := true, val := ldWide 64 }
/-- `ldwa`: an acquire (R276). -/
def opLsLdwa : OpFn := lsLoad 4 { scp := true, val := ldNarrow fun t a => t.mem a 4 }
/-- `ldda`: an acquire (R276). -/
def opLsLdda : OpFn := lsLoad 8 { wide := true, scp := true, val := ldWide 8 }

/-- `ldvt`: one word of each of sixteen rows (R273, R275). -/
def opLsLdvt : OpFn := fun x s =>
  let off := x.index true
  let ea := x.ea 4 off
  let a := ea.toNat
  let pitch := bits x.n.toNat 27 16
  let n := 60 * pitch + 4
  let words := (upTo 16).map fun i => a + 4 * pitch * i
  firstTrap [x.footprint 4 ea n, x.slotCheck a n, x.earlyCheck words]
    (x.ok s fun t =>
      let t := if words.any fun w => x.pre.poisoned w 4 then t.setCir 0 else t
      x.postInc off (t.result 5 x.clk 5 true (mkWide fun i => BitVec.ofNat 32 (x.pre.mem (nth 0 words i) 4))))

/-! ### Stores (R274, R276) -/

/-- The data of a store: `z` low bytes of B. -/
def Ctx.storeBytes (x : Ctx) (z : Nat) : List Byte := toBytes z x.lsB.toNat

/-- A plain store of `z` bytes, written at the end of the cycle. -/
def lsStore (z : Nat) : OpFn := fun x s =>
  let off := x.index false
  let ea := x.ea z off
  let a := ea.toNat
  firstTrap [x.footprint z ea z, x.slotCheck a z]
    (x.ok s fun t => x.postInc off ((t.holdFenced x.awClass [(a, z)]).lsWrite x.clk a (x.storeBytes z)))

/-- `stb` (Table 11-3). -/
def opLsStb : OpFn := lsStore 1
/-- `sth`. -/
def opLsSth : OpFn := lsStore 2
/-- `stw`. -/
def opLsStw : OpFn := lsStore 4
/-- `std`. -/
def opLsStd : OpFn := lsStore 8
/-- `stv`. -/
def opLsStv : OpFn := lsStore 64

/-- The lanes of a masked store, written. -/
def Tile.storeLanes (t : Tile) (clk a : Nat) (mask : Nat) (w : Wide) : Tile :=
  ((upTo 16).filter fun i => bit mask i).foldl (fun t i => t.lsWrite clk (a + 4 * i) (toBytes 4 (lane w i).toNat)) t

/-- `stvm` (Table 11-3). -/
def opLsStvm : OpFn := fun x s =>
  let off := x.index true
  let ea := x.ea 64 off
  let a := ea.toNat
  firstTrap [x.footprint 64 ea 64, x.slotCheck a 64]
    (x.ok s fun t =>
      let mask := bits x.n.toNat 31 16
      let held := ((upTo 16).filter fun i => bit mask i).map fun i => (a + 4 * i, 4)
      x.postInc off ((t.holdFenced x.awClass held).storeLanes x.clk a mask x.lsB))

/-- A release store: held from other agents until every access that it orders has been performed (R276, R384). After a
fence it waits before it issues (R360). -/
def lsRelease (z : Nat) : OpFn := fun x s =>
  if x.pre.fenceWait x.awClass then .wait true .late id
  else
    let off := x.index false
    let ea := x.ea z off
    let a := ea.toNat
    firstTrap [x.scopeCheck true, x.footprint z ea z, x.slotCheck a z]
      (x.ok s fun t =>
        let ids := t.before x.key { cls := x.awClass, relmask := x.pre.relmask, touches := touching [(windowAt x.key a, z)] }
        x.postInc off ((t.holdStores x.awClass ids [(a, z)]).lsWrite x.clk a (x.storeBytes z)))

/-- `stwr` (R276). -/
def opLsStwr : OpFn := lsRelease 4
/-- `stdr` (R276). -/
def opLsStdr : OpFn := lsRelease 8

/-! ### Reserved read-modify-writes (R282) -/

/-- A read-modify-write: its window opens, and its value is formed when the window ends. -/
def lsRmw (op : Nat) : OpFn := fun x s =>
  let a := bits x.n.toNat 16 0
  firstTrap [x.footprint 4 a 4, x.slotCheck a 4, x.earlyCheck (wordsOf a 4)]
    (x.ok s fun t =>
      let cls := bits x.n.toNat 27 24
      { (t.holdFenced cls [(a, 4)]).result 5 x.clk 3 false 0 with
        rmws := t.rmws ++ [{ cyc := x.clk, op, addr := a, d := lane x.lsB 0, n := lane x.lsB 1, seq := t.seq }] })

/-- `rmwadd` (R282). -/
def opLsRmwadd : OpFn := lsRmw 0x16
/-- `rmwswap`. -/
def opLsRmwswap : OpFn := lsRmw 0x17
/-- `rmwcas`. -/
def opLsRmwcas : OpFn := lsRmw 0x18
/-- `rmwmin`. -/
def opLsRmwmin : OpFn := lsRmw 0x19
/-- `rmwmax`. -/
def opLsRmwmax : OpFn := lsRmw 0x1A
/-- `rmwor`. -/
def opLsRmwor : OpFn := lsRmw 0x1B

/-! ### Buffer rings (R286, R287) -/

/-- A ring operation: checked on the descriptor as it stands in c, performed on it as it stands in c + 1. -/
def lsRing (rel : Bool) : OpFn := fun x s =>
  let a := bits x.a.toNat 16 4 * 16
  let bad := if ringOk x.pre.sup (x.pre.ringWords a) then none else some (x.lsTrap .ringInvalid a)
  firstTrap [x.footprint 16 a 16, bad, x.slotCheck a 16, x.earlyCheck (wordsOf a 16)]
    (x.ok s fun t =>
      { (t.holdFenced 0 [(a + 8, 8)]).result 5 x.clk 2 false 0 with
        rings := t.rings ++ [{ cyc := x.clk, rel, addr := a, k := bits x.n.toNat 8 0, seq := t.seq, sup := x.pre.sup }] })

/-- `ringacq` (R287). -/
def opLsRingacq : OpFn := lsRing false
/-- `ringrel` (R287). -/
def opLsRingrel : OpFn := lsRing true

/-! ### Stream registers (R288–R292) -/

/-- A reserved bit of a stream descriptor is set (Table 11-6). -/
def streamReserved (d : Nat) : Bool :=
  decide (bits d 31 25 ≠ 0) || decide (bits d 23 17 ≠ 0) || decide (bits d 95 80 ≠ 0) || decide (bits d 252 240 ≠ 0)

/-- The addresses of the eight corner elements (R289). -/
def Stream.corners (st : Stream) : List Int :=
  (upTo 8).map fun k =>
    st.addrAt (if bit k 0 then st.n0.toNat else 0, if bit k 1 then st.n1.toNat else 0, if bit k 2 then st.n2.toNat else 0)

/-- A corner element lies in part in the supervisor region: the lowest such byte (R289). -/
def Stream.supByte (st : Stream) : Option Int :=
  (st.corners.filterMap fun a =>
    let lo := max a (supBase : Int)
    if lo < a + st.size && lo < (lsSize : Int) then some lo else none).foldl
      (fun m a => match m with | none => some a | some b => some (min a b)) none

/-- What STREAM_CFG forbids of a descriptor, its footprint in the supervisor region apart (R289). -/
def Stream.bad (st : Stream) (sup : Bool) : Bool :=
  let z : Int := st.size
  let last := decide (st.pos = (st.n0.toNat, st.n1.toNat, st.n2.toNat))
  let step (n : BitVec 16) (w : Word) := decide (0 < n.toNat) && decide (stride w % z ≠ 0)
  decide (st.n0.toNat < st.i0.toNat) || decide (st.n1.toNat < st.i1.toNat) || decide (st.n2.toNat < st.i2.toNat) ||
  (st.fin && (st.wrap || !last)) ||
  decide ((st.base.toNat : Int) % z ≠ 0) || step st.n0 st.s0 || step st.n1 st.s1 || step st.n2 st.s2 ||
  st.corners.any fun a => decide (a < 0) || decide ((if sup then lsSize else supBase : Nat) < a + z)

/-- The tile with stream `k` replaced and nothing queued for its refill but `q`. -/
def Tile.setStream (t : Tile) (k : Nat) (st : Stream) (q : List FillSlot) : Tile :=
  { t with streams := vset t.streams k st, fillQ := (t.fillQ.filter fun e => decide (e.stream ≠ k)) ++ q }

/-- `scfg` (R288, R289): its first four elements are filled by the end of c + 1 (R291). -/
def opLsScfg : OpFn := fun x s =>
  let a := bits x.a.toNat 16 5 * 32
  let k := bits x.n.toNat 2 0
  let d := x.pre.mem a 32
  let st := streamOf d
  let priv := if x.pre.sup then none else st.supByte.map fun b => x.lsTrap .privilege b
  let bad := if streamReserved d || st.bad x.pre.sup then some (x.lsTrap .streamCfg a) else none
  firstTrap [x.footprint 32 a 32, priv, bad, x.slotCheck a 32]
    (x.ok s fun t => t.setStream k { st with readyAt := x.clk + 2 } (List.replicate 4 ⟨x.clk, k, x.clk⟩))

/-- A register leaves stream mode: it holds zero and its buffer is gone (R292). -/
def Tile.stopStream (t : Tile) (k : Nat) : Tile :=
  if (vget {} t.streams k).on then (t.setStream k {} []).setV (24 + k) 0 else t

/-- `sstop` (R292). -/
def opLsSstop : OpFn := fun x s =>
  let v := x.n.toNat
  let ks := if bit v 3 then upTo 8 else [bits v 2 0]
  let save := bit v 4
  let q := bits v 16 5 * 32
  let n := 32 * ks.length
  let checks := if save then [x.footprint 32 q n, x.slotCheck q n] else []
  firstTrap checks
    (x.ok s fun t =>
      let bytes := ks.flatMap fun k => (vget {} t.streams k).descriptor
      let t := if save then (t.holdFenced 0 [(q, n)]).lsWrite x.clk q bytes else t
      ks.foldl (fun t k => t.stopStream k) t)

/-! ### The rows -/

/-- LS_LDB. -/
def execLsLdb (m : TrigMove) (s : State) : Host.Outcome State Fault Refusal := .next (s.issueOne 0x700 opLsLdb m)
/-- LS_LDBS. -/
def execLsLdbs (m : TrigMove) (s : State) : Host.Outcome State Fault Refusal := .next (s.issueOne 0x701 opLsLdbs m)
/-- LS_LDH. -/
def execLsLdh (m : TrigMove) (s : State) : Host.Outcome State Fault Refusal := .next (s.issueOne 0x702 opLsLdh m)
/-- LS_LDHS. -/
def execLsLdhs (m : TrigMove) (s : State) : Host.Outcome State Fault Refusal := .next (s.issueOne 0x703 opLsLdhs m)
/-- LS_LDW. -/
def execLsLdw (m : TrigMove) (s : State) : Host.Outcome State Fault Refusal := .next (s.issueOne 0x704 opLsLdw m)
/-- LS_LDD. -/
def execLsLdd (m : TrigMove) (s : State) : Host.Outcome State Fault Refusal := .next (s.issueOne 0x705 opLsLdd m)
/-- LS_LDV. -/
def execLsLdv (m : TrigMove) (s : State) : Host.Outcome State Fault Refusal := .next (s.issueOne 0x706 opLsLdv m)
/-- LS_LDVT. -/
def execLsLdvt (m : TrigMove) (s : State) : Host.Outcome State Fault Refusal := .next (s.issueOne 0x707 opLsLdvt m)
/-- LS_LDWA. -/
def execLsLdwa (m : TrigMove) (s : State) : Host.Outcome State Fault Refusal := .next (s.issueOne 0x708 opLsLdwa m)
/-- LS_LDDA. -/
def execLsLdda (m : TrigMove) (s : State) : Host.Outcome State Fault Refusal := .next (s.issueOne 0x709 opLsLdda m)
/-- LS_STB. -/
def execLsStb (m : TrigMove) (s : State) : Host.Outcome State Fault Refusal := .next (s.issueOne 0x70A opLsStb m)
/-- LS_STH. -/
def execLsSth (m : TrigMove) (s : State) : Host.Outcome State Fault Refusal := .next (s.issueOne 0x70B opLsSth m)
/-- LS_STW. -/
def execLsStw (m : TrigMove) (s : State) : Host.Outcome State Fault Refusal := .next (s.issueOne 0x70C opLsStw m)
/-- LS_STD. -/
def execLsStd (m : TrigMove) (s : State) : Host.Outcome State Fault Refusal := .next (s.issueOne 0x70D opLsStd m)
/-- LS_STV. -/
def execLsStv (m : TrigMove) (s : State) : Host.Outcome State Fault Refusal := .next (s.issueOne 0x70E opLsStv m)
/-- LS_STVM. -/
def execLsStvm (m : TrigMove) (s : State) : Host.Outcome State Fault Refusal := .next (s.issueOne 0x70F opLsStvm m)
/-- LS_STWR. -/
def execLsStwr (m : TrigMove) (s : State) : Host.Outcome State Fault Refusal := .next (s.issueOne 0x710 opLsStwr m)
/-- LS_STDR. -/
def execLsStdr (m : TrigMove) (s : State) : Host.Outcome State Fault Refusal := .next (s.issueOne 0x711 opLsStdr m)
/-- LS_SCFG. -/
def execLsScfg (m : TrigMove) (s : State) : Host.Outcome State Fault Refusal := .next (s.issueOne 0x712 opLsScfg m)
/-- LS_SSTOP. -/
def execLsSstop (m : TrigMove) (s : State) : Host.Outcome State Fault Refusal := .next (s.issueOne 0x713 opLsSstop m)
/-- LS_RINGACQ. -/
def execLsRingacq (m : TrigMove) (s : State) : Host.Outcome State Fault Refusal := .next (s.issueOne 0x714 opLsRingacq m)
/-- LS_RINGREL. -/
def execLsRingrel (m : TrigMove) (s : State) : Host.Outcome State Fault Refusal := .next (s.issueOne 0x715 opLsRingrel m)
/-- LS_RMWADD. -/
def execLsRmwadd (m : TrigMove) (s : State) : Host.Outcome State Fault Refusal := .next (s.issueOne 0x716 opLsRmwadd m)
/-- LS_RMWSWAP. -/
def execLsRmwswap (m : TrigMove) (s : State) : Host.Outcome State Fault Refusal := .next (s.issueOne 0x717 opLsRmwswap m)
/-- LS_RMWCAS. -/
def execLsRmwcas (m : TrigMove) (s : State) : Host.Outcome State Fault Refusal := .next (s.issueOne 0x718 opLsRmwcas m)
/-- LS_RMWMIN. -/
def execLsRmwmin (m : TrigMove) (s : State) : Host.Outcome State Fault Refusal := .next (s.issueOne 0x719 opLsRmwmin m)
/-- LS_RMWMAX. -/
def execLsRmwmax (m : TrigMove) (s : State) : Host.Outcome State Fault Refusal := .next (s.issueOne 0x71A opLsRmwmax m)
/-- LS_RMWOR. -/
def execLsRmwor (m : TrigMove) (s : State) : Host.Outcome State Fault Refusal := .next (s.issueOne 0x71B opLsRmwor m)

end Sys2Proof.Machine
end

