-- ==== Sys2Proof/Machine/Ch.lean ====
section
/-! DEFINITION. The channel socket (chapter 12) but for `layout`. A, B, C and D are the latches `ch.a` to `ch.d`, v the
trigger value, c the trigger cycle. -/

namespace Sys2Proof.Machine

/-! ### The far-control word and the far-address word (Tables 12-1 and 7-4) -/

/-- Latch `ch.c`. -/
def Ctx.chC (x : Ctx) : Wide := x.lat.latch 8 2
/-- Latch `ch.d`. -/
def Ctx.chD (x : Ctx) : Nat := (x.latN 3).toNat
/-- Lane i of C. -/
def Ctx.chLane (x : Ctx) (i : Nat) : Nat := (lane x.chC i).toNat
/-- SCOPE. -/
def Ctx.fcScope (x : Ctx) : Nat := bits x.n.toNat 31 28
/-- CLASS. -/
def Ctx.fcClass (x : Ctx) : Nat := bits x.n.toNat 27 24
/-- ORD. -/
def Ctx.fcOrd (x : Ctx) : Bool := bit x.n.toNat 23
/-- GS. -/
def Ctx.fcGs (x : Ctx) : Nat := bits x.n.toNat 22 20
/-- CC. -/
def Ctx.fcCc (x : Ctx) : Nat := bits x.n.toNat 19 16
/-- CCEN. -/
def Ctx.fcCcen (x : Ctx) : Bool := bit x.n.toNat 15
/-- OPF. -/
def Ctx.opf (x : Ctx) : Nat := bits x.n.toNat 13 0

/-- The global address of a far-address word and a low word (R295). -/
def farAddr (faw low : Nat) : Nat := bits faw 19 0 * 2 ^ 32 + low
/-- g = bits(D, 19, 0), A (R295). -/
def Ctx.g (x : Ctx) : Nat := farAddr x.chD x.a.toNat
/-- A far-address word has a reserved bit set (R196). -/
def fawBad (faw : Nat) : Bool := decide (bits faw 31 29 ≠ 0)
/-- MODE = 3 in the local-store window (R298). -/
def modeBad (faw a : Nat) : Bool := decide (region a = .window) && decide (bits faw 21 20 = 3)

/-- The issuer owner (R406): 0 for the crown and for a supervisor's RAW access, else the launch's. -/
def Ctx.issuer (x : Ctx) (s : State) (faw : Nat) : BitVec 16 :=
  if isCrown x.key || (x.pre.sup && bit faw 28) then 0 else (x.launch s).elim 0 Launch.owner

/-- A destination under a far-address word (R406). -/
def Tile.farDest (t : Tile) (faw a : Nat) : FarDest :=
  let raw := bit faw 28
  let e : Seg := vget {} t.segs (bits faw 27 22)
  { addr := BitVec.ofNat 52 a, mode := BitVec.ofNat 2 (bits faw 21 20), raw, seg := BitVec.ofNat 6 (bits faw 27 22)
    owner := if raw then 0 else e.owner, hen := !raw && e.hen, home := e.home }

/-- The permission check of R298 over `n` bytes from `a`: `need` is 0 read, 1 write, 2 atomic and reduce. -/
def Tile.farAllowed (t : Tile) (faw a n need : Nat) : Bool :=
  if bit faw 28 then
    t.sup || (decide (region a = .window) && decide (region (a + n - 1) = .window))
  else
    let e : Seg := vget {} t.segs (bits faw 27 22)
    e.valid && decide (e.gbase.toNat ≤ a) && decide (a + n ≤ e.gbase.toNat + e.len.toNat) && e.perm.getLsbD need &&
      decide (region a ≠ .crown)

/-! ### Checks in the order of R298 -/

/-- A trap with the detail of Table 12-4. -/
def Ctx.chTrap (x : Ctx) (c : Cause) (d : Nat) : OpOut := x.trap c (2 ^ 32 * (d % 2 ^ 32))

/-- SCOPE_INVALID. -/
def Ctx.scopeBad (x : Ctx) : Option OpOut :=
  if x.fcOrd && decide (12 ≤ x.fcScope) then some (x.chTrap .scopeInvalid x.fcScope) else none

/-- CH_OPERAND with the lowest reason that holds; the reasons are given in ascending order. -/
def Ctx.reasons (x : Ctx) (l : List (Nat × Bool)) : Option OpOut :=
  (l.find? fun r => r.2).map fun r => x.chTrap .chOperand r.1

/-- A cause whose detail is g[31:0], for the first address that has it. -/
def Ctx.addrTrap (x : Ctx) (c : Cause) (bad : Nat → Bool) (l : List Nat) : Option OpOut :=
  (l.find? bad).map fun a => x.chTrap c a

/-! ### Issue of a far access -/

/-- The registers that a reply will write: `x` 0–63, `v` 64–95. -/
def FarReq.regs (r : FarReq) : List Nat :=
  match r.kind with
  | .load 64 => [64 + r.reg]
  | .atomic _ 8 => [r.reg, r.reg + 1]
  | .load _ | .atomic _ _ | .ringrd _ _ => [r.reg]
  | _ => []

/-- Sixteen replies are outstanding, a `ringrd`'s and a held one among them, or sixty-four stores (R112, R300). -/
def Tile.farFull (t : Tile) (r : FarReq) : Bool :=
  (r.replies && decide (16 ≤ (t.far.filter FarReq.replies).length)) ||
    (r.stores && decide (64 ≤ (t.far.filter FarReq.stores).length))

/-- The limits of R112 and R300: the number of requests, and a register with a reply outstanding. A reply that is only
discarded on arrival writes no register (R171). -/
def Tile.farLimit (t : Tile) (r : FarReq) : Bool :=
  t.farFull r || (r.replies && t.far.any fun q => !q.drop && q.regs.any fun i => r.regs.contains i)

/-- What a crown tile's triggers must wait for: its complex is the new one of a handover, provisional (R523), or the module
has hung and serves nothing more (R525). -/
def State.provisional (s : State) (key : Nat) : Bool := isCrown key && (decide (s.fw.phase = .switched) || s.fw.hang)

/-- The access reaches a register of the identity engine (R523, Table 21-6). -/
def identityReg (a n : Nat) : Bool := meets a n (crownBase + 0x10A0100) 16

/-- The operand words and the payload of an egress message (R490). -/
def Ctx.farWords (x : Ctx) (kind : FarKind) : List Nat :=
  wordsBytes [x.a, x.latN 3, x.n] ++ (match kind with | .load _ => [] | _ => byteNats (wideBytes x.chC))

/-- A far access leaves the tile. -/
def State.sendFar (s : State) (key : Nat) (r : FarReq) : State :=
  s.modTile key fun t => { t.countEvent 8 with far := t.far ++ [r], reqNo := t.reqNo + 1 }

/-- The request that a trigger makes for destinations `addrs` (R295, R378, R384, R406, R418). What lower slots of the bundle
have triggered comes before it (R376). -/
def Ctx.farReq (x : Ctx) (s : State) (kind : FarKind) (addrs : List Nat) (reg : Nat) : FarReq :=
  let t := x.pre
  let now := s.tile x.key
  let dests := addrs.map fun a => t.farDest x.chD a
  let isLoad := match kind with | .load _ => true | _ => false
  let isAtomic := match kind with | .atomic _ _ => true | _ => false
  let release := x.fcOrd && !isLoad
  let mode := bits x.chD 21 20
  let later : Later := { cls := x.fcClass, relmask := if release then t.relmask else 0
                         touches := touching (addrs.flatMap fun a => placesAt a kind.size mode) }
  { id := now.reqNo, kind, dests, data := x.chC, issuedAt := x.clk, issuer := x.issuer s x.chD, reg
    wide := decide (kind = .load 64), gs := x.fcGs, cc := if x.fcCcen then some x.fcCc else none, cls := x.fcClass
    acquire := x.fcOrd && (isLoad || isAtomic), release, scope := x.fcScope, look := bits x.opf 11 8
    sup := t.sup, seqNo := t.seqNo, after := now.before x.key later, msg := now.egressNo }

/-- The request carries a sequence number (R305). -/
def FarKind.counted (k : FarKind) : Bool :=
  match k with
  | .reduce _ | .atomic _ _ => true
  | _ => false

/-- A far form: its waits (R112, R300, R360, R491, R523), its checks (R298), its issue. -/
def Ctx.far (x : Ctx) (s : State) (kind : FarKind) (addrs : List Nat) (align need reg : Nat) (bad : List (Nat × Bool)) :
    OpOut :=
  let r := x.farReq s kind addrs reg
  let identity := s.provisional x.key && decide (need = 1) && addrs.any fun a => identityReg a kind.size
  if x.pre.fenceWait x.fcClass || x.pre.farLimit r || (s.tile x.key).farFull r || identity then .wait true .late id
  else
    firstTrap [x.scopeBad, x.reasons (bad ++ [(12, fawBad x.chD)]), x.addrTrap .addrMode (modeBad x.chD) addrs,
        x.addrTrap .farAlign (fun a => decide (a % align ≠ 0)) addrs,
        x.addrTrap .farPerm (fun a => !x.pre.farAllowed x.chD a kind.size need) addrs]
      (if s.egressFull x.key then .wait false .late id
       else
         let s := (s.emit x.key 1 (x.farWords kind)).sendFar x.key r
         .go (if kind.counted then s.modTile x.key fun t => { t with seqNo := t.seqNo + 1 } else s) {})

/-! ### Far loads, stores, atomics (R299–R304) -/

/-- `fld` (R299). -/
def opChFld : OpFn := fun x s => x.far s (.load 4) [x.g] 4 0 (bits x.opf 5 0) []
/-- `fldv` (R299). -/
def opChFldv : OpFn := fun x s => x.far s (.load 64) [x.g] 64 0 (bits x.opf 4 0) []
/-- `fst` (R300). -/
def opChFst : OpFn := fun x s => x.far s (.store 4) [x.g] 4 1 0 []
/-- `fstv` (R300). -/
def opChFstv : OpFn := fun x s => x.far s (.store 64) [x.g] 64 1 0 []

/-- The destinations gi = g + i × 2^LGS of a multi-destination store (R301). -/
def Ctx.multiDests (x : Ctx) (n lgs : Nat) : List Nat := (upTo n).map fun i => (x.g + i * 2 ^ lgs) % 2 ^ 52

/-- LGS outside 6–47 (R301). -/
def lgsBad (lgs : Nat) : Bool := decide (lgs < 6) || decide (47 < lgs)

/-- `fstm` (R301, R302). -/
def opChFstm : OpFn := fun x s =>
  let lgs := bits x.opf 11 6
  x.far s .multi (x.multiDests (bits x.opf 5 0 + 1) lgs) 64 1 0 [(1, lgsBad lgs)]

/-- `fstred` (R301, R302). -/
def opChFstred : OpFn := fun x s =>
  let lgs := bits x.opf 9 4
  let rop := bits x.opf 13 10
  x.far s (.reduce rop) (x.multiDests (bits x.opf 3 0 + 1) lgs) 64 2 0 [(1, lgsBad lgs), (2, decide (8 ≤ rop))]

/-- `bred` (R304). -/
def opChBred : OpFn := fun x s =>
  let rop := bits x.opf 3 0
  x.far s (.reduce rop) [x.g] 64 2 0 [(2, decide (8 ≤ rop))]

/-- A single-word atomic (R304): operations 0–7 are the reductions, 8 swap, 9 compare and swap. -/
def chAtomic (op n : Nat) : OpFn := fun x s =>
  let reg := bits x.opf 5 0
  x.far s (.atomic op n) [x.g] n 2 reg [(3, decide (n = 8) && decide (reg % 2 = 1))]

/-- `badd`. -/
def opChBadd : OpFn := chAtomic 0 4
/-- `baddf`. -/
def opChBaddf : OpFn := chAtomic 1 4
/-- `baddh`. -/
def opChBaddh : OpFn := chAtomic 2 4
/-- `bmin`. -/
def opChBmin : OpFn := chAtomic 3 4
/-- `bmax`. -/
def opChBmax : OpFn := chAtomic 4 4
/-- `band`. -/
def opChBand : OpFn := chAtomic 5 4
/-- `bor`. -/
def opChBor : OpFn := chAtomic 6 4
/-- `bxor`. -/
def opChBxor : OpFn := chAtomic 7 4
/-- `bswap`. -/
def opChBswap : OpFn := chAtomic 8 4
/-- `bcas`. -/
def opChBcas : OpFn := chAtomic 9 4
/-- `bcasd`. -/
def opChBcasd : OpFn := chAtomic 9 8

/-! ### Sends and halo pushes (R306–R308) -/

/-- What R306 forbids of a copy's offsets and length. -/
def copyBad (src dst n : Nat) : Bool :=
  decide (n = 0) || decide (n % 4 ≠ 0) || decide (src % 4 ≠ 0) || decide (dst % 4 ≠ 0) || decide (supBase < src + n) ||
    decide (supBase < dst + n)

/-- `send` (R306). -/
def opChSend : OpFn := fun x s =>
  let n := bits x.n.toNat 16 0
  let src := bits x.a.toNat 16 0
  let dst := bits x.b.toNat 16 0
  let d := x.chD
  firstTrap [x.reasons [(4, copyBad src dst n)]]
    (if s.egressFull x.key then .wait false .late id
     else match x.launch s with
      | none => .go s {}
      | some l =>
        match l.relTile x.pre.tlin (sextNat (bits d 9 0) 10) (sextNat (bits d 25 16) 10) (bit d 31) with
        | none => .go s {}
        | some k => .go (s.startCopy x.key l x.pre .send src n k dst (wordsBytes [x.a, x.b, x.n])) {})

/-- The offsets of the four directions N, E, S, W (R308). -/
def haloDir (d : Nat) : Int × Int := match d with | 0 => (0, 1) | 1 => (1, 0) | 2 => (0, -1) | _ => (-1, 0)

/-- The selected directions with a nonempty strip: direction, source, destination, bytes (R308). -/
def Ctx.haloStrips (x : Ctx) : List (Nat × Nat × Nat × Nat) :=
  (upTo 4).filterMap fun d =>
    let e := x.pre.mem (bits x.a.toNat 16 5 * 32 + 8 * d) 8
    let n := 4 * bits e 31 20
    if bit x.n.toNat d && decide (n ≠ 0) then some (d, bits e 16 0, bits e 48 32, n) else none

/-- `halo` (R308): one copy for each strip with a neighbour inside the rectangle, in the order N, E, S, W. -/
def opChHalo : OpFn := fun x s =>
  let out := decide ((if x.pre.sup then lsSize else supBase) < bits x.a.toNat 16 5 * 32 + 32)
  firstTrap [x.reasons [(4, out || x.haloStrips.any fun e => copyBad e.2.1 e.2.2.1 e.2.2.2)]]
    (if s.egressFull x.key then .wait false .late id
     else match x.launch s with
      | none => .go s {}
      | some l =>
        .go (x.haloStrips.foldl (fun s e =>
          match l.relTile x.pre.tlin (haloDir e.1).1 (haloDir e.1).2 false with
          | none => s
          | some k => s.startCopy x.key l x.pre (.halo e.1) e.2.1 e.2.2.2 k e.2.2.1 (wordsBytes [x.a, x.n])) s) {})

/-! ### Spawn (R310, R71–R73) -/

/-- A request that a mode's bundle has sent is the one that it would send anew: its answer is the bundle's. -/
def SpawnReq.again (a r : SpawnReq) : Bool :=
  decide (r.sup = a.sup) && decide (r.target = a.target) && decide (r.entry = a.entry) && decide (r.args = a.args) &&
    decide (r.wid = a.wid)

/-- `spawn` (R310): the request goes out, the bundle waits for the answer, and then issues or traps. A handler's spawn is its
own, whatever the program waits for. -/
def opChSpawn : OpFn := fun x s =>
  let n := x.a.toNat
  match x.launch s with
  | none => x.chTrap .spawnRange n
  | some l =>
    if l.w * l.srows ≤ n then x.chTrap .spawnRange n
    else
      let target := l.tileOf (l.workers + n)
      let d := 6 + meshTime (l.tileOf x.pre.tlin) target
      let args := (upTo 8).map fun i => lane x.chC i
      let ask : SpawnReq := { target, entry := BitVec.ofNat 12 (bits x.n.toNat 11 0), args, wid := x.pre.wid
                              arriveAt := x.clk + d, startAt := 0, answerAt := x.clk + 2 * d, sup := x.pre.sup
                              msg := x.pre.egressNo }
      match x.pre.spawns.find? ask.again with
      | none =>
        if s.egressFull x.key then .wait false .late id
        else
          .wait false .late fun s =>
            ((s.dropSpawns x.key).emit x.key 3 (wordsBytes ([x.a, x.n] ++ args))).modTile x.key fun t =>
              { t with spawns := t.spawns ++ [ask] }
      | some r =>
        match r.answer with
        | none => .wait false .late id
        | some ok =>
          if x.clk < r.answerAt then .wait false .late id
          else if !ok then x.chTrap .spawnBusy n
          else
            let s := s.modTile x.key fun t => { t with spawns := t.spawns.filter fun q => decide (q.sup ≠ x.pre.sup) }
            .go (if s.isTwin x.key then s
                 else s.modTile r.target fun t =>
                   { t with spawnIn := some { r with answer := some true, startAt := x.clk + d } }) {}

/-- A request has reached the target's router, and is not decided (R310, R491). -/
def State.spawnArrived (s : State) (key : Nat) (r : SpawnReq) : Bool :=
  r.answer.isNone && decide (r.arriveAt ≤ s.clk) && !(s.isDual key && !(s.tile key).compared r.msg)

/-- SPAWN_ANSWER: the target's router decides a tile's request: an IDLE tile with no accepted spawn takes it (R72, R73,
R310). -/
def State.spawnAnswer (s : State) (key : Nat) : State :=
  match (s.tile key).spawns.find? fun r => s.spawnArrived key r with
  | none => s
  | some r =>
    if s.isTwin key then s
    else
      let u := s.tile r.target
      let ok := decide (u.run = .idle) && u.spawnIn.isNone && !u.dead && !u.fenced
      let s := { (if ok then s.modTile r.target fun t => { t with spawnIn := some { r with answer := none } } else s) with
        free := s.free + 1 }
      let late := s.clk - r.arriveAt
      s.modBoth key fun t => { t with spawns := t.spawns.map fun q =>
        if q.sup = r.sup then { q with answer := some ok, answerAt := q.answerAt + late } else q }

/-- The state that an accepted spawn gives its tile (R71, R246). -/
def Tile.spawned (t : Tile) (clk : Nat) (r : SpawnReq) : Tile :=
  { t with
    x := Vector.ofFn fun i => if i.val < 8 then nth 0 r.args i.val else 0
    v := Vector.replicate 32 0
    g := 0
    latches := Vector.replicate 52 0
    socks := Vector.replicate 13 {}
    loops := Vector.replicate 6 {}
    depth := 0
    streams := Vector.replicate 8 {}
    fillQ := []
    wid := r.wid
    pc := r.entry.setWidth 32
    run := .computing
    ac := Vector.replicate 16 0, acOld := none, op4s := [], mac := none
    nextAt := clk + 1, gapEnd := clk + 1, idleEnd := 0, kBase := clk + 1, intFrom := clk + 1, freshAt := clk + 1
    stall := .none, switchAt := none
    spawnIn := none }

/-- SPAWN_TARGET_START: a tile that has accepted a spawn starts, during a swap-out too, which then stops it at its next switch
point (R71, R79, R310). -/
def State.spawnStart (s : State) (key : Nat) : State :=
  match (s.tile key).spawnIn with
  | none => s
  | some r =>
    let running := match (s.tile key).launch.bind s.launch? with
      | some l => decide (l.state = .running) || decide (l.state = .swapping)
      | none => false
    if r.answer.isNone || decide (s.clk + 1 < r.startAt) || (s.tile key).sup || !running then s
    else s.modBoth key fun t => t.spawned s.clk r

/-! ### DMA (R311, R312) -/

/-- The fields of the pattern in C and the base in B: LEN, BLK, P, x0, y0, WD, L. -/
def Ctx.dealOf (x : Ctx) : Nat × Nat × Nat × Nat × Nat × Nat × Nat :=
  (bits (x.chLane 0) 29 0, x.chLane 1, bits (x.chLane 2) 17 0, bits (x.chLane 3) 8 0, bits (x.chLane 3) 24 16,
   bits (x.chLane 4) 9 0, bits x.b.toNat 16 0)

/-- The first byte past the highest that a deal of `len` bytes uses in any tile (R311). -/
def dealEnd (len blk p base : Nat) : Nat :=
  let nb := (len + blk - 1) / blk
  let row := (nb - 1) / p
  if (nb - 1) % p = 0 then base + row * blk + (len - (nb - 1) * blk) else base + row * blk + blk

/-- What R311 forbids of a deal's fields: on a crown tile P is 1 and no rectangle is asked. -/
def dealFieldsBad (crown : Bool) (w h : Nat) (blk p x0 y0 wd base : Nat) : Bool :=
  decide (blk = 0) || decide (blk % 4 ≠ 0) || decide (base % 4 ≠ 0) || decide (p = 0) ||
    (if crown then decide (p ≠ 1)
     else decide (w * h < p) || decide (wd = 0) || decide (w < wd) || decide (w < x0 + min wd p) ||
       decide (h < y0 + (p - 1) / wd + 1))

/-- What R311 forbids of a transfer (reason 6). -/
def dealBad (crown : Bool) (w h : Nat) (len blk p x0 y0 wd base : Nat) : Bool :=
  decide (len = 0) || decide (len % 4 ≠ 0) || dealFieldsBad crown w h blk p x0 y0 wd base ||
    decide (supBase < dealEnd len blk p base)

/-- How many granules of global address a transfer touches (R312). -/
def granCount (g len : Nat) : Nat := (g + len - 1) / 64 - g / 64 + 1

/-- The words of a command's egress message (R490). -/
def Ctx.cmdWords (x : Ctx) : List Nat := wordsBytes [x.a, x.b] ++ byteNats (wideBytes x.chC) ++ wordsBytes [x.latN 3, x.n]

/-- The locations of a transfer: ranges of addresses, and the words of the tiles of a deal. -/
def dealTouches (own : Nat) (l : Option Launch) (ps : List (Nat × Nat)) (len blk p x0 y0 wd base : Nat) (a n : Nat) : Bool :=
  touching ps a n ||
    (decide (region a = .window) &&
      let w := winDecode a 0
      let top := min (dealEnd len blk p base) (base + ((len + blk * p - 1) / (blk * p)) * blk)
      meets base (top - base) w.2 n &&
        (match l with
          | none => decide (w.1 = own)
          | some l => (upTo p).any fun q => decide (l.tileOf ((y0 + q / wd) * l.w + x0 + q % wd) = w.1)))

/-- `dma` and `dmaw` (R311): one granule a cycle from the cycle after the trigger, after the tile's earlier commands. -/
def chDma (toGlobal : Bool) : OpFn := fun x s =>
  let (len, blk, p, x0, y0, wd, base) := x.dealOf
  let l := x.launch s
  let t := x.pre
  if t.fenceWait x.fcClass || (toGlobal && s.provisional x.key && identityReg x.g len) then .wait true .late id
  else
    firstTrap [x.scopeBad,
        x.reasons [(5, !x.fcCcen), (6, dealBad (isCrown x.key) (l.elim 0 Launch.w) (l.elim 0 Launch.h) len blk p x0 y0 wd base),
          (12, fawBad x.chD)],
        x.addrTrap .addrMode (modeBad x.chD) [x.g], x.addrTrap .farAlign (fun a => decide (a % 4 ≠ 0)) [x.g],
        x.addrTrap .farPerm (fun a => !t.farAllowed x.chD a len (if toGlobal then 1 else 0)) [x.g]]
      (if s.egressFull x.key then .wait false .late id
       else
         let dest := t.farDest x.chD x.g
         let n := granCount x.g len
         let first := max (x.clk + 1) t.dmaFree
         let now := s.tile x.key
         let later : Later := { cls := x.fcClass, relmask := if x.fcOrd then t.relmask else 0
                                touches := dealTouches x.key (if isCrown x.key then none else l) [(x.g, len)] len blk p x0 y0 wd base }
         let d : Dma := { id := now.reqNo, toGlobal, dest, len, blk, p, x0, y0, wd, base, cc := x.fcCc, cls := x.fcClass
                          issuer := x.issuer s x.chD, firstAt := first, grans := [], after := now.before x.key later
                          msg := now.egressNo }
         let s := s.emit x.key 4 x.cmdWords
         let twin := s.isTwin x.key
         .go (s.modTile x.key fun t => { t with
           dmas := if twin then t.dmas else t.dmas ++ [d], reqNo := t.reqNo + 1, dmaFree := first + n }) {})

/-- `dma`. -/
def opChDma : OpFn := chDma false
/-- `dmaw`. -/
def opChDmaw : OpFn := chDma true

/-- Granule k of a transfer: its offset in the transfer and its bytes. -/
def Dma.gran (d : Dma) (k : Nat) : Nat × Nat :=
  let g := d.dest.addr.toNat
  let lo := max g ((g / 64 + k) * 64)
  (lo - g, min (g + d.len) ((g / 64 + k + 1) * 64) - lo)

/-- The tile and the offset that hold the byte at an offset of a deal (R311). -/
def dealPlace (own : Nat) (l : Option Launch) (blk p x0 y0 wd base o : Nat) : Nat × Nat :=
  let j := o / blk
  let q := j % p
  let a := base + j / p * blk + o % blk
  match l with
  | none => (own, a)
  | some l => (l.tileOf ((y0 + q / wd) * l.w + x0 + q % wd), a)

/-- The tile and offset of each word of a granule, with the word's place in the granule. -/
def Dma.places (d : Dma) (own : Nat) (l : Option Launch) (k : Nat) : List (Nat × Nat × Nat) :=
  (upTo ((d.gran k).2 / 4)).map fun i =>
    let r := dealPlace own l d.blk d.p d.x0 d.y0 d.wd d.base ((d.gran k).1 + 4 * i)
    (r.1, r.2, 4 * i)

/-- Nothing holds the words of a granule: no open read-modify-write window, no held store (R276, R284). -/
def State.placesFree (s : State) (ps : List (Nat × Nat × Nat)) : Bool :=
  ps.all fun q => !(s.tile q.1).rmwHolds s.clk q.2.1 4 && !(s.tile q.1).storeHeld q.2.1 4

/-- How far granule k has got. -/
def Dma.state (d : Dma) (k : Nat) : GranState := tabGet .waiting d.grans k

/-- Granule k takes a state; when it fails, those above the lowest failed one that have not been sent are cancelled
(R312). -/
def Dma.put (d : Dma) (clk k : Nat) (g : GranState) : Dma :=
  let d := { d with grans := tabSet d.grans k g }
  match g with
  | .failed _ =>
    let n := granCount d.dest.addr.toNat d.len
    { d with grans := (upTo n).foldl (fun l j =>
        if decide (k < j) && decide (clk < d.firstAt + j) && decide (tabGet .waiting l j = .waiting) then tabSet l j .cancelled
        else l) d.grans }
  | _ => d

/-- Every granule has completed or been cancelled. -/
def Dma.isOver (d : Dma) : Bool :=
  (upTo (granCount d.dest.addr.toNat d.len)).all fun k =>
    match d.state k with
    | .done | .failed _ | .cancelled => true
    | _ => false

/-- The status of the lowest failed granule, F of R312. -/
def Dma.verdict (d : Dma) : Option Byte :=
  (upTo (granCount d.dest.addr.toNat d.len)).findSome? fun k => match d.state k with | .failed st => some st | _ => none

/-- A transfer of a tile replaced, or ended with its FAULT (R312, R315). -/
def State.putDma (s : State) (key : Nat) (d : Dma) : State :=
  if d.isOver then
    let s := s.modTile key fun t => { t with dmas := t.dmas.filter fun e => decide (e.id ≠ d.id) }
    match d.verdict with
    | some st => s.faultCounter key d.cc st
    | none => s
  else s.modTile key fun t => { t with dmas := t.dmas.map fun e => if e.id = d.id then d else e }

/-- The access of a granule. -/
def State.granAccess (s : State) (key : Nat) (d : Dma) (k : Nat) (op : AccOp) (ext : ExtReply) : Access :=
  let a := (d.dest.addr.toNat + (d.gran k).1) % 2 ^ 52
  { addr := a, n := (d.gran k).2, mode := d.dest.mode.toNat, op, issuer := d.issuer, target := d.dest.owner
    launch := (s.tile key).launch, die := tileDie key, crown := isCrown key
    hint := if d.dest.hen then some d.dest.home.toNat else none, agent := .dma, cls := d.cls, src := key, req := d.id * 2 ^ 20 + k, ext }

/-- DMA_GRANULE_DONE: granule k of a transfer performs at its home; when it comes again, it lands, or its acknowledgement
arrives, and is counted (R312). -/
def State.dmaGranule (s : State) (key i k : Nat) (ext : ExtReply) : State :=
  match (s.tile key).dmas.find? fun d => decide (d.id = i) with
  | none => s
  | some d =>
    let l := if isCrown key then none else (s.tile key).launch.bind s.launch?
    let ps := d.places key l k
    let dest := { d.dest with addr := d.dest.addr + BitVec.ofNat 52 (d.gran k).1 }
    let times := s.farTimes key dest ext.cached
    let issued := d.firstAt + k
    -- a granule of a deal goes from its home straight to its tiles, and is counted no earlier than the nearest allows
    let back := if d.toGlobal then times.2 else (ps.map fun q => (s.farTimes q.1 dest ext.cached).2).foldl min times.2
    match d.state k with
    | .waiting =>
      if decide (granCount d.dest.addr.toNat d.len ≤ k) || (s.tile key).awaits s.clk d.after ||
          (s.isDual key && !(s.tile key).compared d.msg) || decide (s.clk < d.firstAt + k + times.1) ||
          (d.toGlobal && !s.placesFree ps) then s
      else
        let op : AccOp := if d.toGlobal then .write (ps.flatMap fun q => (s.tile q.1).taggedAt s.clk q.2.1 4) else .read
        match s.performAt key (s.granAccess key d k op ext) with
        | (.done st bs, s') =>
          let at_ := if region dest.addr.toNat = .reduce then issued + 150 else s.clk + back
          s'.putDma key (d.put s.clk k (.performed st bs at_))
        | (_, s') => s'
    | .performed st bs at_ =>
      if decide (s.clk < at_) then s
      else if st ≠ stOK then s.putDma key (d.put s.clk k (.failed st))
      else if d.toGlobal then (s.countAt key d.cc (d.gran k).2).putDma key (d.put s.clk k .done)
      else if !s.placesFree ps then s
      else
        let s := ps.foldl (fun s q => s.land q.1 q.2.1 ((bs.drop q.2.2).take 4)) s
        (s.countAt key d.cc (d.gran k).2).putDma key (d.put s.clk k .done)
    | _ => s

/-! ### Collectives (R314) -/

/-- The range lies in bank memory or the paged region. -/
def collRange (a n : Nat) : Bool :=
  (decide (region a = .bank) || decide (region a = .paged)) && decide (region a = region (a + n - 1))

/-- `coll` (R314): the descriptor reaches the bridge in 20 cycles (R453). -/
def opChColl : OpFn := fun x s =>
  let t := x.pre
  let w0 := x.chLane 0
  let kind := bits w0 3 0
  let rop := bits w0 7 4
  let group := bits w0 23 8
  let len := x.chLane 1
  let sfaw := x.chLane 3
  let dfaw := x.chLane 5
  let src := farAddr sfaw (x.chLane 2)
  let dst := farAddr dfaw (x.chLane 4)
  let g : Group := tabGet {} s.br.groups group
  let dlen := (collSlice kind len g.ranks 0).2
  if t.fenceWait x.fcClass then .wait true .late id
  else
    firstTrap [x.scopeBad,
        x.reasons [(2, decide (kind < 2) && decide (8 ≤ rop)), (5, !x.fcCcen),
          (7, decide (4 ≤ kind) || decide (len = 0) || decide (len % 64 ≠ 0) || !collRange src len || !collRange dst dlen),
          (12, fawBad sfaw || fawBad dfaw)],
        (if t.farAllowed sfaw src len 0 then none else some (x.chTrap .farPerm src)),
        (if t.farAllowed dfaw dst dlen 1 then none else some (x.chTrap .farPerm dst))]
      (if s.egressFull x.key then .wait false .late id
       else
         let sd := t.farDest sfaw src
         let dd := t.farDest dfaw dst
         let now := s.tile x.key
         let later : Later := { cls := x.fcClass, relmask := if x.fcOrd then t.relmask else 0
                                touches := touching [(src, len), (dst, dlen)] }
         let rank := ((x.launch s).bind fun l => s.rankOf g l.handle t.tlin).getD (2 ^ 20)
         let q : Submission := { group, rank, seqNo := x.chLane 6, tile := x.key, kind, rop, len, src := sd, dst := dd
                                 cc := x.fcCc, issuer := x.issuer s sfaw, dissuer := x.issuer s dfaw, arriveAt := x.clk + 20
                                 after := now.before x.key later, msg := now.egressNo }
         let s := s.emit x.key 4 x.cmdWords
         .go (if s.isTwin x.key then s
              else { s.modTile x.key fun t => { t with colls := t.colls + 1 } with
                br := { s.br with subs := s.br.subs ++ [q] } }) {})

/-! ### Completion counters and mailboxes (R316–R318) -/

/-- `ccset` (R316). -/
def opChCcset : OpFn := fun x s =>
  x.ok s fun t => { t with cc := vset t.cc (bits x.n.toNat 3 0) { count := BitVec.ofNat 30 x.a.toNat, status := 0 } }

/-- The condition of `ccwait` (R317). -/
def Counter.joined (c : Counter) : Bool := decide (c.count = 0) || decide (c.status ≠ 0)

/-- `ccwait` (R317). -/
def opChCcwait : OpFn := fun x s =>
  let c : Counter := vget {} x.pre.cc (bits x.n.toNat 3 0)
  if !c.joined then .wait true .classW id
  else x.ok s fun t => t.setGuard (bits x.n.toNat 6 4) (decide (c.status = 0))

/-- `ccclr` (R316, R296). -/
def opChCcclr : OpFn := fun x s =>
  x.ok s fun t =>
    let t := { t with cc := (upTo 16).foldl (fun v i => if bit x.n.toNat i then vset v i {} else v) t.cc }
    if bit x.n.toNat 16 then { t with lstat := 0, lcc := 0, lidx := 0, nack := false } else t

/-- `mbclr` (R318). -/
def opChMbclr : OpFn := fun x s =>
  x.ok s fun t => { t with mb := (upTo 4).foldl (fun v i => if bit x.n.toNat i then vset v i 0 else v) t.mb }

/-- `mbwait` (R318). -/
def opChMbwait : OpFn := fun x s =>
  if (vget 0 x.pre.mb (bits x.n.toNat 1 0)).toNat < x.a.toNat then .wait true .classW id else .go s {}

/-! ### Wait on address (R319) -/

/-- The condition of `waddr`. -/
def waddrHolds (cond : Nat) (w b : Word) : Bool :=
  match cond with
  | 0 => decide (w = b)
  | 1 => decide (w ≠ b)
  | 2 => decide (b.toInt ≤ w.toInt)
  | 3 => decide (w.toInt < b.toInt)
  | 4 => decide (b.toNat ≤ w.toNat)
  | 5 => decide (w.toNat < b.toNat)
  | _ => decide (w &&& b ≠ 0)

/-- `waddr` (R319): the condition is tested before the limit. The read that satisfies it is of class 15: it follows every
earlier access of the tile (R377, R378). `waddrAt` holds the cycle in which the limit passes. -/
def opChWaddr : OpFn := fun x s =>
  let v := x.n.toNat
  let a := bits x.a.toNat 16 2 * 4
  let out := decide ((if x.pre.sup then lsSize else supBase) < a + 4)
  firstTrap [x.reasons [(8, decide (bits v 2 0 = 7)), (13, out)]]
    (let issue (b : Bool) : OpOut :=
       x.ok s fun t => { t.setGuard (bits v 6 4) b with waddrAt := none, waddrOut := false }
     if waddrHolds (bits v 2 0) (BitVec.ofNat 32 (x.pre.mem a 4)) x.b && x.pre.openIds.isEmpty then issue true
     else if x.pre.waddrOut then issue false
     else .wait true .classW fun s => s.modTile x.key fun t =>
       { t with waddrAt := match t.waddrAt with
                  | some d => some d
                  | none => if bits v 31 8 = 0 then none else some (x.clk + 256 * bits v 31 8) })

/-- WADDR_TIMEOUT: the limit of a tile's `waddr` has passed (R319). -/
def State.waddrTimeout (s : State) (key : Nat) : State :=
  s.modTile key fun t =>
    match t.waddrAt with
    | some d => if d ≤ s.clk then { t with waddrAt := none, waddrOut := true } else t
    | none => t

/-! ### The rows of events -/

/-- SPAWN_ANSWER. -/
def execSpawnAnswer (t : Nat) (s : State) : Host.Outcome State Fault Refusal := .next (s.spawnAnswer t)
/-- SPAWN_TARGET_START. -/
def execSpawnTargetStart (t : Nat) (s : State) : Host.Outcome State Fault Refusal := .next (s.spawnStart t)
/-- DMA_GRANULE_DONE. -/
def execDmaGranuleDone (t i g : Nat) (ext : ExtReply) (s : State) : Host.Outcome State Fault Refusal :=
  .next (s.dmaGranule t i g ext)
/-- WADDR_TIMEOUT. -/
def execWaddrTimeout (t : Nat) (s : State) : Host.Outcome State Fault Refusal := .next (s.waddrTimeout t)

/-! ### The rows -/

/-- CH_SEND. -/
def execChSend (m : TrigMove) (s : State) : Host.Outcome State Fault Refusal := .next (s.issueOne 0xA00 opChSend m)
/-- CH_HALO. -/
def execChHalo (m : TrigMove) (s : State) : Host.Outcome State Fault Refusal := .next (s.issueOne 0xA01 opChHalo m)
/-- CH_SPAWN. -/
def execChSpawn (m : TrigMove) (s : State) : Host.Outcome State Fault Refusal := .next (s.issueOne 0xA02 opChSpawn m)
/-- CH_FLD. -/
def execChFld (m : TrigMove) (s : State) : Host.Outcome State Fault Refusal := .next (s.issueOne 0xA03 opChFld m)
/-- CH_FLDV. -/
def execChFldv (m : TrigMove) (s : State) : Host.Outcome State Fault Refusal := .next (s.issueOne 0xA04 opChFldv m)
/-- CH_FST. -/
def execChFst (m : TrigMove) (s : State) : Host.Outcome State Fault Refusal := .next (s.issueOne 0xA05 opChFst m)
/-- CH_FSTV. -/
def execChFstv (m : TrigMove) (s : State) : Host.Outcome State Fault Refusal := .next (s.issueOne 0xA06 opChFstv m)
/-- CH_FSTM. -/
def execChFstm (m : TrigMove) (s : State) : Host.Outcome State Fault Refusal := .next (s.issueOne 0xA07 opChFstm m)
/-- CH_FSTRED. -/
def execChFstred (m : TrigMove) (s : State) : Host.Outcome State Fault Refusal := .next (s.issueOne 0xA08 opChFstred m)
/-- CH_BADD. -/
def execChBadd (m : TrigMove) (s : State) : Host.Outcome State Fault Refusal := .next (s.issueOne 0xA09 opChBadd m)
/-- CH_BADDF. -/
def execChBaddf (m : TrigMove) (s : State) : Host.Outcome State Fault Refusal := .next (s.issueOne 0xA0A opChBaddf m)
/-- CH_BADDH. -/
def execChBaddh (m : TrigMove) (s : State) : Host.Outcome State Fault Refusal := .next (s.issueOne 0xA0B opChBaddh m)
/-- CH_BMIN. -/
def execChBmin (m : TrigMove) (s : State) : Host.Outcome State Fault Refusal := .next (s.issueOne 0xA0C opChBmin m)
/-- CH_BMAX. -/
def execChBmax (m : TrigMove) (s : State) : Host.Outcome State Fault Refusal := .next (s.issueOne 0xA0D opChBmax m)
/-- CH_BAND. -/
def execChBand (m : TrigMove) (s : State) : Host.Outcome State Fault Refusal := .next (s.issueOne 0xA0E opChBand m)
/-- CH_BOR. -/
def execChBor (m : TrigMove) (s : State) : Host.Outcome State Fault Refusal := .next (s.issueOne 0xA0F opChBor m)
/-- CH_BXOR. -/
def execChBxor (m : TrigMove) (s : State) : Host.Outcome State Fault Refusal := .next (s.issueOne 0xA10 opChBxor m)
/-- CH_BSWAP. -/
def execChBswap (m : TrigMove) (s : State) : Host.Outcome State Fault Refusal := .next (s.issueOne 0xA11 opChBswap m)
/-- CH_BCAS. -/
def execChBcas (m : TrigMove) (s : State) : Host.Outcome State Fault Refusal := .next (s.issueOne 0xA12 opChBcas m)
/-- CH_BCASD. -/
def execChBcasd (m : TrigMove) (s : State) : Host.Outcome State Fault Refusal := .next (s.issueOne 0xA13 opChBcasd m)
/-- CH_BRED. -/
def execChBred (m : TrigMove) (s : State) : Host.Outcome State Fault Refusal := .next (s.issueOne 0xA14 opChBred m)
/-- CH_DMA. -/
def execChDma (m : TrigMove) (s : State) : Host.Outcome State Fault Refusal := .next (s.issueOne 0xA15 opChDma m)
/-- CH_DMAW. -/
def execChDmaw (m : TrigMove) (s : State) : Host.Outcome State Fault Refusal := .next (s.issueOne 0xA16 opChDmaw m)
/-- CH_COLL. -/
def execChColl (m : TrigMove) (s : State) : Host.Outcome State Fault Refusal := .next (s.issueOne 0xA18 opChColl m)
/-- CH_CCSET. -/
def execChCcset (m : TrigMove) (s : State) : Host.Outcome State Fault Refusal := .next (s.issueOne 0xA19 opChCcset m)
/-- CH_CCWAIT. -/
def execChCcwait (m : TrigMove) (s : State) : Host.Outcome State Fault Refusal := .next (s.issueOne 0xA1A opChCcwait m)
/-- CH_CCCLR. -/
def execChCcclr (m : TrigMove) (s : State) : Host.Outcome State Fault Refusal := .next (s.issueOne 0xA1B opChCcclr m)
/-- CH_MBCLR. -/
def execChMbclr (m : TrigMove) (s : State) : Host.Outcome State Fault Refusal := .next (s.issueOne 0xA1C opChMbclr m)
/-- CH_MBWAIT. -/
def execChMbwait (m : TrigMove) (s : State) : Host.Outcome State Fault Refusal := .next (s.issueOne 0xA1D opChMbwait m)
/-- CH_WADDR. -/
def execChWaddr (m : TrigMove) (s : State) : Host.Outcome State Fault Refusal := .next (s.issueOne 0xA1E opChWaddr m)

end Sys2Proof.Machine
end

