-- ==== Sys2Proof/Machine/Bal.lean ====
section
/-! DEFINITION. The Balance (chapter 14): variables and couplings, the update rule, phases and barriers, the operations.
A is `bal.a`, v the trigger value, c the trigger cycle. -/

namespace Sys2Proof.Machine

/-! ### The update rule (R338–R342) -/

/-- T[k] of R342 for k from 0 to 94: the formula, rounded to nearest. -/
def sigmoidTable : List Nat :=
  [32768, 34813, 36843, 38841, 40793, 42687, 44511, 46254, 47911, 49474, 50941, 52310, 53581, 54754, 55834, 56822, 57724,
   58544, 59287, 59959, 60565, 61109, 61598, 62036, 62428, 62778, 63090, 63368, 63615, 63835, 64030, 64203] ++
  [64357, 64494, 64614, 64721, 64816, 64900, 64974, 65039, 65097, 65149, 65194, 65234, 65269, 65300, 65328, 65352, 65374,
   65393, 65410, 65425, 65438, 65449, 65459, 65468, 65476, 65483, 65489, 65495, 65500, 65504, 65508, 65511] ++
  [65514, 65517, 65519, 65521, 65523, 65524, 65526, 65527, 65528, 65529, 65530, 65530, 65531, 65532, 65532, 65533, 65533,
   65533, 65534, 65534, 65534, 65534, 65535, 65535, 65535, 65535, 65535, 65535, 65535, 65535, 65535]

/-- T[k] (R342). -/
def sigmoid (k : Int) : Nat :=
  let t := if 95 ≤ k.natAbs then 65536 else nth 0 sigmoidTable k.natAbs
  if k < 0 then 65536 - t else t

/-- G of R341: the draw for a seed, sweep number, tile and variable. -/
def balDraw (seed sw t i : Nat) : Nat :=
  let m := 2 ^ 64
  let z := ((sw * 2 ^ 28) ||| (t * 2 ^ 10) ||| i) ^^^ seed
  let z := (z + 0xA0C13E576B92D4F1) % m
  let z := ((z ^^^ (z / 2 ^ 29)) * 0xD3B54F612C8E97A5) % m
  let z := ((z ^^^ (z / 2 ^ 32)) * 0xA0C13E576B92D4F1) % m
  let z := z ^^^ (z / 2 ^ 27)
  bits z 63 48

/-- A variable record's fields (Table 14-1). -/
structure VarRec where
  coff : Nat
  deg : Nat
  cval : Bool
  clamp : Bool
  colour : Nat
  bias : Int
  /-- A reserved bit is set. -/
  res : Bool
  deriving DecidableEq, Repr

/-- The record of its 8 bytes. -/
def varRec (v : Nat) : VarRec :=
  { coff := bits v 48 32, deg := bits v 28 24, cval := bit v 21, clamp := bit v 20, colour := bits v 18 16
    bias := sextNat v 16
    res := decide (bits v 63 49 ≠ 0) || decide (bits v 31 29 ≠ 0) || decide (bits v 23 22 ≠ 0) || bit v 19 }

/-- Variable i's record (R338). -/
def Tile.varRec (t : Tile) (i : Nat) : VarRec := Sys2Proof.Machine.varRec (t.mem (t.bal.rbase + 8 * i) 8)

/-- The Balance's state of a tile changed. -/
def Tile.modBal (t : Tile) (f : Bal → Bal) : Tile := { t with bal := f t.bal }

/-- What a coupling index names (Table 14-2): a variable, a halo slot, or nothing. -/
inductive SpinRef where
  | var (i : Nat)
  | halo (j : Nat)
  | nothing
  deriving DecidableEq, Repr

/-- The index space of Table 14-2 for N variables. -/
def spinRef (n idx : Nat) : SpinRef :=
  if idx < n then .var idx
  else if idx < 0x400 then .nothing
  else if idx < 0x500 then .halo (idx - 0x400)
  else .nothing

/-- Spin i. -/
def Bal.spin (b : Bal) (i : Nat) : Bool := b.spins.getLsbD i
/-- Spins as a bit vector from a function of the index. -/
def mkSpins (w : Nat) (f : Nat → Bool) : BitVec w :=
  BitVec.ofNat w ((upTo w).foldl (fun n i => if f i then n + 2 ^ i else n) 0)

/-- The limit of R27 for a mode. -/
def modeLimit (sup : Bool) : Nat := if sup then lsSize else supBase

/-- What Table 14-5 forbids of a record, its own footprint included (R343). -/
def VarRec.bad (r : VarRec) (ncol : Nat) : Bool :=
  r.res || decide (16 < r.deg) || decide (ncol ≤ r.colour) || decide (r.coff % 4 ≠ 0)

/-- A coupling breaks the checks of Table 14-5 or of Table 14-2. -/
def couplingBad (n e : Nat) : Bool := decide (bits e 31 20 ≠ 0) || decide (spinRef n (bits e 19 8) = .nothing)

/-- What an update of a variable reads: the field h, a same-colour coupling met, a malformed coupling met (R340, R341,
R343). -/
def Tile.field (t : Tile) (w : Sweep) (r : VarRec) : Int × Bool × Bool :=
  (upTo r.deg).foldl (fun (acc : Int × Bool × Bool) q =>
    if acc.2.2 then acc
    else
      let a := r.coff + 4 * q
      let e := t.mem a 4
      if decide (modeLimit w.sup < a + 4) || couplingBad t.bal.n e then (acc.1, acc.2.1, true)
      else
        let (spin, same) := match spinRef t.bal.n (bits e 19 8) with
          | .var i => (t.bal.spin i, decide ((t.varRec i).colour = w.phase))
          | .halo j => (w.halo0.getLsbD j, false)
          | .nothing => (false, false)
        (acc.1 + sextNat e 8 * (if spin then 1 else -1), acc.2.1 || same, false)) (r.bias, false, false)

/-- The new spin of a variable, with a conflict and an error (R341, R343). -/
def Tile.newSpin (t : Tile) (w : Sweep) (i : Nat) : Bool × Bool × Bool :=
  let r := t.varRec i
  let old := t.bal.spin i
  if r.bad t.bal.ncol || decide (modeLimit w.sup < t.bal.rbase + 8 * i + 8) then (old, false, true)
  else if r.clamp then (r.cval, false, false)
  else
    let f := t.field w r
    if f.2.2 then (old, f.2.1, true)
    else
      let k := max (-128) (min 127 (((w.beta.toNat : Int) * f.1) / 256))
      (decide (balDraw t.bal.seed.toNat t.bal.swn.toNat t.tlin i < sigmoid k), f.2.1, false)

/-- The variables of a colour. -/
def Tile.ofColour (t : Tile) (c : Nat) : List Nat :=
  (upTo t.bal.n).filter fun i => decide ((t.varRec i).colour = c)

/-! ### Phases (R343–R347) -/

/-- A phase begins at the start of its first cycle: the halo slots are taken and the update cycle is fixed (R343,
R347). -/
def Tile.balBegin (t : Tile) (clk : Nat) : Tile :=
  match t.bal.sweep with
  | some w =>
    if w.stage = .updating && decide (w.begun = clk) then
      let e := if w.prime then clk else clk + 2 + ((t.ofColour w.phase).length + 15) / 16
      { t with bal := { t.bal with sweep := some { w with halo0 := t.bal.halo, updateAt := e } } }
    else t
  | none => t

/-- The second half of a spin image is read, as it stands at the start of the cycle (R350). -/
def Tile.balHalf (t : Tile) (clk : Nat) : Tile :=
  match t.bal.half with
  | some h =>
    if h.at_ = clk then
      let img : BitVec 512 := BitVec.ofNat 512 (t.mem h.addr 64)
      let hi : BitVec 512 := (img &&& ~~~h.clamped) ||| (h.val &&& h.clamped)
      { t with bal := { t.bal with
          half := none, spins := (t.bal.spins &&& ((BitVec.allOnes 512).setWidth 1024)) ||| (hi.setWidth 1024 <<< 512) } }
    else t
  | none => t

/-- What a `load` replaced is forgotten once its new state is visible (R350). -/
def Tile.balOld (t : Tile) (clk : Nat) : Tile :=
  match t.bal.old with
  | some o => if o.at_ < clk then { t with bal := { t.bal with old := none } } else t
  | none => t

/-- The members' rectangle: launch-relative x0, y0, w, h (R345). -/
def Bal.rect (b : Bal) (l : Launch) : Nat × Nat × Nat × Nat := b.group.getD (0, 0, l.w, l.h)

/-- The launch-relative positions of a rectangle. -/
def rectTlins (l : Launch) (g : Nat × Nat × Nat × Nat) : List Nat :=
  (upTo g.2.2.2).flatMap fun dy => (upTo g.2.2.1).map fun dx => (g.2.1 + dy) * l.w + g.1 + dx

/-- Export direction d: the offset, and the first slot written there (R344). -/
def exportDir (d : Nat) : (Int × Int) × Nat :=
  match d with
  | 0 => ((0, 1), 0x80)
  | 1 => ((1, 0), 0xC0)
  | 2 => ((0, -1), 0x00)
  | _ => ((-1, 0), 0x40)

/-- Export entry j of direction d: the variable, none when it is malformed (R344). -/
def Tile.exportEntry (t : Tile) (d j : Nat) : Option Nat :=
  let k : Link := vget {} t.bal.links d
  let e := t.mem (k.addr + 2 * j) 2
  if decide (bits e 15 10 ≠ 0) || decide (t.bal.n ≤ bits e 9 0) then none else some (bits e 9 0)

/-- The entries of every export list: direction, number, variable. -/
def Tile.exports (t : Tile) : List (Nat × Nat × Option Nat) :=
  (upTo 4).flatMap fun d => (upTo (vget {} t.bal.links d : Link).count).map fun j => (d, j, t.exportEntry d j)

/-- The spins that a tile sends at a phase's end (R344, R346). -/
def State.balSends (s : State) (key : Nat) (l : Launch) (w : Sweep) : List HaloSpin :=
  let t := s.tile key
  let g := t.bal.rect l
  t.exports.filterMap fun e =>
    match e.2.2 with
    | none => none
    | some i =>
      if !w.prime && decide ((t.varRec i).colour ≠ w.phase) then none
      else
        match l.relTile t.tlin (exportDir e.1).1.1 (exportDir e.1).1.2 false with
        | none => none
        | some k =>
          if !(rectTlins l g).contains k then none
          else
            let a := l.tileOf t.tlin
            let b := l.tileOf k
            some { dstTile := b, slot := (exportDir e.1).2 + e.2.1, bit := t.bal.spin i
                   landAt := w.updateAt + if tileDie a = tileDie b then 5 else 43, msg := t.egressNo }

/-- The tile arrives at the colour barrier; a switch is pending for it until its context is saved (R347, R356). -/
def Tile.balArrive (t : Tile) (w : Sweep) : Tile :=
  let since := max w.updateAt w.lastLand
  { t with bal := { t.bal with sweep := some { w with stage := .arrived since, stopAsk := t.switchPend || t.saved } } }

/-- BAL_PHASE_UPDATE: the new spins of the phase take effect together, and the exported spins of its colour leave (R341,
R343, R344). In a DUAL launch they make one message, for which the update waits until the router has room; the twin sends none (R490,
R491). -/
def State.balUpdate (s : State) (key : Nat) : State :=
  let t := s.tile key
  match t.bal.sweep, t.launch.bind s.launch? with
  | some w, some l =>
    if w.stage ≠ .updating || decide (s.clk < w.updateAt) || decide (s.clk < w.begun) || s.egressFull key then s
    else
      let vars := if w.prime then [] else t.ofColour w.phase
      let news := vars.map fun i => (i, t.newSpin w i)
      let spins := news.foldl (fun (b : BitVec 1024) n =>
        if n.2.1 then b ||| (1#1024 <<< n.1) else b &&& ~~~(1#1024 <<< n.1)) t.bal.spins
      let conflict := news.any fun n => n.2.2.1
      let t := if conflict then t.setCir 1 else t
      let t := { t with bal := { t.bal with spins } }
      let recerr := w.recerr || (news.any fun n => n.2.2.2) || t.exports.any fun e => e.2.2.isNone
      let s := s.setTile key t
      let sends := s.balSends key l w
      let w := { w with recerr, stage := .sending, lastLand := w.updateAt }
      let s := if sends.isEmpty then s else s.emit key 5 (sends.map fun h => ofBool h.bit)
      let sends := if s.isTwin key then [] else sends
      s.modTile key fun t =>
        let t := { t with bal := { t.bal with sends, sweep := some w } }
        if sends.isEmpty then t.balArrive w else t
  | _, _ => s

/-- BAL_HALO_LAND: halo spin i of a tile lands in the neighbour's slot, or is lost on an edge that is down; after the last the
tile arrives (R344, R347, R452, R492). -/
def State.balHaloLand (s : State) (key i : Nat) : State :=
  let t := s.tile key
  match t.bal.sends[i]? with
  | none => s
  | some h =>
    if decide (s.clk < h.landAt) || (s.isDual key && !t.compared h.msg) then s
    else
      let set (u : Tile) : Tile :=
        let m : BitVec 256 := 1#256 <<< h.slot
        { u with bal := { u.bal with halo := if h.bit then u.bal.halo ||| m else u.bal.halo &&& ~~~m } }
      let s := if s.pathDown (tileDie key) (tileDie h.dstTile) then s else s.modBoth h.dstTile set
      s.modTile key fun t =>
        let sends := (t.bal.sends.take i) ++ t.bal.sends.drop (i + 1)
        let sweep := t.bal.sweep.map fun w => { w with lastLand := s.clk }
        let t := t.modBal fun b => { b with sends, sweep }
        match t.bal.sweep with
        | some w => if sends.isEmpty && decide (w.stage = .sending) then t.balArrive w else t
        | none => t

/-! ### The colour barrier (R345–R348, R356) -/

/-- The cycle in which a tile arrived at its barrier; none while it is waited for. A member with no sweep counts by its
halt, or not at all (R345, R347). -/
def Tile.balSince (t : Tile) : Option Nat :=
  match t.bal.sweep with
  | some w => match w.stage with
    | .arrived c | .resumed c => some c
    | _ => none
  | none => if t.run = .halted then some t.arrivedAt else if t.run = .notStarted then some 0 else none

/-- The members of a tile's group, with the twins of a DUAL launch (R345, R493). -/
def State.balMembers (s : State) (l : Launch) (g : Nat × Nat × Nat × Nat) : List Nat :=
  let ks := (rectTlins l g).filter fun k => !(s.tile (l.tileOf k)).isSpawn
  ks.map l.tileOf ++ if l.dual then ks.map l.twinOf else []

/-- G of R174 for a group's rectangle (R347); of a DUAL launch the greater of the two (R493). -/
def groupG (l : Launch) (g : Nat × Nat × Nat × Nat) : Nat :=
  let a := treeG (l.ox + g.1) (l.oy + g.2.1) g.2.2.1 g.2.2.2
  if l.dual then max a (treeG (l.tox + g.1) (l.toy + g.2.1) g.2.2.1 g.2.2.2) else a

/-- The tiles that a release reaches: the members, and the spawn tiles of the group that stand at the barrier with a sweep
of their own, which nobody waits for (R345). -/
def State.balReached (s : State) (l : Launch) (g : Nat × Nat × Nat × Nat) : List Nat :=
  let waits (k : Nat) : Bool := let t := s.tile k
    t.isSpawn && t.bal.sweep.isSome && t.balSince.isSome && decide (t.bal.rect l = g)
  s.balMembers l g ++ ((rectTlins l g).flatMap fun k => if waits (l.tileOf k) then
    l.tileOf k :: (if l.dual then [l.twinOf k] else []) else [])

/-- The release cycle of a tile's barrier, once every member has arrived, and the tile itself (R345, R347). -/
def State.balRelease? (s : State) (key : Nat) (l : Launch) : Option Nat :=
  let g := (s.tile key).bal.rect l
  let ms := s.balMembers l g
  let since := (if ms.contains key then ms else key :: ms).map fun k => (s.tile k).balSince
  let agree := ms.all fun k => (s.tile k).bal.sweep.isNone || decide ((s.tile k).bal.rect l = g)
  if agree && since.all Option.isSome && !s.ending l.id then
    some ((since.foldl (fun m c => max m (c.getD 0)) 0) + 2 * groupG l g)
  else none

/-- The marginal counters after a sweep, and whether one was saturated already (R348). -/
def Bal.addMarg (b : Bal) : Bal :=
  let m := Vector.ofFn fun (i : Fin 1024) =>
    let a := b.marg.get i
    if decide (i.val < b.n) && b.spin i.val && decide (a ≠ 0xFFFF) then a + 1 else a
  let sat := (upTo b.n).any fun i => b.spin i && decide (vget 0 b.marg i = 0xFFFF)
  { b with marg := m, msat := b.msat || sat }

/-- The sweep after the release of cycle `clk`: its next phase, or none at its end (R343, R346, R348). -/
def Bal.afterRelease (b : Bal) (w : Sweep) (clk : Nat) : Bal × Option Sweep :=
  let next (w : Sweep) : Sweep := { w with stage := .updating, begun := clk + 1, updateAt := clk + 1, stopAsk := false }
  match w.stage with
  | .resumed _ => (b, some (next w))
  | _ =>
    if w.prime then
      if w.total = 0 then (b, none) else (b, some (next { w with prime := false, phase := 0 }))
    else if w.phase + 1 < b.ncol then (b, some (next { w with phase := w.phase + 1 }))
    else
      let b := if w.marg then b.addMarg else b
      let b := { b with swn := b.swn + 1 }
      if w.left ≤ 1 then (b, none) else (b, some (next { w with phase := 0, left := w.left - 1 }))

/-- The sweep's result word (R348). -/
def Sweep.result (w : Sweep) : Word := BitVec.ofNat 32 (w.total + 2 ^ 31 * ofBool w.recerr)

/-- One member passes the release: with `stop` its sweep stops there (R348, R355, R356). -/
def Tile.balPass (t : Tile) (clk : Nat) (stop : Bool) : Tile :=
  match t.bal.sweep with
  | none => t
  | some w =>
    match t.bal.afterRelease w clk with
    | (b, none) => { t with bal := { b with sweep := none } }.finishResult 9 clk w.seq (wideOf w.result)
    | (b, some w') => { t with bal := { b with sweep := some (if stop then { w' with stage := .stopped } else w') } }

/-- BAL_BARRIER_RELEASE: the barrier of a tile's group releases every tile that it reaches (R345, R347). -/
def State.balRelease (s : State) (key : Nat) : State :=
  match (s.tile key).launch.bind s.launch? with
  | none => s
  | some l =>
    if (s.tile key).bal.sweep.isNone then s
    else match s.balRelease? key l with
      | none => s
      | some r =>
        if s.clk < r then s
        else
          let ms := s.balReached l ((s.tile key).bal.rect l)
          let stop := ms.any fun k => match (s.tile k).bal.sweep with | some w => w.stopAsk | none => false
          s.modTiles ms fun t => t.balPass s.clk stop

/-! ### Checks of the operations (R354) -/

/-- A `bal` trap: detail from bit 32 up. -/
def Ctx.balTrap (x : Ctx) (c : Cause) (d : Nat := 0) : OpOut := x.trap c (2 ^ 32 * d)

/-- The Balance's state as the operation sees it. -/
def Ctx.bal (x : Ctx) : Bal := x.pre.bal.view x.clk

/-- Steps 2 to 4 of R354. -/
def Ctx.balGuard (x : Ctx) (s : State) (busy loaded : Bool) : Option OpOut :=
  if !((x.launch s).elim false Launch.balance) then some (x.balTrap .balOff)
  else if busy && x.pre.bal.sweep.isSome then some (x.balTrap .balBusy)
  else if loaded && !x.bal.loaded then some (x.balTrap .balState)
  else none

/-- PRIVILEGE and LS_RANGE over a footprint: none where it keeps R27. -/
def footCause (sup : Bool) (a n : Nat) : Option (Cause × Nat) :=
  if n = 0 then none
  else if lsSize < a + n then some (.lsRange, max a lsSize)
  else if !sup && decide (supBase < a + n) then some (.privilege, max a supBase)
  else none

/-- The same as a check. -/
def Ctx.balFoot (x : Ctx) (a n : Nat) : Option OpOut :=
  (footCause x.pre.sup a n).map fun c => x.balTrap c.1 (c.2 % 2 ^ 17)

/-! ### `load` (R350) -/

/-- The load descriptor: RBASE, N, NCOL, the spin image's address when SPINIT, and a reserved bit set. -/
def loadDesc (t : Tile) (a : Nat) : Nat × Nat × Nat × Option Nat × Bool :=
  let w (i : Nat) := t.mem (a + 4 * i) 4
  let res := decide (bits (w 0) 31 17 ≠ 0) || decide (bits (w 0) 2 0 ≠ 0) || decide (bits (w 1) 31 19 ≠ 0) ||
    decide (bits (w 1) 15 10 ≠ 0) || decide (bits (w 2) 30 17 ≠ 0) || decide (bits (w 2) 5 0 ≠ 0) ||
    (upTo 5).any fun i => decide (w (3 + i) ≠ 0)
  (bits (w 0) 16 0, bits (w 1) 9 0 + 1, bits (w 1) 18 16 + 1, if bit (w 2) 31 then some (bits (w 2) 16 6 * 64) else none, res)

/-- The words that the scan of a descriptor reads: descriptor, records, couplings, image. -/
def scanWords (t : Tile) (a : Nat) : List Nat :=
  let (rb, n, _, img, _) := loadDesc t a
  wordsOf a 32 ++ wordsOf rb (8 * n) ++
    ((upTo n).flatMap fun i => let r := varRec (t.mem (rb + 8 * i) 8); wordsOf r.coff (4 * min r.deg 16)) ++
    match img with | some q => wordsOf q 128 | none => []

/-- The duration of the scan. -/
def scanTime (t : Tile) (a : Nat) : Nat :=
  let (rb, n, _, _, _) := loadDesc t a
  let c := (upTo n).foldl (fun c i => c + (varRec (t.mem (rb + 8 * i) 8)).deg) 0
  4 + (n + 15) / 16 + (c + 15) / 16

/-- The first fault of the scan: its cause and detail (R350, R354). -/
def scanFault (t : Tile) (a : Nat) : Option (Cause × Nat) :=
  let foot (q n : Nat) : Option (Cause × Nat) := (footCause t.sup q n).map fun c => (c.1, c.2 % 2 ^ 17)
  let (rb, n, ncol, img, res) := loadDesc t a
  let coupling (i : Nat) (r : VarRec) (q : Nat) : Option (Cause × Nat) :=
    let p := r.coff + 4 * q
    let e := t.mem p 4
    match foot p 4 with
    | some c => some c
    | none =>
      if bits e 31 20 ≠ 0 then some (.balRecord, i)
      else if spinRef n (bits e 19 8) = .nothing then some (.balIndex, i + 2 ^ 10 * q)
      else none
  let record (i : Nat) : Option (Cause × Nat) :=
    match foot (rb + 8 * i) 8 with
    | some c => some c
    | none =>
      let r := varRec (t.mem (rb + 8 * i) 8)
      if r.bad ncol then some (.balRecord, i) else (upTo r.deg).findSome? fun q => coupling i r q
  match foot a 32 with
  | some c => some c
  | none =>
    if res then some (.balRecord, 0)
    else match (upTo n).findSome? record with
      | some c => some c
      | none => match img with
        | some q => foot q 128
        | none => none

/-- `load`. -/
def opBalLoad : OpFn := fun x s =>
  let t := x.pre
  let a := bits x.a.toNat 16 5 * 32
  match x.balGuard s true false with
  | some o => o
  | none =>
    if (footCause t.sup a 32).isNone && (scanWords t a).any (fun w => t.lsPending.contains w) then .wait true .locked id
    else match t.bal.scanAt with
      | none =>
        .wait true .locked fun s => s.modTile x.key fun t =>
          t.modBal fun b => { b with scanAt := some (x.clk + scanTime t a) }
      | some d =>
        if x.clk < d then .wait true .locked id
        else match scanFault t a with
          | some (c, k) => x.balTrap c k
          | none =>
            let (rb, n, ncol, img, _) := loadDesc t a
            let recs := (upTo n).map fun i => varRec (t.mem (rb + 8 * i) 8)
            let clamped (i : Nat) : Option Bool := match recs[i]? with
              | some r => if r.clamp then some r.cval else none
              | none => none
            let image : Nat := match img with | some q => t.mem q 128 | none => 0
            let spins := mkSpins 1024 fun i => (clamped i).getD (bit image i)
            let half : Option HalfLoad := img.map fun q =>
              { at_ := x.clk + 1, addr := q + 64, clamped := mkSpins 512 fun i => (clamped (512 + i)).isSome
                val := mkSpins 512 fun i => (clamped (512 + i)).getD false }
            x.ok s fun t => t.modBal fun b => { b with
              spins, halo := 0, loaded := true, n, ncol, rbase := rb, desc := a, scanAt := none, half
              old := some { at_ := x.clk + 1, spins := b.spins, halo := b.halo, loaded := b.loaded, n := b.n
                            ncol := b.ncol, rbase := b.rbase, desc := b.desc } }

/-! ### The other operations (R349, R351, R352) -/

/-- `seed`. -/
def opBalSeed : OpFn := fun x s =>
  firstTrap [x.balGuard s true false]
    (x.ok s fun t => t.modBal fun b =>
      { b with seed := BitVec.ofNat 64 (x.a.toNat + 2 ^ 32 * x.n.toNat), swn := 0, ent := false })

/-- `beta`. -/
def opBalBeta : OpFn := fun x s =>
  firstTrap [x.balGuard s false false] (x.ok s fun t => { t with beta := BitVec.ofNat 32 (bits x.n.toNat 15 0) })

/-- The word 0 of a record with CLAMP and CVAL set. -/
def clampWord (w : Nat) (clamp cval : Bool) : Nat :=
  bits w 31 22 * 2 ^ 22 + ofBool cval * 2 ^ 21 + ofBool clamp * 2 ^ 20 + bits w 19 0

/-- `clamp` and `unclamp` (R351). -/
def balClamp (clamp : Bool) : OpFn := fun x s =>
  let i := bits x.n.toNat 9 0
  let n := bits x.a.toNat 3 0 + 1
  let val := clamp && bit x.n.toNat 16
  let a := x.bal.rbase + 8 * i
  let range := if x.bal.n < i + n then some (x.balTrap .balRange i) else none
  firstTrap [x.balGuard s true true, range, x.balFoot a (8 * n)]
    (x.ok s fun t =>
      let t := (upTo n).foldl (fun (t : Tile) j =>
        t.lsWrite x.clk (a + 8 * j) (toBytes 4 (clampWord (x.pre.mem (a + 8 * j) 4) clamp val))) t
      if clamp then
        let m : BitVec 1024 := BitVec.ofNat 1024 ((2 ^ n - 1) * 2 ^ i)
        t.modBal fun b => { b with spins := if val then b.spins ||| m else b.spins &&& ~~~m }
      else t)

/-- `clamp`. -/
def opBalClamp : OpFn := balClamp true
/-- `unclamp`. -/
def opBalUnclamp : OpFn := balClamp false

/-- `sweep` (R346–R349): the sweep begins in c + 1; a count of 0 without a prime phase only stands its result. -/
def opBalSweep : OpFn := fun x s =>
  let total := bits x.n.toNat 15 0
  let prime := bit x.a.toNat 1
  firstTrap [x.balGuard s true true]
    (if total = 0 && !prime then x.res s 2 0
     else x.ok s fun t =>
      let w : Sweep := { total, left := total, marg := bit x.a.toNat 0, prime, beta := BitVec.ofNat 16 x.pre.beta.toNat
                         phase := 0, begun := x.clk + 1, updateAt := x.clk + 1, seq := t.seq, sup := x.pre.sup }
      (t.result 9 x.clk openEnd false 0).modBal fun b => { b with sweep := some w })

/-- A readout (R352): 64-byte group g lands in cycle c + 2 + g. -/
def Ctx.readout (x : Ctx) (s : State) (bytes : List Byte) : OpOut :=
  let a := bits x.a.toNat 16 6 * 64
  firstTrap [x.balGuard s true true, x.balFoot a bytes.length]
    (x.ok s fun t =>
      let n := bytes.length
      let marked := x.pre.erchk
      let c : CopyReq := { id := t.reqNo, kind := .readout, start := x.clk, src := 0, len := n, dstTile := x.key, dst := a
                           travel := 2, read := n, marked, msg := some 0
                           groups := (upTo (n / 64)).map fun g =>
                             (64 * g, clean ((bytes.drop (64 * g)).take 64), x.clk + 2 + g) }
      let t := { t with copies := t.copies ++ [c], reqNo := t.reqNo + 1 }
      if marked then t.mark a n else t)

/-- `rdspin`. -/
def opBalRdspin : OpFn := fun x s =>
  x.readout s (toBytes 128 (x.bal.spins.toNat % 2 ^ x.bal.n))
/-- `rdmarg`. -/
def opBalRdmarg : OpFn := fun x s =>
  x.readout s (x.pre.bal.marg.toList.flatMap fun m => toBytes 2 m.toNat)

/-- BAL_READOUT_LAND: readout i of a tile lands its next group (R279, R284, R352). -/
def State.balReadout (s : State) (key i : Nat) : State :=
  let t := s.tile key
  match t.copies.find? fun c => decide (c.id = i) && decide (c.kind = .readout) with
  | none => s
  | some c =>
    match c.arrived s.clk with
    | none => s
    | some (o, bs) =>
      if t.rmwHolds s.clk (c.dst + o) bs.length || t.storeHeld (c.dst + o) bs.length then s
      else
        let t := t.lsLand s.clk (c.dst + o) bs
        let t := if c.marked then t.unmark s.clk (c.dst + o) bs.length else t
        let c' := { c with groups := c.groups.drop 1, landed := c.landed + bs.length }
        s.setTile key { t with
          copies := if c'.groups.isEmpty then t.copies.filter fun d => decide (d.id ≠ i)
                    else t.copies.map fun d => if d.id = i then c' else d }

/-- `clrmarg`. -/
def opBalClrmarg : OpFn := fun x s =>
  firstTrap [x.balGuard s true false]
    (x.ok s fun t => t.modBal fun b => { b with marg := Vector.replicate 1024 0, msat := false })

/-- `seedrng`: SEED is hardware entropy, a free value. -/
def opBalSeedrng : OpFn := fun x s =>
  let dual := (x.launch s).elim false Launch.dual
  firstTrap [x.balGuard s true false, if dual then some (x.balTrap .entropyDual) else none]
    (x.ok { s with free := s.free + 1 } fun t => t.modBal fun b =>
      { b with seed := Config.entropy s.free, swn := 0, ent := true })

/-- `group`: the declaration must contain the tile and lie within the launch rectangle. -/
def opBalGroup : OpFn := fun x s =>
  let v := x.n.toNat
  let a := x.a.toNat
  let g := (bits a 8 0, bits a 24 16, bits v 8 0, bits v 24 16)
  let range := match x.launch s with
    | none => none
    | some l =>
      let tx := x.pre.tlin % l.w
      let ty := x.pre.tlin / l.w
      if decide (g.1 ≤ tx) && decide (tx < g.1 + g.2.2.1) && decide (g.2.1 ≤ ty) && decide (ty < g.2.1 + g.2.2.2) &&
          decide (g.1 + g.2.2.1 ≤ l.w) && decide (g.2.1 + g.2.2.2 ≤ l.h) then none
      else some (x.balTrap .balRange)
  if v = 0 then firstTrap [x.balGuard s true false] (x.ok s fun t => t.modBal fun b => { b with group := none })
  else firstTrap [x.balGuard s true false, range] (x.ok s fun t => t.modBal fun b => { b with group := some g })

/-- `link` (R344). -/
def opBalLink : OpFn := fun x s =>
  let n := bits x.n.toNat 8 2
  let a := bits x.a.toNat 16 1 * 2
  let range := if 64 < n then some (x.balTrap .balRange) else none
  firstTrap [x.balGuard s true true, range, x.balFoot a (2 * n)]
    (x.ok s fun t => t.modBal fun b => { b with links := vset b.links (bits x.n.toNat 1 0) { addr := a, count := n } })

/-- `state`: SWN stands in c + 1. -/
def opBalStateRead : OpFn := fun x s => firstTrap [x.balGuard s false false] (x.res s 1 x.pre.bal.swn)

/-- `spin`: a spin or a halo slot as of cycle c. -/
def opBalSpin : OpFn := fun x s =>
  let b := x.bal
  let i := bits x.n.toNat 11 0
  let val : Word := match spinRef b.n i with
    | .var j => BitVec.ofNat 32 (ofBool (b.spin j))
    | .halo j => BitVec.ofNat 32 (ofBool (b.halo.getLsbD j))
    | .nothing => 0xFFFFFFFF
  firstTrap [x.balGuard s false false] (x.res s 2 val)

/-! ### The rows -/

/-- BAL_PHASE_UPDATE. -/
def execBalPhaseUpdate (t : Nat) (s : State) : Host.Outcome State Fault Refusal := .next (s.balUpdate t)
/-- BAL_HALO_LAND. -/
def execBalHaloLand (t i : Nat) (s : State) : Host.Outcome State Fault Refusal := .next (s.balHaloLand t i)
/-- BAL_BARRIER_RELEASE. -/
def execBalBarrierRelease (t : Nat) (s : State) : Host.Outcome State Fault Refusal := .next (s.balRelease t)
/-- BAL_READOUT_LAND. -/
def execBalReadoutLand (t i : Nat) (s : State) : Host.Outcome State Fault Refusal := .next (s.balReadout t i)
/-! ### The rows -/

/-- BAL_LOAD. -/
def execBalLoad (m : TrigMove) (s : State) : Host.Outcome State Fault Refusal := .next (s.issueOne 0xB00 opBalLoad m)
/-- BAL_SEED. -/
def execBalSeed (m : TrigMove) (s : State) : Host.Outcome State Fault Refusal := .next (s.issueOne 0xB01 opBalSeed m)
/-- BAL_BETA. -/
def execBalBeta (m : TrigMove) (s : State) : Host.Outcome State Fault Refusal := .next (s.issueOne 0xB02 opBalBeta m)
/-- BAL_CLAMP. -/
def execBalClamp (m : TrigMove) (s : State) : Host.Outcome State Fault Refusal := .next (s.issueOne 0xB03 opBalClamp m)
/-- BAL_UNCLAMP. -/
def execBalUnclamp (m : TrigMove) (s : State) : Host.Outcome State Fault Refusal := .next (s.issueOne 0xB04 opBalUnclamp m)
/-- BAL_SWEEP. -/
def execBalSweep (m : TrigMove) (s : State) : Host.Outcome State Fault Refusal := .next (s.issueOne 0xB05 opBalSweep m)
/-- BAL_RDSPIN. -/
def execBalRdspin (m : TrigMove) (s : State) : Host.Outcome State Fault Refusal := .next (s.issueOne 0xB06 opBalRdspin m)
/-- BAL_RDMARG. -/
def execBalRdmarg (m : TrigMove) (s : State) : Host.Outcome State Fault Refusal := .next (s.issueOne 0xB07 opBalRdmarg m)
/-- BAL_CLRMARG. -/
def execBalClrmarg (m : TrigMove) (s : State) : Host.Outcome State Fault Refusal := .next (s.issueOne 0xB08 opBalClrmarg m)
/-- BAL_SEEDRNG. -/
def execBalSeedrng (m : TrigMove) (s : State) : Host.Outcome State Fault Refusal := .next (s.issueOne 0xB09 opBalSeedrng m)
/-- BAL_GROUP. -/
def execBalGroup (m : TrigMove) (s : State) : Host.Outcome State Fault Refusal := .next (s.issueOne 0xB0A opBalGroup m)
/-- BAL_LINK. -/
def execBalLink (m : TrigMove) (s : State) : Host.Outcome State Fault Refusal := .next (s.issueOne 0xB0B opBalLink m)
/-- BAL_STATE_READ. -/
def execBalStateRead (m : TrigMove) (s : State) : Host.Outcome State Fault Refusal := .next (s.issueOne 0xB0C opBalStateRead m)
/-- BAL_SPIN. -/
def execBalSpin (m : TrigMove) (s : State) : Host.Outcome State Fault Refusal := .next (s.issueOne 0xB0D opBalSpin m)

end Sys2Proof.Machine
end

