-- ==== Sys2Proof/Machine/Cu.lean ====
section
/-! DEFINITION. The control socket (chapter 6): jumps, calls, the loop stack, work, halting, software traps, and the
arrival in the escapement. -/

namespace Sys2Proof.Machine

/-- The answer of a redirection (R157). -/
def redirect (s : State) (target : Word) : OpOut := .go s { next := some (target, true) }

/-- The link word (Table 6-2). -/
def Ctx.link (x : Ctx) : Word := BitVec.ofNat 32 (65536 * x.pre.depth + (x.p.toNat + 1) % 4096)

/-- A call: the link word stands at `cu.r` in c + 2, and fetch is redirected (R161, R162). -/
def Ctx.call (x : Ctx) (s : State) (target : Word) : OpOut :=
  redirect (s.modTile x.key fun t => t.result 0 x.clk 2 false (wideOf x.link)) target

/-- `jmp` (R162). -/
def opCuJmp : OpFn := fun x s => redirect s x.n
/-- `jrel` (R162). -/
def opCuJrel : OpFn := fun x s => redirect s (x.p + x.n)
/-- `call` (R162). -/
def opCuCall : OpFn := fun x s => x.call s x.n
/-- `callrel` (R162). -/
def opCuCallrel : OpFn := fun x s => x.call s (x.p + x.n)

/-- What `jtab` and `calltab` find: a trap, no entry, or the target (R163, Table 6-4). -/
inductive TabOut where
  | trap (c : Cause) (addr : Nat)
  | out
  | target (q : Word)
  deriving DecidableEq, Repr

/-- The table look-up of R163. -/
def Ctx.table (x : Ctx) : TabOut :=
  let a := x.a.toNat
  let i := x.n.toNat
  if bits a 31 20 ≤ i then .out
  else
    let addr := bits a 16 1 * 2 + 2 * i
    if lsSize < addr + 2 then .trap .lsRange addr
    else if !x.pre.sup && decide (supBase < addr + 2) then .trap .privilege addr
    else if x.pre.poisoned addr 2 then .trap .fetchPoison addr
    else .target (BitVec.ofNat 32 (bits (x.pre.mem addr 2) 11 0))

/-- `jtab` (R163). -/
def opCuJtab : OpFn := fun x s =>
  match x.table with
  | .trap c addr => x.trap c (2 ^ 32 * (addr % 2 ^ 17))
  | .out => .go s {}
  | .target q => redirect s q

/-- `calltab` (R163). -/
def opCuCalltab : OpFn := fun x s =>
  match x.table with
  | .trap c addr => x.trap c (2 ^ 32 * (addr % 2 ^ 17))
  | .out => .go s {}
  | .target q => x.call s q

/-- LOOP_STACK with LSTK.DEPTH in TINFO (Table 6-4). -/
def Ctx.loopStack (x : Ctx) : OpOut := x.trap .loopStack (2 ^ 32 * x.pre.depth)

/-- `ret` (R164). -/
def opCuRet : OpFn := fun x s =>
  let d := bits x.n.toNat 18 16
  if x.pre.depth < d then x.loopStack
  else redirect (s.modTile x.key fun t => { t with depth := d }) (BitVec.ofNat 32 (bits x.n.toNat 11 0))

/-- `loop` and `loopi` with their initial index (R165). -/
def Ctx.pushLoop (x : Ctx) (s : State) (index : Word) : OpOut :=
  let start := (x.p.toNat + 1) % 4096
  let stop := bits x.a.toNat 11 0
  let range := x.trap .loopRange (2 ^ 32 * stop)
  if x.pre.depth = 6 then x.loopStack
  else if stop < start then range
  else if !x.pre.sup && decide (2944 ≤ stop) then range
  else if decide (0 < x.pre.depth) && decide ((x.pre.loop (x.pre.depth - 1)).stop.setWidth 32 = x.p) then range
  else if x.n = 0 then .go s { next := some (BitVec.ofNat 32 (stop + 1), false) }
  else x.ok s fun t =>
    { t.setLoop x.pre.depth { start := BitVec.ofNat 12 start, stop := BitVec.ofNat 12 stop, count := x.n, index
                              buf := x.pre.loopBody start stop } with
      depth := x.pre.depth + 1 }

/-- `loop` (R165). -/
def opCuLoop : OpFn := fun x s => x.pushLoop s 0
/-- `loopi` (R165). -/
def opCuLoopi : OpFn := fun x s => x.pushLoop s x.b

/-- `loopnext` (R167). -/
def opCuLoopnext : OpFn := fun x s =>
  if x.pre.depth = 0 then x.loopStack
  else
    let r := (s.tile x.key).endAction ((x.pre.loop (x.pre.depth - 1)).stop.setWidth 32) 7
    redirect (s.setTile x.key r.1) r.2

/-- `loopexit` (R167). -/
def opCuLoopexit : OpFn := fun x s =>
  if x.pre.depth = 0 then x.loopStack
  else redirect (s.modTile x.key fun t => { t with depth := x.pre.depth - 1 })
    ((x.pre.loop (x.pre.depth - 1)).stop.setWidth 32 + 1)

/-- `loopidx` (R168). -/
def opCuLoopidx : OpFn := fun x s =>
  if x.pre.depth = 0 then x.loopStack
  else x.ok s fun t => t.setLoop (x.pre.depth - 1) { t.loop (x.pre.depth - 1) with index := x.n }

/-- `loopcnt` (R168). -/
def opCuLoopcnt : OpFn := fun x s =>
  if x.pre.depth = 0 then x.loopStack
  else x.ok s fun t => t.setLoop (x.pre.depth - 1) { t.loop (x.pre.depth - 1) with count := x.n }

/-- `nextwork` (R170, R59): a spawn tile has no items. -/
def opCuNextwork : OpFn := fun x s =>
  let g := bits x.n.toNat 2 0
  match (if x.pre.isSpawn then none else (x.launch s).bind fun l => l.nextWork x.pre.widf x.pre.wid) with
  | some w => x.ok s fun t => { t.setGuard g true with wid := w }
  | none => x.ok s fun t => t.setGuard g false

/-- `sync` (R173, R65): the tile arrives, and its plan's copies start in entry order. -/
def opCuSync : OpFn := fun x s =>
  let n := bits x.n.toNat 7 0
  if x.pre.sup then x.trap .syncMode
  else match x.pre.planEntries n, x.launch s with
    | none, _ => x.trap .planRange (2 ^ 32 * n)
    | some _, none => .go s {}
    | some es, some l =>
      if s.egressFull x.key then .wait false .late id
      else
        let s := s.emit x.key 6 (wordsBytes [x.n] ++ [n])
        let s := es.foldl (fun s v => s.startEntry x.key l x.pre v) s
        .go ((s.modTile x.key fun t => { t with run := .arrived, arrivedAt := x.clk }).escNote x.pre.launch) {}

/-- `halt` (R171). -/
def opCuHalt : OpFn := fun x s =>
  if !x.pre.sup && s.egressFull x.key then .wait false .late id
  else .go (if x.pre.sup then s else s.emit x.key 6 (wordsBytes [x.n])) { stop := .halt }

/-- `trap` (R172). -/
def opCuTrap : OpFn := fun x _ => x.trap .swtrap (2 ^ 32 * x.n.toNat)
/-- `brk` (R172). -/
def opCuBrk : OpFn := fun x _ => x.trap .breakpoint (2 ^ 32 * x.n.toNat)

/-! ### The rows -/

/-- CU_JMP. -/
def execCuJmp (m : TrigMove) (s : State) : Host.Outcome State Fault Refusal := .next (s.issueOne 0x200 opCuJmp m)
/-- CU_JREL. -/
def execCuJrel (m : TrigMove) (s : State) : Host.Outcome State Fault Refusal := .next (s.issueOne 0x201 opCuJrel m)
/-- CU_JTAB. -/
def execCuJtab (m : TrigMove) (s : State) : Host.Outcome State Fault Refusal := .next (s.issueOne 0x202 opCuJtab m)
/-- CU_CALL. -/
def execCuCall (m : TrigMove) (s : State) : Host.Outcome State Fault Refusal := .next (s.issueOne 0x203 opCuCall m)
/-- CU_CALLREL. -/
def execCuCallrel (m : TrigMove) (s : State) : Host.Outcome State Fault Refusal := .next (s.issueOne 0x204 opCuCallrel m)
/-- CU_CALLTAB. -/
def execCuCalltab (m : TrigMove) (s : State) : Host.Outcome State Fault Refusal := .next (s.issueOne 0x205 opCuCalltab m)
/-- CU_RET. -/
def execCuRet (m : TrigMove) (s : State) : Host.Outcome State Fault Refusal := .next (s.issueOne 0x206 opCuRet m)
/-- CU_LOOP. -/
def execCuLoop (m : TrigMove) (s : State) : Host.Outcome State Fault Refusal := .next (s.issueOne 0x207 opCuLoop m)
/-- CU_LOOPI. -/
def execCuLoopi (m : TrigMove) (s : State) : Host.Outcome State Fault Refusal := .next (s.issueOne 0x208 opCuLoopi m)
/-- CU_LOOPNEXT. -/
def execCuLoopnext (m : TrigMove) (s : State) : Host.Outcome State Fault Refusal := .next (s.issueOne 0x209 opCuLoopnext m)
/-- CU_LOOPEXIT. -/
def execCuLoopexit (m : TrigMove) (s : State) : Host.Outcome State Fault Refusal := .next (s.issueOne 0x20A opCuLoopexit m)
/-- CU_NEXTWORK. -/
def execCuNextwork (m : TrigMove) (s : State) : Host.Outcome State Fault Refusal := .next (s.issueOne 0x20B opCuNextwork m)
/-- CU_SYNC. -/
def execCuSync (m : TrigMove) (s : State) : Host.Outcome State Fault Refusal := .next (s.issueOne 0x20C opCuSync m)
/-- CU_HALT. -/
def execCuHalt (m : TrigMove) (s : State) : Host.Outcome State Fault Refusal := .next (s.issueOne 0x20D opCuHalt m)
/-- CU_TRAP. -/
def execCuTrap (m : TrigMove) (s : State) : Host.Outcome State Fault Refusal := .next (s.issueOne 0x20E opCuTrap m)
/-- CU_BRK. -/
def execCuBrk (m : TrigMove) (s : State) : Host.Outcome State Fault Refusal := .next (s.issueOne 0x20F opCuBrk m)
/-- CU_LOOPIDX. -/
def execCuLoopidx (m : TrigMove) (s : State) : Host.Outcome State Fault Refusal := .next (s.issueOne 0x210 opCuLoopidx m)
/-- CU_LOOPCNT. -/
def execCuLoopcnt (m : TrigMove) (s : State) : Host.Outcome State Fault Refusal := .next (s.issueOne 0x211 opCuLoopcnt m)

end Sys2Proof.Machine
end

