-- ==== Sys2Proof/Machine/Ia.lean ====
section
/-! DEFINITION. The integer sockets `ia0` and `ia1` (R182–R188). A is latch `.a`, C latch `.b`, Bv the trigger value. -/

namespace Sys2Proof.Machine

/-- An `ia` operation of A and Bv: its result stands in the next cycle (R185, R148). -/
def iaOp (f : Word → Word → Word) : OpFn := fun x s => x.res s 1 (f x.a x.n)

/-- A comparison's result (R185). -/
def iaCmp (f : Word → Word → Bool) : OpFn := iaOp fun a b => if f a b then 1 else 0

/-- A saturating operation: SAT is set in the result's completion cycle (R186). -/
def iaSat (f : Int → Int → Int) : OpFn := fun x s =>
  let r := satS32 (f (sgn x.a) (sgn x.n))
  x.res s 1 r.1 (satFlag r.2)

/-- `add` (Table 7-1). -/
def opIaAdd : OpFn := iaOp fun a b => a + b
/-- `sub`. -/
def opIaSub : OpFn := iaOp fun a b => a - b
/-- `adds`. -/
def opIaAdds : OpFn := iaSat fun a b => a + b
/-- `subs`. -/
def opIaSubs : OpFn := iaSat fun a b => a - b
/-- `and`. -/
def opIaAnd : OpFn := iaOp fun a b => a &&& b
/-- `or`. -/
def opIaOr : OpFn := iaOp fun a b => a ||| b
/-- `xor`. -/
def opIaXor : OpFn := iaOp fun a b => a ^^^ b
/-- `andn`. -/
def opIaAndn : OpFn := iaOp fun a b => a &&& ~~~b
/-- `shl`: 0 from 32 on. -/
def opIaShl : OpFn := iaOp shl32
/-- `shr`: 0 from 32 on. -/
def opIaShr : OpFn := iaOp fun a b => a >>> b.toNat
/-- `sar`: copies of the sign from 32 on. -/
def opIaSar : OpFn := iaOp fun a b => a.sshiftRight b.toNat
/-- `rol` by Bv[4:0]. -/
def opIaRol : OpFn := iaOp fun a b => a.rotateLeft (b.toNat % 32)
/-- `min`. -/
def opIaMin : OpFn := iaOp fun a b => if a.slt b then a else b
/-- `max`. -/
def opIaMax : OpFn := iaOp fun a b => if a.slt b then b else a
/-- `minu`. -/
def opIaMinu : OpFn := iaOp fun a b => if a.ult b then a else b
/-- `maxu`. -/
def opIaMaxu : OpFn := iaOp fun a b => if a.ult b then b else a
/-- `eq`. -/
def opIaEq : OpFn := iaCmp fun a b => decide (a = b)
/-- `ne`. -/
def opIaNe : OpFn := iaCmp fun a b => decide (a ≠ b)
/-- `lt`. -/
def opIaLt : OpFn := iaCmp fun a b => a.slt b
/-- `ltu`. -/
def opIaLtu : OpFn := iaCmp fun a b => a.ult b
/-- `le`. -/
def opIaLe : OpFn := iaCmp fun a b => a.sle b
/-- `leu`. -/
def opIaLeu : OpFn := iaCmp fun a b => a.ule b
/-- `sel`: A when Bv ≠ 0, else C. -/
def opIaSel : OpFn := fun x s => x.res s 1 (if x.n ≠ 0 then x.a else x.b)

/-- The number of leading zero bits of a word. -/
def clz32 (w : Word) : Nat := 32 - bitLen w.toNat
/-- The number of one bits of a word. -/
def popc32 (w : Word) : Nat := ((upTo 32).filter fun i => w.getLsbD i).length

/-- `clz`. -/
def opIaClz : OpFn := iaOp fun _ b => BitVec.ofNat 32 (clz32 b)
/-- `popc`. -/
def opIaPopc : OpFn := iaOp fun _ b => BitVec.ofNat 32 (popc32 b)

/-- The field width of a `bfx` control word (R187). -/
def bfxWidth (ctl : Word) : Nat := min (min (bits ctl.toNat 10 5) 32) (32 - bits ctl.toNat 4 0)
/-- The mask of a field of `w` bits (R187). -/
def bfxMask (w : Nat) : Word := BitVec.ofNat 32 (2 ^ w - 1)

/-- The result of `bfx` (R187). -/
def bfxResult (a c ctl : Word) : Word :=
  let lo := bits ctl.toNat 4 0
  let w := bfxWidth ctl
  if ctl.getLsbD 12 then (c &&& ~~~(bfxMask w <<< lo)) ||| ((a &&& bfxMask w) <<< lo)
  else
    let f := (a >>> lo) &&& bfxMask w
    if ctl.getLsbD 11 && decide (0 < w) then BitVec.ofInt 32 (sextNat f.toNat w) else f

/-- `bfx` (R187). -/
def opIaBfx : OpFn := fun x s => x.res s 1 (bfxResult x.a x.b x.n)

/-! ### The rows -/

/-- IA_ADD. -/
def execIaAdd (u : Bool) (m : TrigMove) (s : State) : Host.Outcome State Fault Refusal :=
  .next (s.issueOne (iaCode u 0x00) opIaAdd m)
/-- IA_SUB. -/
def execIaSub (u : Bool) (m : TrigMove) (s : State) : Host.Outcome State Fault Refusal :=
  .next (s.issueOne (iaCode u 0x01) opIaSub m)
/-- IA_ADDS. -/
def execIaAdds (u : Bool) (m : TrigMove) (s : State) : Host.Outcome State Fault Refusal :=
  .next (s.issueOne (iaCode u 0x02) opIaAdds m)
/-- IA_SUBS. -/
def execIaSubs (u : Bool) (m : TrigMove) (s : State) : Host.Outcome State Fault Refusal :=
  .next (s.issueOne (iaCode u 0x03) opIaSubs m)
/-- IA_AND. -/
def execIaAnd (u : Bool) (m : TrigMove) (s : State) : Host.Outcome State Fault Refusal :=
  .next (s.issueOne (iaCode u 0x04) opIaAnd m)
/-- IA_OR. -/
def execIaOr (u : Bool) (m : TrigMove) (s : State) : Host.Outcome State Fault Refusal :=
  .next (s.issueOne (iaCode u 0x05) opIaOr m)
/-- IA_XOR. -/
def execIaXor (u : Bool) (m : TrigMove) (s : State) : Host.Outcome State Fault Refusal :=
  .next (s.issueOne (iaCode u 0x06) opIaXor m)
/-- IA_ANDN. -/
def execIaAndn (u : Bool) (m : TrigMove) (s : State) : Host.Outcome State Fault Refusal :=
  .next (s.issueOne (iaCode u 0x07) opIaAndn m)
/-- IA_SHL. -/
def execIaShl (u : Bool) (m : TrigMove) (s : State) : Host.Outcome State Fault Refusal :=
  .next (s.issueOne (iaCode u 0x08) opIaShl m)
/-- IA_SHR. -/
def execIaShr (u : Bool) (m : TrigMove) (s : State) : Host.Outcome State Fault Refusal :=
  .next (s.issueOne (iaCode u 0x09) opIaShr m)
/-- IA_SAR. -/
def execIaSar (u : Bool) (m : TrigMove) (s : State) : Host.Outcome State Fault Refusal :=
  .next (s.issueOne (iaCode u 0x0A) opIaSar m)
/-- IA_ROL. -/
def execIaRol (u : Bool) (m : TrigMove) (s : State) : Host.Outcome State Fault Refusal :=
  .next (s.issueOne (iaCode u 0x0B) opIaRol m)
/-- IA_MIN. -/
def execIaMin (u : Bool) (m : TrigMove) (s : State) : Host.Outcome State Fault Refusal :=
  .next (s.issueOne (iaCode u 0x0C) opIaMin m)
/-- IA_MAX. -/
def execIaMax (u : Bool) (m : TrigMove) (s : State) : Host.Outcome State Fault Refusal :=
  .next (s.issueOne (iaCode u 0x0D) opIaMax m)
/-- IA_MINU. -/
def execIaMinu (u : Bool) (m : TrigMove) (s : State) : Host.Outcome State Fault Refusal :=
  .next (s.issueOne (iaCode u 0x0E) opIaMinu m)
/-- IA_MAXU. -/
def execIaMaxu (u : Bool) (m : TrigMove) (s : State) : Host.Outcome State Fault Refusal :=
  .next (s.issueOne (iaCode u 0x0F) opIaMaxu m)
/-- IA_EQ. -/
def execIaEq (u : Bool) (m : TrigMove) (s : State) : Host.Outcome State Fault Refusal :=
  .next (s.issueOne (iaCode u 0x10) opIaEq m)
/-- IA_NE. -/
def execIaNe (u : Bool) (m : TrigMove) (s : State) : Host.Outcome State Fault Refusal :=
  .next (s.issueOne (iaCode u 0x11) opIaNe m)
/-- IA_LT. -/
def execIaLt (u : Bool) (m : TrigMove) (s : State) : Host.Outcome State Fault Refusal :=
  .next (s.issueOne (iaCode u 0x12) opIaLt m)
/-- IA_LTU. -/
def execIaLtu (u : Bool) (m : TrigMove) (s : State) : Host.Outcome State Fault Refusal :=
  .next (s.issueOne (iaCode u 0x13) opIaLtu m)
/-- IA_LE. -/
def execIaLe (u : Bool) (m : TrigMove) (s : State) : Host.Outcome State Fault Refusal :=
  .next (s.issueOne (iaCode u 0x14) opIaLe m)
/-- IA_LEU. -/
def execIaLeu (u : Bool) (m : TrigMove) (s : State) : Host.Outcome State Fault Refusal :=
  .next (s.issueOne (iaCode u 0x15) opIaLeu m)
/-- IA_SEL. -/
def execIaSel (u : Bool) (m : TrigMove) (s : State) : Host.Outcome State Fault Refusal :=
  .next (s.issueOne (iaCode u 0x16) opIaSel m)
/-- IA_CLZ. -/
def execIaClz (u : Bool) (m : TrigMove) (s : State) : Host.Outcome State Fault Refusal :=
  .next (s.issueOne (iaCode u 0x17) opIaClz m)
/-- IA_POPC. -/
def execIaPopc (u : Bool) (m : TrigMove) (s : State) : Host.Outcome State Fault Refusal :=
  .next (s.issueOne (iaCode u 0x18) opIaPopc m)
/-- IA_BFX. -/
def execIaBfx (u : Bool) (m : TrigMove) (s : State) : Host.Outcome State Fault Refusal :=
  .next (s.issueOne (iaCode u 0x19) opIaBfx m)

end Sys2Proof.Machine
end

