-- ==== Sys2Proof/Machine/Ky.lean ====
section
/-! DEFINITION. The key socket of crown tiles (R369, R370): SHAKE256, fuses, and the engine operations with their ends. A
and B are `ky.a` and `ky.b`, v the trigger value. -/

namespace Sys2Proof.Machine

/-! ### The hash (R369) -/

/-- The hash's lanes as a list. -/
def Sha.list (h : Sha) : List DWord := h.lanes.toList
/-- Lanes taken back. -/
def shaLanes (l : List DWord) : Vector DWord 25 := Vector.ofFn fun i => nth 0 l i.val

/-- `shinit`. -/
def shaInit (lm : Nat) : Sha := { declared := lm, ready := lm = 0 }
/-- READY as it shows in a cycle: twelve cycles after the `absorb` that completes the length (R155, R369). -/
def Sha.isReady (h : Sha) (clk : Nat) : Bool := h.ready && decide (h.readyAt ≤ clk)

/-- `absorb` in cycle `clk`: bytes up to the declared length. -/
def Sha.absorb (h : Sha) (clk : Nat) (w : Wide) : Sha :=
  let n := min 64 (h.declared - h.count)
  let st := ((toBytes64 w).take n).foldl kAbsorb (h.list, h.fill)
  { h with lanes := shaLanes st.1, fill := st.2, count := h.count + n, ready := decide (h.count + n = h.declared)
           readyAt := if h.ready then h.readyAt else clk + 12 }

/-- The output has been padded and permuted: the first block stands (R369). -/
def Sha.finish (h : Sha) : Sha :=
  if h.padded then h
  else
    let l := kPad (h.list, h.fill)
    { h with padded := true, lanes := shaLanes l, out := kBlock l }

/-- The next 64 output bytes. -/
def Sha.squeeze (h : Sha) : Wide × Sha :=
  let h := h.finish
  if 64 ≤ h.out.length then (ofBytes64 (h.out.take 64), { h with out := h.out.drop 64 })
  else
    let l := keccakF h.list
    let b := h.out ++ kBlock l
    (ofBytes64 (b.take 64), { h with lanes := shaLanes l, out := b.drop 64 })

/-- `shinit`. -/
def opKyShinit : OpFn := fun x s => x.ok s fun t => { t with sha := shaInit x.n.toNat }
/-- `absorb`. -/
def opKyAbsorb : OpFn := fun x s => x.ok s fun t => { t with sha := t.sha.absorb x.clk x.v }
/-- `squeeze`: KY_STATE while bytes are still to be absorbed. -/
def opKySqueeze : OpFn := fun x s =>
  if !x.pre.sha.isReady x.clk then x.trap .kyState
  else
    let r := x.pre.sha.squeeze
    x.ok s fun t => { t.result 11 x.clk 12 true r.1 with sha := r.2 }
/-- `fuserd`. -/
def opKyFuserd : OpFn := fun x s =>
  let i := bits x.n.toNat 1 0
  if i = 3 then x.trap .kyState else x.resW s 2 (s.fuseWord i)

/-! ### Engine operations (R370) -/

/-- A local range breaks R27 for the tile's mode. -/
def Ctx.kyFoot (x : Ctx) (a n : Nat) : Option OpOut :=
  if n = 0 then none
  else if lsSize < a + n then some (x.trap .lsRange)
  else if !x.pre.sup && decide (supBase < a + n) then some (x.trap .privilege)
  else none

/-- A job of the key engine starts. -/
def Ctx.kyJob (x : Ctx) (s : State) (j : KyJob) : OpOut :=
  x.ok s fun t => { t with kyJobs := t.kyJobs ++ [(t.reqNo, j)], reqNo := t.reqNo + 1 }

/-- CC = v[3:0]. -/
def Ctx.kyCc (x : Ctx) : Nat := bits x.n.toNat 3 0

/-- `fverify`: the descriptor's words name the key, the signature and the message. Like the other engine operations it waits
for a fence before every later access (R360). -/
def opKyFverify : OpFn := fun x s =>
  let a := x.a.toNat
  let b := x.b.toNat
  let w (i : Nat) : Nat := x.pre.mem (a + 4 * i) 4
  if x.pre.fenceAll then .wait true .late id
  else firstTrap [x.kyFoot a 32, x.kyFoot (w 0) 1793, x.kyFoot (w 1) (w 2), x.kyFoot b 4]
    (x.kyJob s (.fverify (w 0) (w 1) (w 2) (x.pre.farDest (w 4) (farAddr (w 4) (w 3))) (w 5) (x.issuer s (w 4)) b
      (bit x.n.toNat 4) x.kyCc))

/-- The status of an `mextend` by a complex (R514). -/
def Fw.extendStatus (f : Fw) (c block : Nat) : Byte :=
  if block = 0 || block = 2 || decide (24 ≤ block) then stNoTarget
  else if block < 8 then (if c = f.act then stOK else stNoTarget)
  else if decide (blockBase c ≤ block) && decide (block < blockBase c + 8) then stOK
  else stNoTarget

/-- `mextend`: the block is extended at one point, in the order of the triggers (R515); a provisional complex waits to
extend blocks 0–7, and its own first block, which may not change now (R523). -/
def opKyMextend : OpFn := fun x s =>
  let block := bits x.a.toNat 4 0
  let b := x.b.toNat
  if (s.provisional x.key && (decide (block < 8) || decide (block = blockBase (crownComplex x.key)))) || x.pre.fenceAll then .wait true .late id
  else
    firstTrap [x.kyFoot b 64]
      (let st := s.fw.extendStatus (crownComplex x.key) block
       let blocks := if st = stOK then
           vset s.fw.blocks block (extendBlock (vget 0 s.fw.blocks block) (x.pre.lsRead b 64)) else s.fw.blocks
       x.kyJob { s with fw := { s.fw with blocks } } (.mextend st x.kyCc))

/-- `keyld`; a provisional complex waits (R523). -/
def opKyKeyld : OpFn := fun x s =>
  let b := x.b.toNat
  if s.provisional x.key || x.pre.fenceAll then .wait true .late id
  else firstTrap [x.kyFoot b 32] (x.kyJob s (.keyld (x.a.setWidth 16) b x.kyCc))

/-- `keyclr`: of the active complex only (R509, R523). -/
def opKyKeyclr : OpFn := fun x s =>
  if s.provisional x.key then .wait true .late id
  else if crownComplex x.key ≠ s.fw.act then .go s {}
  else .go { s with br := s.br.clearKey (x.n.setWidth 16) } {}

/-! ### Their ends -/

/-- A job of a tile. -/
def Tile.kyFind (t : Tile) (i : Nat) : Option KyJob := t.kyJobs.lookup i
/-- A job ended. -/
def State.kyEnd (s : State) (key i : Nat) : State :=
  s.modTile key fun t => { t with kyJobs := t.kyJobs.filter fun j => decide (j.1 ≠ i) }

/-- A read of an engine for the job of a number, of `n` bytes, granule by granule: the first status that is not OK ends it; none while a granule
cannot perform. -/
def State.engineRead (s : State) (key job : Nat) (issuer : BitVec 16) (d : FarDest) (a n : Nat) :
    Nat → Option (Byte × List Byte) × State
  | 0 => (some (stOK, []), s)
  | fuel + 1 =>
    if n = 0 then (some (stOK, []), s)
    else
      let k := min n (64 - a % 64)
      let r := s.performAt key { addr := a % 2 ^ 52, n := k, mode := d.mode.toNat, op := .read, issuer, target := d.owner
                                 die := tileDie key, crown := true, hint := if d.hen then some d.home.toNat else none
                                 agent := .ky, src := key, req := job }
      match r with
      | (.done 0 bs, s') =>
        if bs.length ≠ k then (none, s')
        else match s'.engineRead key job issuer d (a + k) (n - k) fuel with
          | (some (st, cs), s'') => (some (st, bs.map Prod.fst ++ cs), s'')
          | x => x
      | (.done st _, s') => (some (st, []), s')
      | (_, s') => (none, s')

/-- FVERIFY_DONE (R370, R276, R284): a key whose digest differs ends it first; a message that cannot be read faults the counter. -/
def State.fverifyDone (s : State) (key i : Nat) : State :=
  match (s.tile key).kyFind i with
  | some (.fverify k sig siglen msg msglen issuer result checkFuse cc) =>
    let t := s.tile key
    let pub := t.lsRead k 1793
    let put (s : State) (v : Nat) : State :=
      ((s.land key result (clean (toBytes 4 v))).countAt key cc 4).kyEnd key i
    if !s.landFree key result 4 then s
    else if checkFuse && decide (ofBytes64 (shake512 pub) ≠ s.fuseWord 0) then put s 3
    else match s.engineRead key i issuer msg msg.addr.toNat msglen (msglen / 64 + 2) with
      | (some (0, m), s') => put s' (min 2 (falconVerify pub (t.lsRead sig siglen) m).toNat)
      | (some (st, _), s') => (s'.faultCounter key cc st).kyEnd key i
      | (none, s') => s.keepHolds s'
  | _ => s

/-- MEXTEND_DONE (R370, R514). -/
def State.mextendDone (s : State) (key i : Nat) : State :=
  match (s.tile key).kyFind i with
  | some (.mextend st cc) => (if st = stOK then s.countAt key cc 64 else s.faultCounter key cc st).kyEnd key i
  | _ => s

/-- KEYLD_DONE (R370, R461): the active complex's key reaches the bridge (R509). -/
def State.keyldDone (s : State) (key i : Nat) : State :=
  match (s.tile key).kyFind i with
  | some (.keyld o a cc) =>
    if crownComplex key ≠ s.fw.act then (s.countAt key cc 32).kyEnd key i
    else
      let r := s.br.loadKey s.clk o (BitVec.ofNat 256 ((s.tile key).mem a 32))
      if r.1 then (({ s with br := r.2 }).countAt key cc 32).kyEnd key i
      else (s.faultCounter key cc stNoTarget).kyEnd key i
  | _ => s

/-- FVERIFY_DONE. -/
def execFverifyDone (t i : Nat) (s : State) : Host.Outcome State Fault Refusal := .next (s.fverifyDone t i)
/-- MEXTEND_DONE. -/
def execMextendDone (t i : Nat) (s : State) : Host.Outcome State Fault Refusal := .next (s.mextendDone t i)
/-- KEYLD_DONE. -/
def execKeyldDone (t i : Nat) (s : State) : Host.Outcome State Fault Refusal := .next (s.keyldDone t i)

/-! ### The rows -/

/-- KY_SHINIT. -/
def execKyShinit (m : TrigMove) (s : State) : Host.Outcome State Fault Refusal := .next (s.issueOne 0xD00 opKyShinit m)
/-- KY_ABSORB. -/
def execKyAbsorb (m : TrigMove) (s : State) : Host.Outcome State Fault Refusal := .next (s.issueOne 0xD01 opKyAbsorb m)
/-- KY_SQUEEZE. -/
def execKySqueeze (m : TrigMove) (s : State) : Host.Outcome State Fault Refusal := .next (s.issueOne 0xD02 opKySqueeze m)
/-- KY_FVERIFY. -/
def execKyFverify (m : TrigMove) (s : State) : Host.Outcome State Fault Refusal := .next (s.issueOne 0xD03 opKyFverify m)
/-- KY_MEXTEND. -/
def execKyMextend (m : TrigMove) (s : State) : Host.Outcome State Fault Refusal := .next (s.issueOne 0xD04 opKyMextend m)
/-- KY_KEYLD. -/
def execKyKeyld (m : TrigMove) (s : State) : Host.Outcome State Fault Refusal := .next (s.issueOne 0xD05 opKyKeyld m)
/-- KY_KEYCLR. -/
def execKyKeyclr (m : TrigMove) (s : State) : Host.Outcome State Fault Refusal := .next (s.issueOne 0xD06 opKyKeyclr m)
/-- KY_FUSERD. -/
def execKyFuserd (m : TrigMove) (s : State) : Host.Outcome State Fault Refusal := .next (s.issueOne 0xD07 opKyFuserd m)

end Sys2Proof.Machine
end

