-- ==== Sys2Proof/Machine/Layout.lean ====
section
/-! DEFINITION. Tourbillon commands (chapter 13): the dimension-mapping word, the shape block, the index map, the queues
and the elements. -/

namespace Sys2Proof.Machine

/-! ### The dimension-mapping word and the shape block (R322, R325) -/

/-- A command's shape: the fields of the DMW and of the shape block. -/
structure Shape where
  z : Nat
  r : Nat
  pad : Nat
  rev : Nat
  dord : List Nat
  sg : List Nat
  dg : List Nat
  e : List Nat
  de : List Nat
  sp : List Int
  dp : List Int
  padv : Nat
  frec : Nat
  fren : Bool
  deriving DecidableEq, Repr

/-- Eight fields of three bits from bit `lo` up. -/
def triples (v lo : Nat) : List Nat := (upTo 8).map fun j => bits v (lo + 2 + 3 * j) (lo + 3 * j)

/-- Word i of a shape block. -/
def shapeWord (sh : List Byte) (i : Nat) : Nat := ofBytes ((sh.drop (4 * i)).take 4)

/-- The shape of a DMW and a shape block (Tables 13-2, 13-3). -/
def shapeOf (dmw : Nat) (sh : List Byte) : Shape :=
  let ext (i : Nat) : List Nat := (upTo 8).map fun k => bits (shapeWord sh (i + k)) 19 0
  let pitch (i : Nat) : List Int := (upTo 8).map fun k => sextNat (shapeWord sh (i + k)) 32
  { z := 2 ^ bits dmw 4 3, r := bits dmw 2 0 + 1, pad := bits dmw 87 85, rev := bits dmw 84 77
    dord := triples dmw 5, sg := triples dmw 29, dg := triples dmw 53
    e := ext 0, de := ext 8, sp := pitch 16, dp := pitch 24
    padv := shapeWord sh 32, frec := bits (shapeWord sh 33) 16 4 * 16, fren := bit (shapeWord sh 33) 0 }

/-- The run rule of R323 for a list of groups of rank r. -/
def groupsOk (g : List Nat) (r : Nat) : Bool :=
  decide (nth 0 g 0 = 0) && (upTo 8).all fun k =>
    k = 0 || (if k < r then decide (nth 0 g k = nth 0 g (k - 1)) || decide (nth 0 g k = nth 0 g (k - 1) + 1)
              else decide (nth 0 g k = 0))

/-- The first r entries are a permutation, the others zero (R323). -/
def orderOk (d : List Nat) (r : Nat) : Bool :=
  (upTo r).all (fun k => (d.take r).contains k) && (d.drop r).all fun a => decide (a = 0)

/-- The reason for which a DMW is illegal: the lowest of Table 13-4 but for reason 8. -/
def dmwReason (dmw : Nat) : Option Nat :=
  let r := bits dmw 2 0 + 1
  if bits dmw 127 88 ≠ 0 then some 1
  else if bits dmw 4 3 = 3 then some 2
  else if !orderOk (triples dmw 5) r then some 3
  else if !groupsOk (triples dmw 29) r then some 4
  else if !groupsOk (triples dmw 53) r then some 5
  else if bits dmw 84 77 / 2 ^ r ≠ 0 then some 6
  else if 5 ≤ bits dmw 87 85 then some 7
  else none

/-- E[k]. -/
def Shape.ext (h : Shape) (k : Nat) : Nat := nth 0 h.e k
/-- DEe[k] (R325). -/
def Shape.dext (h : Shape) (k : Nat) : Nat := if nth 0 h.de k ≠ 0 then nth 0 h.de k else h.ext k

/-- Reason 8 of Table 13-4. -/
def Shape.padMissing (h : Shape) : Bool :=
  decide (h.pad = 0) && (upTo h.r).any fun k => decide (nth 0 h.de k ≠ 0) && decide (nth 0 h.de k ≠ h.ext k)

/-- The extent over which an element is delivered along axis k: PAD 4 skips the padding (R328). -/
def Shape.span (h : Shape) (k : Nat) : Nat := if h.pad = 4 then h.ext k else h.dext k

/-- N of R328. -/
def Shape.count (h : Shape) : Nat := (upTo h.r).foldl (fun n k => n * h.span k) 1
/-- W of R328. -/
def Shape.bytes (h : Shape) : Nat := h.z * h.count

/-- A reserved bit of the shape block is set (Table 13-3). -/
def shapeReserved (sh : List Byte) : Bool :=
  ((upTo 16).any fun i => decide (bits (shapeWord sh i) 31 20 ≠ 0)) ||
    decide (bits (shapeWord sh 33) 31 17 ≠ 0) || decide (bits (shapeWord sh 33) 3 1 ≠ 0) ||
    (upTo 6).any fun i => decide (shapeWord sh (34 + i) ≠ 0)

/-- What R326 forbids, the block's own footprint apart. -/
def Shape.bad (h : Shape) (sh : List Byte) (limit : Nat) : Bool :=
  let ns := nth 0 h.sg (h.r - 1) + 1
  let nd := nth 0 h.dg (h.r - 1) + 1
  shapeReserved sh ||
  ((upTo 8).any fun k => decide (h.r ≤ k) && (decide (h.ext k ≠ 0) || decide (nth 0 h.de k ≠ 0))) ||
  ((upTo 8).any fun k => (decide (ns ≤ k) && decide (nth 0 h.sp k ≠ 0)) || (decide (nd ≤ k) && decide (nth 0 h.dp k ≠ 0))) ||
  ((upTo 8).any fun k => decide (nth 0 h.de k ≠ 0) && decide (nth 0 h.de k < h.ext k)) ||
  (decide (h.pad = 3) && (upTo h.r).any fun k => decide (h.ext k = 0) && decide (h.dext k ≠ 0)) ||
  (h.fren && decide (limit < h.frec + 16)) || decide (2 ^ 30 ≤ h.bytes)

/-! ### The index map (R327) -/

/-- The coefficients of an element offset: what one step along each axis adds, as pairs (axis, elements). -/
def coefs (r : Nat) (grp : List Nat) (ext : Nat → Nat) (pitch : List Int) (perm : Nat → Nat) : List (Nat × Int) :=
  ((upTo r).foldl (fun (acc : List (Nat × Int) × Nat × Nat) j =>
    let run := if nth 0 grp j ≠ acc.2.1 then 1 else acc.2.2
    (acc.1 ++ [(perm j, (run : Int) * nth 0 pitch (nth 0 grp j))], nth 0 grp j, run * ext (perm j)))
    ([], nth 0 grp 0, 1)).1

/-- The coefficients of the source offset. -/
def Shape.srcCoefs (h : Shape) : List (Nat × Int) := coefs h.r h.sg h.ext h.sp fun k => k
/-- The coefficients of the destination offset. -/
def Shape.dstCoefs (h : Shape) : List (Nat × Int) := coefs h.r h.dg h.dext h.dp fun j => nth 0 h.dord j

/-- The offset of an index vector under coefficients. -/
def offsetOf (c : List (Nat × Int)) (idx : List Nat) : Int := c.foldl (fun o a => o + (nth 0 idx a.1 : Nat) * a.2) 0

/-- The lowest and highest element offset over indices below the extents. -/
def offsetSpan (c : List (Nat × Int)) (ext : Nat → Nat) : Int × Int :=
  c.foldl (fun o a =>
    let m : Int := ((ext a.1 - 1 : Nat) : Int) * a.2
    (o.1 + min 0 m, o.2 + max 0 m)) (0, 0)

/-- The index vector of element number e, axis 0 fastest. -/
def Shape.index (h : Shape) (e : Nat) : List Nat :=
  ((upTo h.r).foldl (fun (acc : List Nat × Nat) k => (acc.1 ++ [acc.2 % h.span k], acc.2 / h.span k)) ([], e)).1

/-- The destination offset in bytes of element number e. -/
def Shape.dofs (h : Shape) (e : Nat) : Int := h.z * offsetOf h.dstCoefs (h.index e)

/-- What element e takes: the source offset in bytes, or a constant (R327). -/
inductive ElemVal where
  | source (ofs : Int)
  | const (v : Nat)
  deriving DecidableEq, Repr

/-- The value of element e. -/
def Shape.value (h : Shape) (e : Nat) : ElemVal :=
  let d := h.index e
  let src := (upTo h.r).map fun k =>
    let c := min (nth 0 d k) (h.ext k - 1)
    if bit h.rev k then h.ext k - 1 - c else c
  if (upTo h.r).all fun k => decide (nth 0 d k < h.ext k) then .source (h.z * offsetOf h.srcCoefs src)
  else match h.pad with
    | 2 => .const h.padv
    | 3 => .source (h.z * offsetOf h.srcCoefs src)
    | _ => .const 0

/-- The bytes of a footprint from a base: lowest address and length; none when it is empty (R329). -/
def footprintOf (base : Nat) (z : Nat) (span : Int × Int) : Int × Nat :=
  ((base : Int) + z * span.1, ((z : Int) * (span.2 - span.1) + z).toNat)

/-- The source footprint; none when no source element is read. -/
def Shape.srcFoot (h : Shape) (base : Nat) : Option (Int × Nat) :=
  if decide (h.count = 0) || (upTo h.r).any fun k => decide (h.ext k = 0) then none
  else some (footprintOf base h.z (offsetSpan h.srcCoefs h.ext))

/-- The destination footprint; none when nothing is written. -/
def Shape.dstFoot (h : Shape) (base : Nat) : Option (Int × Nat) :=
  if h.count = 0 then none else some (footprintOf base h.z (offsetSpan h.dstCoefs h.span))

/-- The footprint does not lie wholly in one of the two memories (reason 10). -/
def footBad (f : Option (Int × Nat)) : Bool :=
  match f with
  | none => false
  | some (a, n) => decide (a < 0) || !collRange a.toNat n

/-! ### The trigger (R321, R328–R330) -/

/-- The key of the engine of a die. -/
def engKey (die eng : Nat) : Nat := 4 * die + eng
/-- Engine by key. -/
def State.engine (s : State) (k : Nat) : Engine := tabGet {} s.engines k
/-- Engine replaced. -/
def State.setEngine (s : State) (k : Nat) (e : Engine) : State := { s with engines := tabSet s.engines k e }

/-- The tile's oldest command of a DUAL launch for an engine, once its message has been compared (R337, R491). -/
def State.comparedCmd (s : State) (key k : Nat) : Option LayoutCmd :=
  ((s.engine k).dualQ.find? fun c => decide (c.tile = key)).filter fun c => (s.tile key).compared c.msg

/-- The tiles that wait for an engine, ascending: with a bundle, or with a compared command of a DUAL launch. -/
def State.waiters (s : State) (k : Nat) : List Nat :=
  (s.tiles.filter fun t => (decide (t.2.layoutWait = some k) && t.2.mayIssue) || (s.comparedCmd t.1 k).isSome).map Prod.fst

/-- The engine has an entry and has admitted nothing in this cycle (R330). -/
def Engine.ready (e : Engine) (clk : Nat) : Bool := decide (e.cmds.length < 256) && decide (e.admitAt ≤ clk)

/-- The tile's command can enter now: the engine has admitted the tile, or nobody waits and there is room. -/
def State.mayAdmit (s : State) (key k : Nat) : Bool :=
  let e := s.engine k
  decide (e.grant = some (key, s.clk)) || (e.ready s.clk && (s.waiters k).all fun j => decide (j = key))

/-- A waiting tile can be served in this cycle: its command stands ready, or its bundle can be tried. -/
def State.waiterReady (s : State) (k key : Nat) : Bool :=
  (s.comparedCmd key k).isSome || decide ((s.tile key).nextAt ≤ s.clk)

/-- LAYOUT_ADMIT: the engine admits the next waiting tile, round-robin in ascending id after the last (R330). A command of a
DUAL launch enters the queue; another tile tries its bundle. -/
def State.layoutAdmit (s : State) (die eng : Nat) : State :=
  let k := engKey die eng
  let e := s.engine k
  if !e.ready s.clk then s
  else
    let l := (s.waiters k).filter (s.waiterReady k)
    let after := match e.lastAdmitted with
      | none => l
      | some j => (l.filter fun i => decide (j < i)) ++ l.filter fun i => decide (i ≤ j)
    match after with
    | [] => s
    | t :: _ =>
      match s.comparedCmd t k with
      | some c => s.setEngine k { e with
          cmds := e.cmds ++ [{ c with admitted := s.clk }], dualQ := e.dualQ.erase c
          lastAdmitted := some t, admitAt := s.clk + 1, grant := none }
      | none => (s.setEngine k { e with lastAdmitted := some t, admitAt := s.clk + 1, grant := some (t, s.clk) }).modTile t fun u =>
        { u with layoutWait := none }

/-- `layout` (R313, R321). A bundle that finds the queue full waits, and is checked in the cycle in which it issues (R330); the
command of a DUAL launch enters the queue once it has been compared (R337). -/
def opChLayout : OpFn := fun x s =>
  let t := x.pre
  let crown := isCrown x.key
  let limit := if t.sup then lsSize else supBase
  let dmw := x.chLane 0 + 2 ^ 32 * x.chLane 1 + 2 ^ 64 * x.chLane 2 + 2 ^ 96 * x.chLane 3
  let block := bits x.b.toNat 16 5 * 32
  let fits := decide (block + 160 ≤ limit)
  let sh := t.lsRead block 160
  let h := shapeOf dmw sh
  let dkind := bits (x.chLane 6) 1 0
  let global := decide (dkind = 0)
  let dfaw := x.chLane 5
  let dst := farAddr dfaw (x.chLane 4)
  let l := x.launch s
  let blk := x.chLane 7
  let p := bits (x.chLane 8) 17 0
  let x0 := bits (x.chLane 9) 8 0
  let y0 := bits (x.chLane 9) 24 16
  let wd := bits (x.chLane 10) 9 0
  let base := bits (x.chLane 11) 16 0
  let src := h.srcFoot x.g
  let out := h.dstFoot (if global then dst else 0)
  let dealOut : Bool := match out with
    | none => false
    | some (a, n) => decide (a < 0) || decide (supBase < dealEnd ((a.toNat + n + 3) / 4 * 4) blk p base)
  let perm (faw : Nat) (f : Option (Int × Nat)) (need : Nat) (b : Nat) : Option OpOut := match f with
    | none => none
    | some (a, n) => if t.farAllowed faw a.toNat n need then none else some (x.chTrap .farPerm b)
  let eng := engKey (tileDie x.key) (bits x.n.toNat 1 0)
  let dual := s.isDual x.key
  if t.fenceWait x.fcClass then .wait true .late id
  else if !crown && !s.isTwin x.key && !s.mayAdmit x.key eng then
    .wait true .queue fun s => s.modTile x.key fun t => { t with layoutWait := some eng }
  else
    firstTrap [x.scopeBad,
        x.reasons [(12, fawBad x.chD || (global && fawBad dfaw))],
        x.reasons [(5, !x.fcCcen)],
        x.reasons [(11, crown)],
        (dmwReason dmw).map (fun r => x.chTrap .layoutDmw r),
        (if h.padMissing then some (x.chTrap .layoutDmw 8) else none),
        x.reasons [(9, !fits || h.bad sh limit)],
        x.reasons [(6, decide (dkind = 1) &&
          (dealFieldsBad false (l.elim 0 Launch.w) (l.elim 0 Launch.h) blk p x0 y0 wd base || dealOut))],
        x.reasons [(10, decide (2 ≤ dkind) || footBad src || (global && footBad out))],
        x.addrTrap .addrMode (modeBad x.chD) [x.g],
        (if global then x.addrTrap .addrMode (modeBad dfaw) [dst] else none),
        x.addrTrap .farAlign (fun a => decide (a % h.z ≠ 0)) (x.g :: if global then [dst] else []),
        perm x.chD src 0 x.g,
        (if global then perm dfaw out 1 dst else none)]
      (if s.egressFull x.key then .wait false .late id
       else if s.isTwin x.key then .go (s.emit x.key 4 (x.cmdWords ++ byteNats sh)) {}
       else
         let ds := t.farDest x.chD x.g
         let now := s.tile x.key
         let rng (f : Option (Int × Nat)) : List (Nat × Nat) := f.toList.map fun q => (q.1.toNat, q.2)
         let places := rng src ++ if global then rng out else []
         let deal := match out with | some (a, n) => (a.toNat + n + 3) / 4 * 4 | none => 0
         let touches (a n : Nat) : Bool :=
           if global || decide (deal = 0) then touching places a n else dealTouches x.key l places deal blk p x0 y0 wd base a n
         let later : Later := { cls := x.fcClass, relmask := if x.fcOrd then t.relmask else 0, touches }
         let c : LayoutCmd := { tile := x.key, launch := t.launch, admitted := x.clk, dmw := BitVec.ofNat 128 dmw, shape := sh
                                src := ds, dst := if global then some (t.farDest dfaw dst) else none
                                blk, p, x0, y0, wd, base, cc := x.fcCc, cls := x.fcClass, issuer := x.issuer s x.chD
                                dissuer := x.issuer s dfaw, elems := [], after := now.before x.key later, msg := now.egressNo }
         let s := s.emit x.key 4 (x.cmdWords ++ byteNats sh)
         let e := s.engine eng
         let cmds := if h.count = 0 then [] else [c]
         let e := if dual then { e with dualQ := e.dualQ ++ cmds, grant := none }
           else { e with cmds := e.cmds ++ cmds, lastAdmitted := some x.key, admitAt := x.clk + 1, grant := none }
         .go ((s.setEngine eng e).modTile x.key fun t => { t with layoutWait := none }) {})

/-! ### Elements (R331–R336) -/

/-- The command's shape. -/
def LayoutCmd.shp (c : LayoutCmd) : Shape := shapeOf c.dmw.toNat c.shape

/-- How far element e has got. -/
def LayoutCmd.elem (c : LayoutCmd) (e : Nat) : ElemState := tabGet .waiting c.elems e

/-- The element is still to be written. -/
def ElemState.unwritten : ElemState → Bool
  | .waiting | .read _ => true
  | _ => false

/-- The failed element of the lowest destination offset, F of R335: its offset, status and side. -/
def LayoutCmd.fault (c : LayoutCmd) : Option (Int × Byte × Bool) :=
  c.elems.foldl (fun (m : Option (Int × Byte × Bool)) e => match e.2 with
    | .failed st d =>
      let o := c.shp.dofs e.1
      match m with
      | some (f, _, _) => if o < f then some (o, st, d) else m
      | none => some (o, st, d)
    | _ => m) none

/-- Element e fails: elements at or above F that have not been written are cancelled (R335). -/
def LayoutCmd.fail (c : LayoutCmd) (e : Nat) (st : Byte) (destSide : Bool) : LayoutCmd :=
  let h := c.shp
  let f := h.dofs e
  let l := tabSet c.elems e (.failed st destSide)
  let cancel (l : List (Nat × ElemState)) (j : Nat) : List (Nat × ElemState) :=
    if (tabGet .waiting l j).unwritten && decide (f ≤ h.dofs j) then tabSet l j .cancelled else l
  { c with elems := (upTo h.count).foldl cancel l }

/-- Every element has been written, has failed or has been cancelled. -/
def LayoutCmd.isOver (c : LayoutCmd) : Bool :=
  (upTo c.shp.count).all fun e => !(c.elem e).unwritten

/-- The written elements whose offset keeps a condition. -/
def LayoutCmd.written (c : LayoutCmd) (p : Int → Bool) : Nat :=
  (c.elems.filter fun e => decide (e.2 = .written) && p (c.shp.dofs e.1)).length

/-- The 16 bytes of the fault record (Table 13-5). -/
def faultRecord (eng : Nat) (f : Int) (d : Nat) (destSide : Bool) (st : Byte) : List Byte :=
  toBytes 4 (st.toNat + 256 * ofBool destSide) ++ toBytes 4 d ++ toBytes 4 (f % 2 ^ 32).toNat ++ toBytes 4 eng

/-- Bytes put back into a counter that is not frozen, so that it counts those below F only (R335). -/
def Tile.uncount (t : Tile) (i k : Nat) : Tile :=
  let c : Counter := vget {} t.cc i
  if c.status ≠ 0 then t else { t with cc := vset t.cc i { c with count := c.count + BitVec.ofNat 30 k } }

/-- The end of a command: the fault record, then the FAULT (R335, R336). -/
def State.layoutEnd (s : State) (eng : Nat) (c : LayoutCmd) : State :=
  match c.fault with
  | none => s
  | some (f, st, d) =>
    let h := c.shp
    let below := h.z * c.written fun o => decide (o < f)
    let above := h.z * c.written fun o => decide (f ≤ o)
    let s := if h.fren then s.land c.tile h.frec (clean (faultRecord (eng % 4) f below d st)) else s
    (s.modBoth c.tile fun t => t.uncount c.cc above).faultCounter c.tile c.cc st

/-- The fault record of a command that would end can land now (R276, R284). -/
def State.endFree (s : State) (c : LayoutCmd) : Bool :=
  !c.isOver || c.fault.isNone || !c.shp.fren || s.landFree c.tile c.shp.frec 16

/-- Command i of an engine replaced, or ended. -/
def State.putCmd (s : State) (k i : Nat) (c : LayoutCmd) : State :=
  let e := s.engine k
  if c.isOver then
    (s.setEngine k { e with cmds := (e.cmds.take i) ++ e.cmds.drop (i + 1) }).layoutEnd k c
  else s.setEngine k { e with cmds := modNth (fun _ => c) e.cmds i }

/-- An access of an engine for an element. -/
def LayoutCmd.access (c : LayoutCmd) (d : FarDest) (ofs : Int) (z e : Nat) (op : AccOp) (ext : ExtReply) : Access :=
  { addr := (((d.addr.toNat : Int) + ofs) % 2 ^ 52).toNat, n := z, mode := d.mode.toNat, op
    issuer := match op with | .read => c.issuer | _ => c.dissuer
    target := d.owner, launch := c.launch, die := tileDie c.tile
    hint := if d.hen then some d.home.toNat else none, agent := .layout, cls := c.cls, src := c.tile, req := c.admitted * 2 ^ 30 + e, ext }

/-- The bytes that element e takes, read from the source or constant: none while the read is held. -/
def State.elemRead (s : State) (c : LayoutCmd) (e : Nat) (ext : ExtReply) : Option (Except Byte (List (Byte × Bool))) × State :=
  match c.shp.value e with
  | .const v => (some (.ok (clean (toBytes c.shp.z v))), s)
  | .source o =>
    match s.access (c.access c.src o c.shp.z e .read ext) with
    | (.done 0 bs, s') => (some (.ok bs), s')
    | (.done st _, s') => (some (.error st), s')
    | (_, s') => (none, s')

/-- The bytes of an element: those read before, or those that its source now gives. -/
def State.elemTake (s : State) (c : LayoutCmd) (e : Nat) (ext : ExtReply) : Option (Except Byte (List (Byte × Bool))) × State :=
  match c.elem e with
  | .read bs => (some (.ok bs), s)
  | _ => s.elemRead c e ext

/-- Element e written at its destination: none while the write is held. -/
def State.elemWrite (s : State) (c : LayoutCmd) (e : Nat) (bs : List (Byte × Bool)) (ext : ExtReply) : Option Byte × State :=
  let h := c.shp
  match c.dst with
  | some d =>
    match s.access (c.access d (h.dofs e) h.z e (.write bs) ext) with
    | (.done st _, s') => (some st, s')
    | (_, s') => (none, s')
  | none =>
    let l := c.launch.bind s.launch?
    let q := dealPlace c.tile l c.blk c.p c.x0 c.y0 c.wd c.base (h.dofs e).toNat
    let t := s.tile q.1
    if s.pathDown (tileDie c.tile) (tileDie q.1) then (some stLinkFail, s)
    else if t.rmwHolds s.clk q.2 h.z || t.storeHeld q.2 h.z then (none, s) else (some stOK, s.land q.1 q.2 bs)

/-- Element e of command i has failed; where the fault record that follows cannot land, the element is tried again. -/
def State.elemFail (s0 s : State) (k i : Nat) (c : LayoutCmd) : State := if s.endFree c then s.putCmd k i c else s0

/-- LAYOUT_ELEMENT_WRITE: element e of command i of an engine is read and written, and counted (R331, R334, R335). Its read
may come by itself first, from the admission on: elements are read and written in no stated order (R331, R333). -/
def State.layoutElement (s : State) (die eng i e : Nat) (ext : ExtReply) : State :=
  let k := engKey die eng
  match (s.engine k).cmds[i]? with
  | none => s
  | some c =>
    let t := s.tile c.tile
    if decide (c.shp.count ≤ e) || !(c.elem e).unwritten || (!ext.readOnly && decide (s.clk < c.admitted + 32)) ||
        t.awaits s.clk c.after then s
    else
      match s.elemTake c e ext with
      | (none, s') => s'
      | (some (.error st), s') => s.elemFail s' k i (c.fail e st false)
      | (some (.ok bs), s') =>
        if ext.readOnly then s'.putCmd k i { c with elems := tabSet c.elems e (.read bs) }
        else match s'.elemWrite c e bs ext with
        | (none, s'') => s''
        | (some st, s'') =>
          if st ≠ stOK then s.elemFail s'' k i (c.fail e st true)
          else
            let c' := { c with elems := tabSet c.elems e .written }
            if s''.endFree c' then (s''.countAt c.tile c.cc c.shp.z).putCmd k i c' else s

/-! ### The rows -/

/-- CH_LAYOUT. -/
def execChLayout (m : TrigMove) (s : State) : Host.Outcome State Fault Refusal := .next (s.issueOne 0xA17 opChLayout m)
/-- LAYOUT_ADMIT. -/
def execLayoutAdmit (die eng : Nat) (s : State) : Host.Outcome State Fault Refusal := .next (s.layoutAdmit die eng)
/-- LAYOUT_ELEMENT_WRITE. -/
def execLayoutElementWrite (die eng i e : Nat) (ext : ExtReply) (s : State) : Host.Outcome State Fault Refusal :=
  .next (s.layoutElement die eng i e ext)

end Sys2Proof.Machine
end

