-- ==== Sys2Proof/Machine/Md.lean ====
section
/-! DEFINITION. The multiply and divide socket (R189–R191). A is latch `.a`, C latch `.b`, Bv the trigger value. -/

namespace Sys2Proof.Machine

/-- An `md` operation of A and Bv with its fixed latency (R191). -/
def mdOp (lat : Nat) (f : Word → Word → Word) : OpFn := fun x s => x.res s lat (f x.a x.n)

/-- The signed quotient, truncated toward zero (Table 7-3). -/
def divS (a b : Word) : Word := if b = 0 then 0xFFFFFFFF else BitVec.ofInt 32 (Int.tdiv a.toInt b.toInt)
/-- The signed remainder (Table 7-3). -/
def remS (a b : Word) : Word := if b = 0 then a else BitVec.ofInt 32 (Int.tmod a.toInt b.toInt)
/-- The unsigned quotient (Table 7-3). -/
def divU (a b : Word) : Word := if b = 0 then 0xFFFFFFFF else BitVec.ofNat 32 (a.toNat / b.toNat)
/-- The unsigned remainder (Table 7-3). -/
def remU (a b : Word) : Word := if b = 0 then a else BitVec.ofNat 32 (a.toNat % b.toNat)

/-- `mul` (Table 7-2). -/
def opMdMul : OpFn := mdOp 3 fun a b => a * b
/-- `mulh`. -/
def opMdMulh : OpFn := mdOp 3 fun a b => BitVec.ofInt 32 (a.toInt * b.toInt / 2 ^ 32)
/-- `mulhu`. -/
def opMdMulhu : OpFn := mdOp 3 fun a b => BitVec.ofNat 32 (a.toNat * b.toNat / 2 ^ 32)
/-- `mac`. -/
def opMdMac : OpFn := fun x s => x.res s 3 (x.a * x.n + x.b)
/-- `div`. -/
def opMdDiv : OpFn := mdOp 18 divS
/-- `divu`. -/
def opMdDivu : OpFn := mdOp 18 divU
/-- `rem`. -/
def opMdRem : OpFn := mdOp 18 remS
/-- `remu`. -/
def opMdRemu : OpFn := mdOp 18 remU

/-! ### The rows -/

/-- MD_MUL. -/
def execMdMul (m : TrigMove) (s : State) : Host.Outcome State Fault Refusal := .next (s.issueOne 0x500 opMdMul m)
/-- MD_MULH. -/
def execMdMulh (m : TrigMove) (s : State) : Host.Outcome State Fault Refusal := .next (s.issueOne 0x501 opMdMulh m)
/-- MD_MULHU. -/
def execMdMulhu (m : TrigMove) (s : State) : Host.Outcome State Fault Refusal := .next (s.issueOne 0x502 opMdMulhu m)
/-- MD_MAC. -/
def execMdMac (m : TrigMove) (s : State) : Host.Outcome State Fault Refusal := .next (s.issueOne 0x503 opMdMac m)
/-- MD_DIV. -/
def execMdDiv (m : TrigMove) (s : State) : Host.Outcome State Fault Refusal := .next (s.issueOne 0x504 opMdDiv m)
/-- MD_DIVU. -/
def execMdDivu (m : TrigMove) (s : State) : Host.Outcome State Fault Refusal := .next (s.issueOne 0x505 opMdDivu m)
/-- MD_REM. -/
def execMdRem (m : TrigMove) (s : State) : Host.Outcome State Fault Refusal := .next (s.issueOne 0x506 opMdRem m)
/-- MD_REMU. -/
def execMdRemu (m : TrigMove) (s : State) : Host.Outcome State Fault Refusal := .next (s.issueOne 0x507 opMdRemu m)

end Sys2Proof.Machine
end

