-- ==== Sys2Proof/Machine/Mx.lean ====
section
/-! DEFINITION. The matrix socket's triggers (chapter 10). A is `mx.a`, Bl is `mx.b`, v the trigger value. What happens in
later cycles is in Macro.lean. -/

namespace Sys2Proof.Machine

/-! ### Checks (R248) -/

/-- A trap with v in TINFO (R248). -/
def Ctx.mxTrap (x : Ctx) (c : Cause) : OpOut := x.trap c (2 ^ 32 * x.n.toNat)

/-- MX_OWNER and MX_BUSY, then the operation (R248, R33, R257). -/
def mxGuard (f : OpFn) : OpFn := fun x s =>
  if x.pre.mxown.setWidth 16 ≠ x.pre.cid then x.mxTrap .mxOwner
  else if x.pre.mac.isSome then x.mxTrap .mxBusy
  else f x s

/-- The operation on tile register D = v[1:0] with its shape, after MX_UNCONFIGURED (R32). -/
def mxReg (f : Nat → Word → OpFn) : OpFn := mxGuard fun x s =>
  let d := bits x.n.toNat 1 0
  let sh := vget 0 x.pre.mshape d
  if !mshCfg sh then x.mxTrap .mxUnconfigured else f d sh x s

/-- The footprint breaks R27 for the tile's mode (R248). -/
def Ctx.mxFoot (x : Ctx) (a n : Nat) : Option OpOut :=
  if lsSize < a + n then some (x.mxTrap .lsRange)
  else if !x.pre.sup && decide (supBase < a + n) then some (x.mxTrap .privilege)
  else none

/-- The first failing check, or the effect. -/
def mxChecks (l : List (Option OpOut)) (k : OpOut) : OpOut := (l.findSome? id).getD k

/-- Tile register d. -/
def Tile.mreg (t : Tile) (d : Nat) : Vector Word 256 := vget (Vector.replicate 256 0) t.m d

/-- Tile register d replaced, with DIRTY (R32). -/
def Tile.setMreg (t : Tile) (d : Nat) (r : Vector Word 256) : Tile :=
  { t with m := vset t.m d r, mshape := vset t.mshape d (mshDirty (vget 0 t.mshape d) true) }

/-! ### The accumulator (R249–R251) -/

/-- Address and size of B of an `op4` form (Table 10-2). -/
def op4B (code : Nat) (v : Word) : Nat × Nat :=
  if code = 0x902 || code = 0x904 then (bits v.toNat 16 5 * 32, 32) else (bits v.toNat 16 4 * 16, 16)

/-- An `op4` form: B is read now, and the stage follows at the end of c + 3 (R250). -/
def mxOp4 (code : Nat) : OpFn := mxGuard fun x s =>
  let b := op4B code x.n
  mxChecks [x.mxFoot b.1 b.2]
    (x.ok s fun t =>
      let t := if x.pre.poisoned b.1 b.2 then t.setCir 0 else t
      { t.result 7 x.clk 4 true 0 with
        op4s := t.op4s ++ [{ stageAt := x.clk + 3, seq := t.seq, code, v := x.n, a := x.latW 0
                             b := x.pre.lsRead b.1 b.2, md := (x.latN 1).setWidth 16 }] })

/-- `op4` (R250). -/
def opMxOp4 : OpFn := mxOp4 0x900
/-- `op4z`. -/
def opMxOp4z : OpFn := mxOp4 0x901
/-- `op4d`. -/
def opMxOp4d : OpFn := mxOp4 0x902
/-- `op4i`. -/
def opMxOp4i : OpFn := mxOp4 0x903
/-- `op4s`. -/
def opMxOp4s : OpFn := mxOp4 0x904

/-- `acrd` (R251). -/
def opMxAcrd : OpFn := mxGuard fun x s => x.resW s 1 (BitVec.ofNat 512 (ofLanes x.pre.ac.toList))

/-- `acclr`: zero at the end of the cycle; a stage of this cycle still reads what stood before (R251). -/
def opMxAcclr : OpFn := mxGuard fun x s =>
  x.ok s fun t => { t with acOld := some (x.clk, x.pre.ac), ac := Vector.replicate 16 0 }

/-! ### Slices, `mzero`, `macc`, `mfmt` (R252–R256) -/

/-- IDX = v[11:8]. -/
def Ctx.mIdx (x : Ctx) : Nat := bits x.n.toNat 11 8

/-- MX_RANGE of a slice (R253). -/
def Ctx.mRange (x : Ctx) (sh : Word) (row : Bool) : Option OpOut :=
  if (if row then mshRows sh else mshCols sh) < x.mIdx then some (x.mxTrap .mxRange) else none

/-- Lanes of A written into a row or column (R253). -/
def mxSliceIn (row : Bool) : OpFn := mxReg fun d sh x s =>
  mxChecks [x.mRange sh row]
    (x.ok s fun t => t.setMreg d ((upTo 16).foldl (fun r i =>
      let rc := if row then (x.mIdx, i) else (i, x.mIdx)
      if elemExists sh rc.1 rc.2 then elemSet r rc.1 rc.2 (lane (x.latW 0) i) else r) (t.mreg d)))

/-- A row or column read, elements that do not exist as zero (R252, R253). -/
def mxSliceOut (row : Bool) : OpFn := mxReg fun d sh x s =>
  mxChecks [x.mRange sh row]
    (x.resW s 2 (mkWide fun i =>
      let rc := if row then (x.mIdx, i) else (i, x.mIdx)
      if elemExists sh rc.1 rc.2 then elemGet (x.pre.mreg d) rc.1 rc.2 else 0))

/-- `mrow` (R253). -/
def opMxMrow : OpFn := mxSliceIn true
/-- `mcol`. -/
def opMxMcol : OpFn := mxSliceIn false
/-- `mrowr`. -/
def opMxMrowr : OpFn := mxSliceOut true
/-- `mcolr`. -/
def opMxMcolr : OpFn := mxSliceOut false

/-- Each existing element of a register through `f` of its column and value. -/
def mapElems (sh : Word) (r : Vector Word 256) (f : Nat → Word → Word) : Vector Word 256 :=
  Vector.ofFn fun k : Fin 256 =>
    let e := vget 0 r k.val
    if elemExists sh (k.val / 16) (k.val % 16) then f (k.val % 16) e else e

/-- `mzero` (R254). -/
def opMxMzero : OpFn := mxReg fun d sh x s => x.ok s fun t => t.setMreg d (mapElems sh (t.mreg d) fun _ _ => 0)

/-- One element of `macc` (R254). -/
def maccElem (set int : Bool) (e a : Word) : Word := if set then a else if int then e + a else maccAdd e a

/-- `macc`: written at the end of the next cycle (R254). -/
def opMxMacc : OpFn := mxReg fun d sh x s =>
  let br := bits x.n.toNat 3 2
  let bc := bits x.n.toNat 5 4
  let elems := (upTo 16).map fun k =>
    maccElem (x.n.getLsbD 6) (mshInt sh) (elemGet (x.pre.mreg d) (4 * br + k / 4) (4 * bc + k % 4)) (vget 0 x.pre.ac k)
  x.ok s fun t => { t with maccs := t.maccs ++ [{ cyc := x.clk, dst := d, br, bc, elems }] }

/-! ### The format table (R263, R264) -/

/-- The format entry that a trigger reads: its address (R263). -/
def Tile.fmtAddr (t : Tile) : Nat :=
  let lv := bits t.fmtt.toNat 22 20
  let idx := if lv < t.depth then bits (t.loop lv).index.toNat 3 0 else 0
  bits t.fmtt.toNat 16 4 * 16 + 16 * idx

/-- `n` bytes at `a` lie within R27 for the tile's mode. -/
def Tile.within (t : Tile) (a n : Nat) : Bool := decide (a + n ≤ if t.sup then lsSize else supBase)

/-- SCALE of an entry (Table 10-5). -/
def fmtScale (e : Nat) : Nat := bits e 48 32
/-- SEN of an entry. -/
def fmtSen (e : Nat) : Bool := bit e 63

/-- What R264 forbids of an entry that `mma16d` or `mfmt` reads. -/
def Tile.fmtBad (t : Tile) (e : Nat) : Bool :=
  decide (bits e 127 64 ≠ 0) || decide (bits e 62 49 ≠ 0) || decide (bits e 31 12 ≠ 0) ||
    (fmtSen e && !t.within (fmtScale e) 64)

/-- The accumulate format of a legal triple of `mma16`: INT32 or FP32; none for an illegal one (R264). -/
def fmtTriple (e : Nat) : Option Bool :=
  let a := bits e 3 0
  let b := bits e 7 4
  let c := bits e 11 8
  if (a = 7 || a = 8) && b = 7 && c = 5 then some false
  else if a ≤ 1 && b ≤ 1 && c = 3 then some true
  else none

/-- The entry as read: none where its bytes break R27. -/
def Tile.fmtRead (t : Tile) : Option Nat := if t.within t.fmtAddr 16 then some (t.mem t.fmtAddr 16) else none

/-- MX_FORMAT, with CIR.POISON when the entry was read with a poison tag (R264, R36). -/
def Ctx.fmtTrap (x : Ctx) : OpOut :=
  .trap { cause := .mxFormat, info := trapInfo x.slot x.code (2 ^ 32 * x.n.toNat)
          poison := x.pre.within x.pre.fmtAddr 16 && x.pre.poisoned x.pre.fmtAddr 16 }

/-- MX_FORMAT of an entry by the checks of R264; `strict` adds those of `mma16`. -/
def Ctx.fmtCheck (x : Ctx) (strict : Bool) : Option OpOut :=
  match x.pre.fmtRead with
  | none => some x.fmtTrap
  | some e =>
    if x.pre.fmtBad e || x.pre.poisoned x.pre.fmtAddr 16 ||
        (strict && (match fmtTriple e with | none => true | some int => int && fmtSen e)) then some x.fmtTrap
    else none

/-- The sixteen scales of an entry. -/
def Tile.fmtScales (t : Tile) (e : Nat) : List Word := (upTo 16).map fun j => BitVec.ofNat 32 (t.mem (fmtScale e + 4 * j) 4)

/-- `mfmt` of KIND 0: an integer element to FP32 (R256). -/
def mfmtFloat (e : Word) : Word := BitVec.ofNat 32 (roundM (.fin (decide (e.toInt < 0)) e.toInt.natAbs 0))

/-- `mfmt` of KIND 1: an FP32 element to an integer, clamped (R256). -/
def mfmtInt (e : Word) : Word := BitVec.ofInt 32 (cvtFi 0 (-(2 ^ 31)) (2 ^ 31 - 1) (fp32.valFtz e.toNat)).1

/-- MSHAPE with INT as given. -/
def mshSetInt (sh : Word) (b : Bool) : Word := if b then sh ||| 0x100 else sh &&& ~~~0x100

/-- `mfmt` (R256). Of the scales only those of existing columns are consumed (R265). -/
def opMxMfmt : OpFn := mxReg fun d sh x s =>
  let kind := bits x.n.toNat 3 2
  let put (int : Bool) (f : Nat → Word → Word) : OpOut := x.ok s fun t =>
    let t := t.setMreg d (mapElems sh (t.mreg d) f)
    { t with mshape := vset t.mshape d (mshSetInt (vget 0 t.mshape d) int) }
  match kind with
  | 0 => if mshInt sh then put false fun _ e => mfmtFloat e else x.mxTrap .mxShape
  | 1 => if mshInt sh then x.mxTrap .mxShape else put true fun _ e => mfmtInt e
  | 2 =>
    if mshInt sh then x.mxTrap .mxShape
    else match x.fmtCheck false, x.pre.fmtRead with
      | none, some e =>
        if !fmtSen e then x.fmtTrap
        else
          let sc := x.pre.fmtScales e
          let s' := if x.pre.poisoned (fmtScale e) (4 * (mshCols sh + 1)) then s.modTile x.key fun t => t.setCir 0 else s
          x.ok s' fun t =>
            let t := t.setMreg d (mapElems sh (t.mreg d) fun j a => scaleElem a (nth 0 sc j))
            { t with mshape := vset t.mshape d (mshSetInt (vget 0 t.mshape d) false) }
      | _, _ => x.fmtTrap
  | _ => x.mxTrap .mxFormat

/-! ### Macro operations (R257, R258, R261) -/

/-- A macro operation begins: step 0 in the next cycle (R257). What `mst` writes after a fence is held (R384). -/
def Ctx.begin (x : Ctx) (s : State) (m : Macro) : OpOut := x.ok s fun t =>
  let t := if m.reads then t
    else t.holdFenced 0 (((upTo 16).flatMap fun k => m.moves k).map fun p => (p.2.2, 4))
  { t with mac := some { m with id := t.reqNo }, reqNo := t.reqNo + 1 }

/-- An `mma16` form into D = v[27:26] (R258, R260): `int` is the accumulate format that its row requires. -/
def Ctx.mma (x : Ctx) (s : State) (code : Nat) (int : Option Bool) (fmt : Option OpOut) (entry : Nat) : OpOut :=
  let d := bits x.n.toNat 27 26
  let sh := vget 0 x.pre.mshape d
  let f := mmaForm code (BitVec.ofNat 128 entry) x.n
  let shape := if mshRows sh = 15 && mshCols sh = 15 && (match int with | some b => mshInt sh == b | none => true) then none
    else some (x.mxTrap .mxShape)
  let unconf := if mshCfg sh then none else some (x.mxTrap .mxUnconfigured)
  mxChecks [unconf, shape, fmt, x.mxFoot (mmaA x.n) f.aBytes, x.mxFoot (mmaB x.n) f.bBytes]
    (let m : Macro := { code, v := x.n, n := f.n, done := 0, base := x.clk + 1, entry := BitVec.ofNat 128 entry }
     if m.scaled then
       let s := if x.pre.poisoned (fmtScale entry) 64 then s.modTile x.key fun t => t.setCir 0 else s
       x.begin s { m with scales := x.pre.fmtScales entry }
     else x.begin s m)

/-- `mma16`: its format entry decides the row of Table 10-3 (R258). -/
def opMxMma16 : OpFn := mxGuard fun x s =>
  let e := x.pre.fmtRead
  x.mma s 0x907 (e.bind fmtTriple) (x.fmtCheck true) (e.getD 0)
/-- `mma16d`: the entry supplies only the scale (R258). -/
def opMxMma16d : OpFn := mxGuard fun x s => x.mma s 0x908 (some false) (x.fmtCheck false) (x.pre.fmtRead.getD 0)
/-- `mma16i` (R258). -/
def opMxMma16i : OpFn := mxGuard fun x s => x.mma s 0x909 (some true) none 0
/-- `mma16s` (R258). -/
def opMxMma16s : OpFn := mxGuard fun x s => x.mma s 0x90A (some false) none 0

/-- `mld` and `mst` (R261): the footprint runs to the last byte of the last existing row or column. -/
def mxMove (code : Nat) : OpFn := mxReg fun _ sh x s =>
  let v := x.n.toNat
  let a := bits v 16 6 * 64
  let pitch := 64 * (bits v 24 17 + 1)
  let rows := mshRows sh + 1
  let cols := mshCols sh + 1
  let n := if bit v 2 then pitch * (cols - 1) + 4 * rows else pitch * (rows - 1) + 4 * cols
  mxChecks [x.mxFoot a n] (x.begin s { code, v := x.n, n := 16, done := 0, base := x.clk + 1, rows, cols })

/-- `mld` (R261). -/
def opMxMld : OpFn := mxMove 0x911
/-- `mst` (R261). -/
def opMxMst : OpFn := mxMove 0x912

/-! ### The rows -/

/-- MX_OP4. -/
def execMxOp4 (m : TrigMove) (s : State) : Host.Outcome State Fault Refusal := .next (s.issueOne 0x900 opMxOp4 m)
/-- MX_OP4Z. -/
def execMxOp4z (m : TrigMove) (s : State) : Host.Outcome State Fault Refusal := .next (s.issueOne 0x901 opMxOp4z m)
/-- MX_OP4D. -/
def execMxOp4d (m : TrigMove) (s : State) : Host.Outcome State Fault Refusal := .next (s.issueOne 0x902 opMxOp4d m)
/-- MX_OP4I. -/
def execMxOp4i (m : TrigMove) (s : State) : Host.Outcome State Fault Refusal := .next (s.issueOne 0x903 opMxOp4i m)
/-- MX_OP4S. -/
def execMxOp4s (m : TrigMove) (s : State) : Host.Outcome State Fault Refusal := .next (s.issueOne 0x904 opMxOp4s m)
/-- MX_ACRD. -/
def execMxAcrd (m : TrigMove) (s : State) : Host.Outcome State Fault Refusal := .next (s.issueOne 0x905 opMxAcrd m)
/-- MX_ACCLR. -/
def execMxAcclr (m : TrigMove) (s : State) : Host.Outcome State Fault Refusal := .next (s.issueOne 0x906 opMxAcclr m)
/-- MX_MMA16. -/
def execMxMma16 (m : TrigMove) (s : State) : Host.Outcome State Fault Refusal := .next (s.issueOne 0x907 opMxMma16 m)
/-- MX_MMA16D. -/
def execMxMma16d (m : TrigMove) (s : State) : Host.Outcome State Fault Refusal := .next (s.issueOne 0x908 opMxMma16d m)
/-- MX_MMA16I. -/
def execMxMma16i (m : TrigMove) (s : State) : Host.Outcome State Fault Refusal := .next (s.issueOne 0x909 opMxMma16i m)
/-- MX_MMA16S. -/
def execMxMma16s (m : TrigMove) (s : State) : Host.Outcome State Fault Refusal := .next (s.issueOne 0x90A opMxMma16s m)
/-- MX_MROW. -/
def execMxMrow (m : TrigMove) (s : State) : Host.Outcome State Fault Refusal := .next (s.issueOne 0x90B opMxMrow m)
/-- MX_MCOL. -/
def execMxMcol (m : TrigMove) (s : State) : Host.Outcome State Fault Refusal := .next (s.issueOne 0x90C opMxMcol m)
/-- MX_MROWR. -/
def execMxMrowr (m : TrigMove) (s : State) : Host.Outcome State Fault Refusal := .next (s.issueOne 0x90D opMxMrowr m)
/-- MX_MCOLR. -/
def execMxMcolr (m : TrigMove) (s : State) : Host.Outcome State Fault Refusal := .next (s.issueOne 0x90E opMxMcolr m)
/-- MX_MACC. -/
def execMxMacc (m : TrigMove) (s : State) : Host.Outcome State Fault Refusal := .next (s.issueOne 0x90F opMxMacc m)
/-- MX_MZERO. -/
def execMxMzero (m : TrigMove) (s : State) : Host.Outcome State Fault Refusal := .next (s.issueOne 0x910 opMxMzero m)
/-- MX_MLD. -/
def execMxMld (m : TrigMove) (s : State) : Host.Outcome State Fault Refusal := .next (s.issueOne 0x911 opMxMld m)
/-- MX_MST. -/
def execMxMst (m : TrigMove) (s : State) : Host.Outcome State Fault Refusal := .next (s.issueOne 0x912 opMxMst m)
/-- MX_MFMT. -/
def execMxMfmt (m : TrigMove) (s : State) : Host.Outcome State Fault Refusal := .next (s.issueOne 0x913 opMxMfmt m)

end Sys2Proof.Machine
end

