-- ==== Sys2Proof/Machine/Qs.lean ====
section
/-! DEFINITION. The queue socket of crown tiles (R371, R372). A and B are `qs.a` and `qs.b`, v the trigger value. The
triggers of a provisional complex wait (R523); those of the standby do not reach the rings and queues (R509). -/

namespace Sys2Proof.Machine

/-- The trigger's complex is the active one. -/
def Ctx.qsActive (x : Ctx) (s : State) : Bool := decide (crownComplex x.key = s.fw.act)

/-- The wait of a provisional complex, then the operation (R523). -/
def qsGuard (f : OpFn) : OpFn := fun x s => if s.provisional x.key then .wait true .late id else f x s

/-- Ring A[11:0]. -/
def Ctx.qsRing (x : Ctx) : Nat := bits x.a.toNat 11 0

/-- A far access under a ring's owner, which stands for issuer and target (R420). -/
def Ctx.ringReq (x : Ctx) (s : State) (r : Ring) (kind : FarKind) (addrs : List Nat) (data : Word) : FarReq :=
  let dests : List FarDest := addrs.map fun a => { addr := BitVec.ofNat 52 a, owner := r.owner }
  { id := (s.tile x.key).reqNo, kind, dests, data := wideOf data, issuedAt := x.clk, issuer := r.owner, cls := 15, scope := 7
    sup := x.pre.sup }

/-- `ringrd`: a word of the packet at the expectation, with the slot's sequence number (R371). -/
def opQsRingrd : OpFn := qsGuard fun x s =>
  let q := x.qsRing
  let r := s.ring q
  let p := bits x.a.toNat 22 16
  let slot := r.slotAddr (r.seqOf (p / 32))
  let e : Word := BitVec.ofNat 32 (r.seqOf (p / 32))
  let q0 := x.ringReq s r (.ringrd q p) [slot + 4 * (p % 32), slot] e
  let q1 : FarReq := { q0 with
    reg := bits x.n.toNat 5 0, gs := bits x.n.toNat 14 12, look := bits x.n.toNat 11 8, acquire := true
    after := (s.tile x.key).before x.key { cls := 15 } }
  if x.pre.fenceWait 15 || x.pre.farLimit q1 || (s.tile x.key).farFull q1 then .wait true .late id
  else if x.qsActive s then .go (s.sendFar x.key q1) {}
  else
    let f := s.takeFree
    let bs := toBytes 4 (Config.freeWord f.1).toNat ++ [if Config.freeBit f.1 then (1 : Byte) else 0]
    .go (f.2.sendFar x.key { q1 with phase := .performed stOK bs false, replyAt := x.clk + 1 }) {}

/-- `ringadv`: the expectation passes v[7:0] slots (R371, R421). -/
def opQsRingadv : OpFn := qsGuard fun x s =>
  let n := bits x.n.toNat 7 0
  let r := s.ring x.qsRing
  if n = 0 || !x.qsActive s then .go s {}
  else .go (s.setRing x.qsRing
    { r with exp := r.exp + BitVec.ofNat 32 n, presented := false, ready := false, blocked := none }) {}

/-- `headpub`: E to the ring's head word, a release at HOST scope (R371, R423). -/
def opQsHeadpub : OpFn := qsGuard fun x s =>
  let q := x.qsRing
  let r := s.ring q
  let q0 := x.ringReq s r .headpub [bits r.head.toNat 51 2 * 4] r.exp
  let q1 : FarReq := { q0 with cc := some (bits x.n.toNat 3 0), release := true, after := (s.tile x.key).before x.key { cls := 15 } }
  if x.pre.fenceWait 15 then .wait true .late id
  else if x.qsActive s then .go (s.sendFar x.key q1) {}
  else .go (s.sendFar x.key { q1 with phase := .performed stOK [] false, replyAt := x.clk + 1 }) {}

/-- `enq` (R372): visible from c + 2 (R155). -/
def opQsEnq : OpFn := qsGuard fun x s =>
  let k := bits x.a.toNat 7 0
  if !x.qsActive s then .go s {}
  else if 64 ≤ s.queueLength k then x.trap .qsFull
  else .go { s with enqueued := s.enqueued ++ [(x.clk + 2, k, x.b.setWidth 64 <<< 32 ||| x.n.setWidth 64)] } {}

/-- The value that a queue read of the standby stands: none of the rules gives one. -/
def Ctx.qsFree (x : Ctx) (s : State) : OpOut := x.res s.takeFree.2 2 (Config.freeWord s.takeFree.1)

/-- `deq` (R372). -/
def opQsDeq : OpFn := qsGuard fun x s =>
  let k := bits x.n.toNat 7 0
  if !x.qsActive s then x.qsFree s
  else match s.queue k with
    | [] => x.trap .qsEmpty
    | w :: l =>
      if bit x.n.toNat 8 then x.res s 2 ((w >>> 32).setWidth 32)
      else x.res { s with queues := tabSet s.queues k l } 2 (w.setWidth 32)

/-- `qstat` (R372). -/
def opQsQstat : OpFn := qsGuard fun x s =>
  if !x.qsActive s then x.qsFree s
  else x.res s 2 (BitVec.ofNat 32 (s.queue (bits x.n.toNat 7 0)).length)

/-! ### The rows -/

/-- QS_RINGRD. -/
def execQsRingrd (m : TrigMove) (s : State) : Host.Outcome State Fault Refusal := .next (s.issueOne 0xE00 opQsRingrd m)
/-- QS_RINGADV. -/
def execQsRingadv (m : TrigMove) (s : State) : Host.Outcome State Fault Refusal := .next (s.issueOne 0xE01 opQsRingadv m)
/-- QS_HEADPUB. -/
def execQsHeadpub (m : TrigMove) (s : State) : Host.Outcome State Fault Refusal := .next (s.issueOne 0xE02 opQsHeadpub m)
/-- QS_ENQ. -/
def execQsEnq (m : TrigMove) (s : State) : Host.Outcome State Fault Refusal := .next (s.issueOne 0xE03 opQsEnq m)
/-- QS_DEQ. -/
def execQsDeq (m : TrigMove) (s : State) : Host.Outcome State Fault Refusal := .next (s.issueOne 0xE04 opQsDeq m)
/-- QS_QSTAT. -/
def execQsQstat (m : TrigMove) (s : State) : Host.Outcome State Fault Refusal := .next (s.issueOne 0xE05 opQsQstat m)

end Sys2Proof.Machine
end

