-- ==== Sys2Proof/Machine/Sy.lean ====
section
/-! DEFINITION. The system socket (chapter 15): control registers, fences, checking, return, interrupts, counting. A is
`sy.a`, v the trigger value. -/

namespace Sys2Proof.Machine

/-! ### Control registers (Tables 1-5 and 1-6) -/

/-- A number that Table 1-5 lists. -/
def cregListed (n : Nat) : Bool := decide (n < 0x1E ∧ n ≠ 3) || decide (0x20 ≤ n ∧ n ≤ 0x26)
/-- A 64-bit register. -/
def cregWide (n : Nat) : Bool := n = 0xC || n = 0xD || decide (0x10 ≤ n ∧ n ≤ 0x15) || n = 0x23 || n = 0x25 || n = 0x26
/-- Program mode may read it. -/
def cregRead (n : Nat) : Bool := decide (n < 0x1D) || n = 0x20
/-- Program mode may write it. -/
def cregWrite (n : Nat) : Bool := decide (n ≤ 7) || n = 9 || n = 0xA || n = 0xF
/-- A socket that changes from data-locked to free-running keeps only its newest standing result (R108). -/
def SockQ.unlock (q : SockQ) : SockQ := { q with stand := q.stand.drop (q.stand.length - 1) }

/-- Sockets of a program whose DLOCK bit goes from 1 to 0 (R108). -/
def unlockSocks (old new : Word) (q : Vector SockQ 13) : Vector SockQ 13 :=
  Vector.ofFn fun i => let r := vget {} q i.val; if old.getLsbD i.val && !new.getLsbD i.val then r.unlock else r

/-- TCTL takes a value: IEN from supervisor mode only; DLOCK by R108, for the results that the snapshot holds when the
supervisor writes; a cleared ERCHK removes every mark (R283). -/
def Tile.writeTctl (t : Tile) (v : Word) : Tile :=
  let n := if t.sup then v &&& 0x31FFF else (v &&& 0x11FFF) ||| (t.tctl &&& 0x20000)
  { t with
    tctl := n
    socks := if t.sup then t.socks else unlockSocks t.tctl n t.socks
    snap := t.snap.map fun sn => { sn with socks := unlockSocks t.tctl n sn.socks }
    lsPending := if n.getLsbD 16 then t.lsPending else [] }

/-- MSHAPEi takes a value (R32). -/
def Tile.writeMshape (t : Tile) (i : Nat) (v : Word) : Tile :=
  { t with mshape := vset t.mshape i (mshDirty (v &&& 0x3FF) (mshCfg v)), m := vset t.m i (Vector.replicate 256 0) }

/-- MXOWN takes a value; the context whose block is recorded for its id is the running one when it names that (R34,
R267). -/
def Tile.writeMxown (t : Tile) (v : Word) : Tile :=
  { t with mxown := v &&& 0xFFFFF, mxOwner := if v.setWidth 16 = t.cid then t.launch.map fun id => (id, t.tlin) else t.mxOwner }

/-- A write of MXOWN by which held registers change hands: their former owner's block takes them then (R267, R268). -/
def Tile.dropsMx (t : Tile) (v : Nat) : Bool :=
  decide (v % 65536 ≠ t.mxown.toNat % 65536) || decide (bits v 19 16 &&& t.mxHeld ≠ t.mxHeld)

/-- A control register takes a value: reserved bits are dropped (R30, R358). -/
def Tile.writeCreg (t : Tile) (clk n v : Nat) : Tile :=
  let w : Word := BitVec.ofNat 32 v
  if 4 ≤ n ∧ n ≤ 7 then t.writeMshape (n - 4) w
  else if cregLoop n then t.writeLoopReg n v
  else match n with
    | 0x00 => t.writeTctl w
    | 0x01 => { t with vctl := w &&& 3 }
    | 0x02 => { t with vstat := (w &&& 0x3F) ||| (t.flagsOf clk).setWidth 32 }
    | 0x08 => { t with cir := w &&& 0xF }
    | 0x09 => { t with relmask := w &&& 0xFFFF }
    | 0x0A => { t with beta := w &&& 0xFFFF }
    | 0x0C => { t with wid := BitVec.ofNat 64 v }
    | 0x0D => { t with widf := BitVec.ofNat 64 (v % 2 ^ 42) }
    | 0x0E => t.captureSegt w
    | 0x0F => { t with fmtt := w &&& 0x71FFF0 }
    | 0x1C => { t with spcnt := w }
    | 0x1D => t.writeMxown w
    | 0x20 => { t with tstat := (w &&& 0xFFFFFF04) ||| (t.tstat &&& 1) }
    | 0x21 => { t with tcause := w &&& 0xFFFF }
    | 0x22 => { t with tepc := w }
    | 0x23 => { t with tinfo := BitVec.ofNat 64 v }
    | 0x24 => { t with tvec := w }
    | 0x25 => { t with tscr := BitVec.ofNat 64 v }
    | 0x26 => { t with ctxb := BitVec.ofNat 64 v }
    | _ => t

/-- A value that R31 or Table 1-6 forbids. -/
def cregBad (n v : Nat) : Bool :=
  (n = 0x0B && decide (v % 8 = 7)) ||
    (n = 0x0D && decide (64 < (upTo 6).foldl (fun k i => k + bits v (7 * i + 6) (7 * i)) 0))

/-- The register number of a form (R358). -/
def Ctx.creg (x : Ctx) : Nat := bits x.n.toNat 11 0
/-- HI. -/
def Ctx.cregHi (x : Ctx) : Bool := bit x.n.toNat 12
/-- A trap of a control-register form (R359). -/
def Ctx.cregTrap (x : Ctx) (c : Cause) : OpOut := x.trap c (2 ^ 32 * bits x.n.toNat 12 0)
/-- The half named, before the bundle. -/
def Ctx.cregHalf (x : Ctx) : Word := BitVec.ofNat 32 (x.pre.creg x.creg / if x.cregHi then 2 ^ 32 else 1)

/-- The checks of R359 but the last; `wr` for a write. -/
def Ctx.cregGuard (x : Ctx) (wr : Bool) : Option OpOut :=
  let n := x.creg
  if !cregListed n || (x.cregHi && !cregWide n) then some (x.cregTrap .illegalCreg)
  else if !x.pre.sup && !(if wr then cregWrite n else cregRead n) then some (x.cregTrap .privilege)
  else if cregMx n && decide (x.pre.mxown.setWidth 16 ≠ x.pre.cid) then some (x.cregTrap .mxOwner)
  else if wr && cregMx n && x.pre.mac.isSome then some (x.cregTrap .mxBusy)
  else none

/-- A write of a half: the checks, the write at the end of the cycle, and the wait that a write of SEGT asks for
(R199, R358, R359). -/
def Ctx.cregPut (x : Ctx) (s : State) (half : Word) : OpOut :=
  match x.cregGuard true with
  | some o => o
  | none =>
    let n := x.creg
    let old := x.pre.creg n
    let v := if x.cregHi then old % 2 ^ 32 + 2 ^ 32 * half.toNat
      else if cregWide n then old / 2 ^ 32 * 2 ^ 32 + half.toNat else half.toNat
    if cregBad n v then x.cregTrap .illegalCreg
    else if cregLoop n then .go s { loopReg := some (n, v) }
    else
      let s := if n = 0x1D && x.pre.dropsMx v then s.flushMx x.key else s
      .go (s.modTile x.key fun t => t.writeCreg x.clk n v) { notBefore := if n = 0x0E then x.clk + 33 else 0 }

/-- `crd` (R358). -/
def opSyCrd : OpFn := fun x s =>
  match x.cregGuard false with
  | some o => o
  | none => x.res s 2 (x.cregHalf &&& ~~~x.a)
/-- `crw` (R358). -/
def opSyCrw : OpFn := fun x s => x.cregPut s x.a
/-- `crs` (R358). -/
def opSyCrs : OpFn := fun x s => x.cregPut s (x.cregHalf ||| x.a)
/-- `crc` (R358). -/
def opSyCrc : OpFn := fun x s => x.cregPut s (x.cregHalf &&& ~~~x.a)

/-! ### Fences (R360, R361) -/

/-- SCOPE_INVALID, or the fence: before accesses of the classes of `mask`, after those outstanding ones that `sel` selects by
their class and by whether they read. Lower slots of the bundle come before it (R376). -/
def Ctx.syFence (x : Ctx) (s : State) (mask : BitVec 16) (sel : Nat → Bool → Bool) : OpOut :=
  let sc := bits x.n.toNat 3 0
  if 12 ≤ sc then x.trap .scopeInvalid (2 ^ 32 * sc)
  else x.ok s fun t => t.addFence mask
    (((t.far.filter fun r => sel r.cls r.replies).map fun r => r.id) ++
     ((t.heldStores.filter fun h => sel h.cls false).map fun h => h.id) ++
     match t.mac with | some m => if sel 0 m.reads then [m.id] else [] | none => [])

/-- `fence`: the classes of A, before and after (R360). -/
def opSyFence : OpFn := fun x s => x.syFence s (x.a.setWidth 16) fun c _ => x.a.getLsbD c
/-- `fencei` (R361). -/
def opSyFencei : OpFn := fun x s =>
  .go (s.modTile x.key fun t => { t with freshAt := x.clk + 1 }) { notBefore := x.clk + 4 }
/-- `rel`: the classes of RELMASK, before every class (R360). -/
def opSyRel : OpFn := fun x s => x.syFence s 0xFFFF fun c _ => x.pre.relmask.getLsbD c
/-- `acq`: loads and atomics, before every class (R360). -/
def opSyAcq : OpFn := fun x s => x.syFence s 0xFFFF fun _ r => r

/-! ### Checking, return, counters, interrupts (R362–R367) -/

/-- `chkerr` (R362). -/
def opSyChkerr : OpFn := fun x s =>
  let w := x.pre.cir &&& 0xF
  .go (s.modTile x.key fun t => t.resultN 10 x.clk 1 w) { cirClear := w &&& x.n }
/-- `tret` (R41, R363): it waits for a result of the handler's that has no fixed end. -/
def opSyTret : OpFn := fun x s =>
  if x.pre.handlerOpen then .wait false .locked id else .go s { stop := .ret }
/-- `cnt` (R367): zero in the program mode of a DUAL launch. -/
def opSyCnt : OpFn := fun x s =>
  let c : EventCounter := vget {} x.pre.counters (bits x.n.toNat 2 0)
  if !x.pre.sup && s.isDual x.key then x.res s 2 0
  else x.res s 2 (if bit x.n.toNat 3 then (c.val >>> 32).setWidth 32 else c.val.setWidth 32)
/-- `cntcfg` (R367). -/
def opSyCntcfg : OpFn := fun x s => x.ok s fun t =>
  { t with cntNew := some (bits x.n.toNat 2 0, { event := x.a.setWidth 8, ponly := x.a.getLsbD 8 }) }
/-- `pend` (R365). -/
def opSyPend : OpFn := fun x s => x.res s 1 (x.pre.pend.setWidth 32)
/-- `intack` (R365). -/
def opSyIntack : OpFn := fun x s => x.ok s fun t =>
  { t with pend := t.pend &&& ~~~((1 : BitVec 16) <<< bits x.n.toNat 3 0) }

/-! ### The rows -/

/-- SY_CRD. -/
def execSyCrd (m : TrigMove) (s : State) : Host.Outcome State Fault Refusal := .next (s.issueOne 0xC00 opSyCrd m)
/-- SY_CRW. -/
def execSyCrw (m : TrigMove) (s : State) : Host.Outcome State Fault Refusal := .next (s.issueOne 0xC01 opSyCrw m)
/-- SY_CRS. -/
def execSyCrs (m : TrigMove) (s : State) : Host.Outcome State Fault Refusal := .next (s.issueOne 0xC02 opSyCrs m)
/-- SY_CRC. -/
def execSyCrc (m : TrigMove) (s : State) : Host.Outcome State Fault Refusal := .next (s.issueOne 0xC03 opSyCrc m)
/-- SY_FENCE. -/
def execSyFence (m : TrigMove) (s : State) : Host.Outcome State Fault Refusal := .next (s.issueOne 0xC04 opSyFence m)
/-- SY_FENCEI. -/
def execSyFencei (m : TrigMove) (s : State) : Host.Outcome State Fault Refusal := .next (s.issueOne 0xC05 opSyFencei m)
/-- SY_REL. -/
def execSyRel (m : TrigMove) (s : State) : Host.Outcome State Fault Refusal := .next (s.issueOne 0xC06 opSyRel m)
/-- SY_ACQ. -/
def execSyAcq (m : TrigMove) (s : State) : Host.Outcome State Fault Refusal := .next (s.issueOne 0xC07 opSyAcq m)
/-- SY_CHKERR. -/
def execSyChkerr (m : TrigMove) (s : State) : Host.Outcome State Fault Refusal := .next (s.issueOne 0xC08 opSyChkerr m)
/-- SY_TRET. -/
def execSyTret (m : TrigMove) (s : State) : Host.Outcome State Fault Refusal := .next (s.issueOne 0xC09 opSyTret m)
/-- SY_CNT. -/
def execSyCnt (m : TrigMove) (s : State) : Host.Outcome State Fault Refusal := .next (s.issueOne 0xC0A opSyCnt m)
/-- SY_CNTCFG. -/
def execSyCntcfg (m : TrigMove) (s : State) : Host.Outcome State Fault Refusal := .next (s.issueOne 0xC0B opSyCntcfg m)
/-- SY_PEND. -/
def execSyPend (m : TrigMove) (s : State) : Host.Outcome State Fault Refusal := .next (s.issueOne 0xC0C opSyPend m)
/-- SY_INTACK. -/
def execSyIntack (m : TrigMove) (s : State) : Host.Outcome State Fault Refusal := .next (s.issueOne 0xC0D opSyIntack m)

end Sys2Proof.Machine
end

