-- ==== Sys2Proof/Machine/Vu.lean ====
section
/-! DEFINITION. The vector socket (chapter 9): sixteen lanes of 32 bits. X is the trigger value; A, B and C are the
latches `.a`, `.b` and `.c`. -/

namespace Sys2Proof.Machine

/-- Latch A. -/
def Ctx.wa (x : Ctx) : Wide := x.lat.latch 6 0
/-- Latch B. -/
def Ctx.wb (x : Ctx) : Wide := x.lat.latch 6 1
/-- Latch C. -/
def Ctx.wc (x : Ctx) : Wide := x.lat.latch 6 2

/-- The rounding mode sampled in the trigger cycle (R210, R228). -/
def Ctx.rmode (x : Ctx) : RMode := bits x.pre.vctl.toNat 1 0

/-- Lane results to a wide value. -/
def lanesOf (r : List (Nat × BitVec 6)) : Wide := BitVec.ofNat 512 (ofLanes (r.map fun p => BitVec.ofNat 32 p.1))
/-- The OR of lane flags (R229). -/
def flagsOf (r : List (Nat × BitVec 6)) : BitVec 6 := r.foldl (fun f p => f ||| p.2) 0

/-- An operation whose lanes are computed independently (R229). -/
def vuLanes (lat : Nat) (f : Ctx → Nat → Nat × BitVec 6) : OpFn := fun x s =>
  let r := (upTo 16).map (f x)
  x.resW s lat (lanesOf r) (flagsOf r)

/-- A floating operation of lanes of A and X (R230). -/
def vuF2 (lat : Nat) (f : RMode → Word → Word → Nat × BitVec 6) : OpFn :=
  vuLanes lat fun x i => f x.rmode (lane x.wa i) (lane x.v i)
/-- A floating operation of lanes of X (R230). -/
def vuF1 (lat : Nat) (f : RMode → Word → Nat × BitVec 6) : OpFn := vuLanes lat fun x i => f x.rmode (lane x.v i)

/-- `fadd` (Table 9-1). -/
def opVuFadd : OpFn := vuF2 4 fadd
/-- `fsub`. -/
def opVuFsub : OpFn := vuF2 4 fsub
/-- `fmul`. -/
def opVuFmul : OpFn := vuF2 4 fmul
/-- `fma` (R231). -/
def opVuFma : OpFn := vuLanes 4 fun x i => ffma x.rmode (lane x.wa i) (lane x.v i) (lane x.wb i)
/-- `fmin` (R232). -/
def opVuFmin : OpFn := vuF2 2 fun _ => fminmax false
/-- `fmax` (R232). -/
def opVuFmax : OpFn := vuF2 2 fun _ => fminmax true
/-- `fdiv`. -/
def opVuFdiv : OpFn := vuF2 12 fdiv
/-- `fsqrt`. -/
def opVuFsqrt : OpFn := vuF1 12 fsqrt
/-- `frcp`. -/
def opVuFrcp : OpFn := vuF1 6 frcp
/-- `frsq`. -/
def opVuFrsq : OpFn := vuF1 6 frsq
/-- `fexp2` (R223). -/
def opVuFexp2 : OpFn := vuF1 6 fun _ => fexp2
/-- `flog2` (R224). -/
def opVuFlog2 : OpFn := vuF1 6 fun _ => flog2
/-- `frnd` (R233). -/
def opVuFrnd : OpFn := vuF1 2 frnd

/-- A lane mask (R234). -/
def maskOf (f : Nat → Bool) : Word := BitVec.ofNat 32 ((upTo 16).foldl (fun n i => n + 2 ^ i * ofBool (f i)) 0)

/-- A comparison: a narrow mask, with the lanes' flags (R234). -/
def vuCmp (lat : Nat) (f : Word → Word → Bool × BitVec 6) : OpFn := fun x s =>
  let r (i : Nat) := f (lane x.wa i) (lane x.v i)
  x.res s lat (maskOf fun i => (r i).1) ((upTo 16).foldl (fun g i => g ||| (r i).2) 0)

/-- `fcmpeq` (Table 9-2). -/
def opVuFcmpeq : OpFn := vuCmp 2 (fcmp 0)
/-- `fcmplt`. -/
def opVuFcmplt : OpFn := vuCmp 2 (fcmp 1)
/-- `fcmple`. -/
def opVuFcmple : OpFn := vuCmp 2 (fcmp 2)
/-- `vcmpeq`. -/
def opVuVcmpeq : OpFn := vuCmp 1 fun a b => (decide (a = b), 0)
/-- `vcmplt`. -/
def opVuVcmplt : OpFn := vuCmp 1 fun a b => (a.slt b, 0)

/-- An integer operation of lanes of A and X (R235). -/
def vuI2 (lat : Nat) (f : Word → Word → Word) : OpFn :=
  vuLanes lat fun x i => ((f (lane x.wa i) (lane x.v i)).toNat, 0)
/-- A saturating operation of lanes of A and X (R235). -/
def vuSat (f : Int → Int → Int) : OpFn := vuLanes 1 fun x i =>
  let r := satS32 (f (sgn (lane x.wa i)) (sgn (lane x.v i)))
  (r.1.toNat, satFlag r.2)

/-- `vadd` (Table 9-3). -/
def opVuVadd : OpFn := vuI2 1 fun a b => a + b
/-- `vsub`. -/
def opVuVsub : OpFn := vuI2 1 fun a b => a - b
/-- `vadds`. -/
def opVuVadds : OpFn := vuSat fun a b => a + b
/-- `vsubs`. -/
def opVuVsubs : OpFn := vuSat fun a b => a - b
/-- `vmul`. -/
def opVuVmul : OpFn := vuI2 3 fun a b => a * b
/-- `vand`. -/
def opVuVand : OpFn := vuI2 1 fun a b => a &&& b
/-- `vor`. -/
def opVuVor : OpFn := vuI2 1 fun a b => a ||| b
/-- `vxor`. -/
def opVuVxor : OpFn := vuI2 1 fun a b => a ^^^ b
/-- `vshl`. -/
def opVuVshl : OpFn := vuI2 1 shl32
/-- `vshr`. -/
def opVuVshr : OpFn := vuI2 1 fun a b => a >>> b.toNat
/-- `vsar`. -/
def opVuVsar : OpFn := vuI2 1 fun a b => a.sshiftRight b.toNat
/-- `vmin`. -/
def opVuVmin : OpFn := vuI2 1 fun a b => if a.slt b then a else b
/-- `vmax`. -/
def opVuVmax : OpFn := vuI2 1 fun a b => if a.slt b then b else a

/-- `cvtif` (R236). -/
def opVuCvtif : OpFn := vuF1 2 cvtIf
/-- `cvtfi` (R236, R219). -/
def opVuCvtfi : OpFn := vuF1 2 fun m a =>
  let r := cvtFi m (-(2 ^ 31)) (2 ^ 31 - 1) (fp32.val a.toNat)
  ((BitVec.ofInt 32 r.1).toNat, r.2)

/-- Two 16-bit elements in one lane. -/
def pair16 (a b : Nat × BitVec 6) : Nat × BitVec 6 := (a.1 + 65536 * b.1, a.2 ||| b.2)

/-- Packs A and X into 32 elements of a 16-bit format (R237). -/
def vuPack (f : FFmt) : OpFn := vuLanes 2 fun x i =>
  let src (j : Nat) : Word := if j < 16 then lane x.wa j else lane x.v (j - 16)
  let el (j : Nat) := cvtDown f x.rmode (src j)
  pair16 (el (2 * i)) (el (2 * i + 1))

/-- `cvtfh` (R237). -/
def opVuCvtfh : OpFn := vuPack fp16
/-- `cvtfb` (R237). -/
def opVuCvtfb : OpFn := vuPack bf16

/-- Element k of 16 bits of a wide value (R205). -/
def elem16 (w : Wide) (k : Nat) : Nat := bits w.toNat (16 * k + 15) (16 * k)
/-- Element k of 8 bits of a wide value (R205). -/
def elem8 (w : Wide) (k : Nat) : Nat := bits w.toNat (8 * k + 7) (8 * k)

/-- Unpacks one half of X (R238). -/
def vuUnpack (f : FFmt) : OpFn := vuLanes 2 fun x i => cvtUp f (elem16 x.v (16 * ofBool (x.wa.getLsbD 0) + i))

/-- `cvthf` (R238). -/
def opVuCvthf : OpFn := vuUnpack fp16
/-- `cvtbf` (R238). -/
def opVuCvtbf : OpFn := vuUnpack bf16

/-- An integer saturated to INT8 as a byte (R239). -/
def satS8 (z : Int) : Nat × Bool :=
  if z < -128 then (0x80, true) else if 127 < z then (0x7F, true) else ((BitVec.ofInt 8 z).toNat, false)

/-- Element j of `packi8` (R239). -/
def packElem (x : Ctx) (j : Nat) : Nat × Bool :=
  let src : Word :=
    if j < 16 then lane x.wa j
    else if j < 32 then lane x.wb (j - 16)
    else if j < 48 then lane x.wc (j - 32)
    else lane x.v (j - 48)
  satS8 (sgn src)

/-- `packi8` (R239). -/
def opVuPacki8 : OpFn := vuLanes 2 fun x i =>
  (upTo 4).foldl (fun r k =>
    let e := packElem x (4 * i + k)
    (r.1 + 256 ^ k * e.1, r.2 ||| satFlag e.2)) (0, 0)

/-- `unpki8` (R239). -/
def opVuUnpki8 : OpFn := vuLanes 2 fun x i =>
  let c := (lane x.wa 0).toNat
  let e := elem8 x.v (16 * bits c 1 0 + i)
  (if bit c 2 then e else (BitVec.ofInt 32 (sextNat e 8)).toNat, 0)

/-- `vperm` (R240). -/
def opVuVperm : OpFn := vuLanes 2 fun x i =>
  let k := (lane x.v i).toNat
  (if bit k 31 then 0 else (lane x.wa (bits k 3 0)).toNat, 0)

/-- `vbcast` (R240). -/
def opVuVbcast : OpFn := vuLanes 1 fun x _ => (x.n.toNat, 0)

/-- One level of the tree of R241: neighbours combined. -/
def treeLevel (f : Word → Word → Nat × BitVec 6) : List Word → List Word × BitVec 6
  | a :: b :: l =>
    let r := f a b
    let q := treeLevel f l
    (BitVec.ofNat 32 r.1 :: q.1, r.2 ||| q.2)
  | l => (l, 0)

/-- The tree of R241 over sixteen lanes. -/
def treeOf (f : Word → Word → Nat × BitVec 6) (l : List Word) : Word × BitVec 6 :=
  let r := (upTo 4).foldl (fun p _ =>
    let q := treeLevel f p.1
    (q.1, p.2 ||| q.2)) (l, 0)
  (nth 0 r.1 0, r.2)

/-- The lanes of X. -/
def Ctx.lanesX (x : Ctx) : List Word := (upTo 16).map (lane x.v)

/-- `rsum` (R241). -/
def opVuRsum : OpFn := fun x s =>
  let r := treeOf (fadd x.rmode) x.lanesX
  x.res s 6 r.1 r.2
/-- `rmax` (R242). -/
def opVuRmax : OpFn := fun x s =>
  let r := treeOf (fminmax true) x.lanesX
  x.res s 4 r.1 r.2

/-! ### The rows -/

/-- VU_FADD. -/
def execVuFadd (m : TrigMove) (s : State) : Host.Outcome State Fault Refusal := .next (s.issueOne 0x800 opVuFadd m)
/-- VU_FSUB. -/
def execVuFsub (m : TrigMove) (s : State) : Host.Outcome State Fault Refusal := .next (s.issueOne 0x801 opVuFsub m)
/-- VU_FMUL. -/
def execVuFmul (m : TrigMove) (s : State) : Host.Outcome State Fault Refusal := .next (s.issueOne 0x802 opVuFmul m)
/-- VU_FMA. -/
def execVuFma (m : TrigMove) (s : State) : Host.Outcome State Fault Refusal := .next (s.issueOne 0x803 opVuFma m)
/-- VU_FMIN. -/
def execVuFmin (m : TrigMove) (s : State) : Host.Outcome State Fault Refusal := .next (s.issueOne 0x804 opVuFmin m)
/-- VU_FMAX. -/
def execVuFmax (m : TrigMove) (s : State) : Host.Outcome State Fault Refusal := .next (s.issueOne 0x805 opVuFmax m)
/-- VU_FDIV. -/
def execVuFdiv (m : TrigMove) (s : State) : Host.Outcome State Fault Refusal := .next (s.issueOne 0x806 opVuFdiv m)
/-- VU_FSQRT. -/
def execVuFsqrt (m : TrigMove) (s : State) : Host.Outcome State Fault Refusal := .next (s.issueOne 0x807 opVuFsqrt m)
/-- VU_FRCP. -/
def execVuFrcp (m : TrigMove) (s : State) : Host.Outcome State Fault Refusal := .next (s.issueOne 0x808 opVuFrcp m)
/-- VU_FRSQ. -/
def execVuFrsq (m : TrigMove) (s : State) : Host.Outcome State Fault Refusal := .next (s.issueOne 0x809 opVuFrsq m)
/-- VU_FEXP2. -/
def execVuFexp2 (m : TrigMove) (s : State) : Host.Outcome State Fault Refusal := .next (s.issueOne 0x80A opVuFexp2 m)
/-- VU_FLOG2. -/
def execVuFlog2 (m : TrigMove) (s : State) : Host.Outcome State Fault Refusal := .next (s.issueOne 0x80B opVuFlog2 m)
/-- VU_FRND. -/
def execVuFrnd (m : TrigMove) (s : State) : Host.Outcome State Fault Refusal := .next (s.issueOne 0x80C opVuFrnd m)
/-- VU_FCMPEQ. -/
def execVuFcmpeq (m : TrigMove) (s : State) : Host.Outcome State Fault Refusal := .next (s.issueOne 0x80D opVuFcmpeq m)
/-- VU_FCMPLT. -/
def execVuFcmplt (m : TrigMove) (s : State) : Host.Outcome State Fault Refusal := .next (s.issueOne 0x80E opVuFcmplt m)
/-- VU_FCMPLE. -/
def execVuFcmple (m : TrigMove) (s : State) : Host.Outcome State Fault Refusal := .next (s.issueOne 0x80F opVuFcmple m)
/-- VU_VADD. -/
def execVuVadd (m : TrigMove) (s : State) : Host.Outcome State Fault Refusal := .next (s.issueOne 0x810 opVuVadd m)
/-- VU_VSUB. -/
def execVuVsub (m : TrigMove) (s : State) : Host.Outcome State Fault Refusal := .next (s.issueOne 0x811 opVuVsub m)
/-- VU_VADDS. -/
def execVuVadds (m : TrigMove) (s : State) : Host.Outcome State Fault Refusal := .next (s.issueOne 0x812 opVuVadds m)
/-- VU_VSUBS. -/
def execVuVsubs (m : TrigMove) (s : State) : Host.Outcome State Fault Refusal := .next (s.issueOne 0x813 opVuVsubs m)
/-- VU_VMUL. -/
def execVuVmul (m : TrigMove) (s : State) : Host.Outcome State Fault Refusal := .next (s.issueOne 0x814 opVuVmul m)
/-- VU_VAND. -/
def execVuVand (m : TrigMove) (s : State) : Host.Outcome State Fault Refusal := .next (s.issueOne 0x815 opVuVand m)
/-- VU_VOR. -/
def execVuVor (m : TrigMove) (s : State) : Host.Outcome State Fault Refusal := .next (s.issueOne 0x816 opVuVor m)
/-- VU_VXOR. -/
def execVuVxor (m : TrigMove) (s : State) : Host.Outcome State Fault Refusal := .next (s.issueOne 0x817 opVuVxor m)
/-- VU_VSHL. -/
def execVuVshl (m : TrigMove) (s : State) : Host.Outcome State Fault Refusal := .next (s.issueOne 0x818 opVuVshl m)
/-- VU_VSHR. -/
def execVuVshr (m : TrigMove) (s : State) : Host.Outcome State Fault Refusal := .next (s.issueOne 0x819 opVuVshr m)
/-- VU_VSAR. -/
def execVuVsar (m : TrigMove) (s : State) : Host.Outcome State Fault Refusal := .next (s.issueOne 0x81A opVuVsar m)
/-- VU_VMIN. -/
def execVuVmin (m : TrigMove) (s : State) : Host.Outcome State Fault Refusal := .next (s.issueOne 0x81B opVuVmin m)
/-- VU_VMAX. -/
def execVuVmax (m : TrigMove) (s : State) : Host.Outcome State Fault Refusal := .next (s.issueOne 0x81C opVuVmax m)
/-- VU_VCMPEQ. -/
def execVuVcmpeq (m : TrigMove) (s : State) : Host.Outcome State Fault Refusal := .next (s.issueOne 0x81D opVuVcmpeq m)
/-- VU_VCMPLT. -/
def execVuVcmplt (m : TrigMove) (s : State) : Host.Outcome State Fault Refusal := .next (s.issueOne 0x81E opVuVcmplt m)
/-- VU_CVTIF. -/
def execVuCvtif (m : TrigMove) (s : State) : Host.Outcome State Fault Refusal := .next (s.issueOne 0x81F opVuCvtif m)
/-- VU_CVTFI. -/
def execVuCvtfi (m : TrigMove) (s : State) : Host.Outcome State Fault Refusal := .next (s.issueOne 0x820 opVuCvtfi m)
/-- VU_CVTFH. -/
def execVuCvtfh (m : TrigMove) (s : State) : Host.Outcome State Fault Refusal := .next (s.issueOne 0x821 opVuCvtfh m)
/-- VU_CVTFB. -/
def execVuCvtfb (m : TrigMove) (s : State) : Host.Outcome State Fault Refusal := .next (s.issueOne 0x822 opVuCvtfb m)
/-- VU_CVTHF. -/
def execVuCvthf (m : TrigMove) (s : State) : Host.Outcome State Fault Refusal := .next (s.issueOne 0x823 opVuCvthf m)
/-- VU_CVTBF. -/
def execVuCvtbf (m : TrigMove) (s : State) : Host.Outcome State Fault Refusal := .next (s.issueOne 0x824 opVuCvtbf m)
/-- VU_PACKI8. -/
def execVuPacki8 (m : TrigMove) (s : State) : Host.Outcome State Fault Refusal := .next (s.issueOne 0x825 opVuPacki8 m)
/-- VU_UNPKI8. -/
def execVuUnpki8 (m : TrigMove) (s : State) : Host.Outcome State Fault Refusal := .next (s.issueOne 0x826 opVuUnpki8 m)
/-- VU_VPERM. -/
def execVuVperm (m : TrigMove) (s : State) : Host.Outcome State Fault Refusal := .next (s.issueOne 0x827 opVuVperm m)
/-- VU_VBCAST. -/
def execVuVbcast (m : TrigMove) (s : State) : Host.Outcome State Fault Refusal := .next (s.issueOne 0x828 opVuVbcast m)
/-- VU_RSUM. -/
def execVuRsum (m : TrigMove) (s : State) : Host.Outcome State Fault Refusal := .next (s.issueOne 0x829 opVuRsum m)
/-- VU_RMAX. -/
def execVuRmax (m : TrigMove) (s : State) : Host.Outcome State Fault Refusal := .next (s.issueOne 0x82A opVuRmax m)

end Sys2Proof.Machine
end

