-- ==== Sys2Proof/Machine/BundleIssue.lean ====
section
/-! DEFINITION. BUNDLE_ISSUE: any bundle, with the operations that its triggers name (chapter 5, Table 5-3). -/

namespace Sys2Proof.Machine

/-- A code that starts nothing; no legal bundle names one. -/
def opNone : OpFn := fun _ s => .go s {}

/-- The operations of `cu` by number. -/
def cuOps : List OpFn :=
  [opCuJmp, opCuJrel, opCuJtab, opCuCall, opCuCallrel, opCuCalltab, opCuRet, opCuLoop, opCuLoopi, opCuLoopnext,
   opCuLoopexit, opCuNextwork, opCuSync, opCuHalt, opCuTrap, opCuBrk, opCuLoopidx, opCuLoopcnt]

/-- The operations of `ia` by number. -/
def iaOps : List OpFn :=
  [opIaAdd, opIaSub, opIaAdds, opIaSubs, opIaAnd, opIaOr, opIaXor, opIaAndn, opIaShl, opIaShr, opIaSar, opIaRol,
   opIaMin, opIaMax, opIaMinu, opIaMaxu, opIaEq, opIaNe, opIaLt, opIaLtu, opIaLe, opIaLeu, opIaSel, opIaClz,
   opIaPopc, opIaBfx]

/-- The operations of `md` by number. -/
def mdOps : List OpFn :=
  [opMdMul, opMdMulh, opMdMulhu, opMdMac, opMdDiv, opMdDivu, opMdRem, opMdRemu]

/-- The operations of `ag` by number. -/
def agOps : List OpFn :=
  [opAgLea, opAgLeas, opAgSeg, opAgSegh, opAgSegchk, opAgTid, opAgTwin, opAgInc, opAgIncw, opAgBcyc, opAgIlv,
   opAgFmode]

/-- The operations of `ls` by number. -/
def lsOps : List OpFn :=
  [opLsLdb, opLsLdbs, opLsLdh, opLsLdhs, opLsLdw, opLsLdd, opLsLdv, opLsLdvt, opLsLdwa, opLsLdda, opLsStb, opLsSth,
   opLsStw, opLsStd, opLsStv, opLsStvm, opLsStwr, opLsStdr, opLsScfg, opLsSstop, opLsRingacq, opLsRingrel,
   opLsRmwadd, opLsRmwswap, opLsRmwcas, opLsRmwmin, opLsRmwmax, opLsRmwor]

/-- The operations of `vu` by number. -/
def vuOps : List OpFn :=
  [opVuFadd, opVuFsub, opVuFmul, opVuFma, opVuFmin, opVuFmax, opVuFdiv, opVuFsqrt, opVuFrcp, opVuFrsq, opVuFexp2,
   opVuFlog2, opVuFrnd, opVuFcmpeq, opVuFcmplt, opVuFcmple, opVuVadd, opVuVsub, opVuVadds, opVuVsubs, opVuVmul,
   opVuVand, opVuVor, opVuVxor, opVuVshl, opVuVshr, opVuVsar, opVuVmin, opVuVmax, opVuVcmpeq, opVuVcmplt,
   opVuCvtif, opVuCvtfi, opVuCvtfh, opVuCvtfb, opVuCvthf, opVuCvtbf, opVuPacki8, opVuUnpki8, opVuVperm, opVuVbcast,
   opVuRsum, opVuRmax]

/-- The operations of `mx` by number. -/
def mxOps : List OpFn :=
  [opMxOp4, opMxOp4z, opMxOp4d, opMxOp4i, opMxOp4s, opMxAcrd, opMxAcclr, opMxMma16, opMxMma16d, opMxMma16i,
   opMxMma16s, opMxMrow, opMxMcol, opMxMrowr, opMxMcolr, opMxMacc, opMxMzero, opMxMld, opMxMst, opMxMfmt]

/-- The operations of `ch` by number. -/
def chOps : List OpFn :=
  [opChSend, opChHalo, opChSpawn, opChFld, opChFldv, opChFst, opChFstv, opChFstm, opChFstred, opChBadd, opChBaddf,
   opChBaddh, opChBmin, opChBmax, opChBand, opChBor, opChBxor, opChBswap, opChBcas, opChBcasd, opChBred, opChDma,
   opChDmaw, opChLayout, opChColl, opChCcset, opChCcwait, opChCcclr, opChMbclr, opChMbwait, opChWaddr]

/-- The operations of `bal` by number. -/
def balOps : List OpFn :=
  [opBalLoad, opBalSeed, opBalBeta, opBalClamp, opBalUnclamp, opBalSweep, opBalRdspin, opBalRdmarg, opBalClrmarg,
   opBalSeedrng, opBalGroup, opBalLink, opBalStateRead, opBalSpin]

/-- The operations of `sy` by number. -/
def syOps : List OpFn :=
  [opSyCrd, opSyCrw, opSyCrs, opSyCrc, opSyFence, opSyFencei, opSyRel, opSyAcq, opSyChkerr, opSyTret, opSyCnt,
   opSyCntcfg, opSyPend, opSyIntack]

/-- The operations of `ky` by number. -/
def kyOps : List OpFn :=
  [opKyShinit, opKyAbsorb, opKySqueeze, opKyFverify, opKyMextend, opKyKeyld, opKyKeyclr, opKyFuserd]

/-- The operations of `qs` by number. -/
def qsOps : List OpFn :=
  [opQsRingrd, opQsRingadv, opQsHeadpub, opQsEnq, opQsDeq, opQsQstat]

/-- The operations of a socket. -/
def sockOps (sock : Nat) : List OpFn :=
  match sock with
  | 0 => cuOps
  | 1 | 2 => iaOps
  | 3 => mdOps
  | 4 => agOps
  | 5 => lsOps
  | 6 => vuOps
  | 7 => mxOps
  | 8 => chOps
  | 9 => balOps
  | 10 => syOps
  | 11 => kyOps
  | 12 => qsOps
  | _ => []

/-- The operation of a trigger code. -/
def opTable (code : Nat) : OpFn := nth opNone (sockOps (sockOf code)) (opOf code)

/-- BUNDLE_ISSUE. -/
def execBundleIssue (b : Bundle) (s : State) : Host.Outcome State Fault Refusal := .next (s.issueWith opTable b)

end Sys2Proof.Machine
end

