-- ==== Sys2Proof/Machine/TileEvents.lean ====
section
/-! DEFINITION. What happens at a tile between its bundles: results that complete, the later cycles of operations, entry
into the supervisor for an interrupt or a context switch, stream fills; and the releases of a launch's escapement. Each
row states when its step can come about; at any other time it changes nothing. -/

namespace Sys2Proof.Machine

/-! ### Results and later cycles of operations -/

/-- Some result of the socket is due (R104). -/
def Tile.resultDue (t : Tile) (sock clk : Nat) : Bool := (t.sock sock).fly.any fun r => decide (r.due ≤ clk)

/-- RESULT_COMPLETE (R104). -/
def State.resultComplete (s : State) (key sock : Nat) : State :=
  if (s.tile key).resultDue sock s.clk then s.modTile key fun t => t.complete sock s.clk else s

/-- OP4_STAGE (R250, R251). -/
def State.op4Stage (s : State) (key : Nat) : State := s.modTile key fun t => t.op4Stages s.clk

/-- The `macc` operations to be written at the end of this cycle (R254). -/
def Tile.maccDue (t : Tile) (clk : Nat) : List Macc := t.maccs.filter fun a => decide (a.cyc < clk)

/-- MACC_WRITE (R254). -/
def State.maccWrite (s : State) (key : Nat) : State :=
  s.modTile key fun t => (t.maccDue s.clk).foldl (fun t a => t.maccWrite a)
    { t with maccs := t.maccs.filter fun a => !decide (a.cyc < s.clk) }

/-- MX_MACRO_STEP: the next step of the macro operation, or its completion (R257, R259). -/
def State.macroStep (s : State) (key : Nat) : State :=
  s.modTile key fun t => match t.mac with
    | none => t
    | some m => if t.macroDue s.clk then t.macroStep s.clk m else if t.macroEnds s.clk then t.macroDone m else t

/-- RMW_WRITE: windows in their last cycle (R282). -/
def State.rmwWrite (s : State) (key : Nat) : State := s.modTile key fun t => t.rmwWrite s.clk (s.clk - 1)

/-- RING_UPDATE (R287). -/
def State.ringUpdate (s : State) (key : Nat) : State := s.modTile key fun t => t.ringUpdates s.clk

/-! ### Stream fills (R291) -/

/-- The slot that the refill engine takes next: the first freed, lowest stream first. -/
def Tile.nextFill (t : Tile) (clk : Nat) : Option FillSlot :=
  (t.fillQ.filter fun e => decide (e.first ≤ clk)).foldl (fun m e => match m with
    | none => some e
    | some b => if e.freed < b.freed ∨ (e.freed = b.freed ∧ e.stream < b.stream) then some e else some b) none

/-- The element that a fill of stream k reads: its address and size; none when the pattern has no further one. -/
def Tile.fillPlace (t : Tile) (k : Nat) : Option (Nat × Nat) :=
  let st : Stream := vget {} t.streams k
  st.fillPos.map fun p => ((st.addrAt p).toNat, st.size)

/-- The stream whose slot the engine fills now: at most two in a cycle; it waits for a pending word and for a
read-modify-write window in its bank (R283, R284). -/
def Tile.fillDue (t : Tile) (clk : Nat) : Option Nat :=
  if t.fillCount.1 = clk && decide (2 ≤ t.fillCount.2) then none
  else match t.nextFill clk with
    | none => none
    | some e =>
      match t.fillPlace e.stream with
      | none => some e.stream
      | some (a, n) => if t.pendingAt clk a n || t.rmwHolds clk a n then none else some e.stream

/-- The stream takes one more element. -/
def Tile.fillStream (t : Tile) (clk k : Nat) : Tile :=
  match t.fillPlace k with
  | none => t
  | some (a, n) =>
    let st : Stream := vget {} t.streams k
    let f : Fill := { val := BitVec.ofNat 512 (t.memAt clk a n), poison := t.poisonedAt clk a n, filledAt := clk }
    { t with streams := vset t.streams k { st with buf := st.buf ++ [f] }
             fillCount := (clk, if t.fillCount.1 = clk then t.fillCount.2 + 1 else 1) }

/-- STREAM_FILL of stream k (R291). -/
def State.streamFill (s : State) (key k : Nat) : State :=
  let t := s.tile key
  if t.fillDue s.clk = some k then
    match t.nextFill s.clk with
    | none => s
    | some e => s.setTile key ({ t with fillQ := t.fillQ.erase e }.fillStream s.clk k)
  else s

/-! ### Entry into the supervisor (R44, R364, R366) -/

/-- The lowest pending source. -/
def lowestSource (p : BitVec 16) : Nat := ((upTo 16).find? fun i => p.getLsbD i).getD 0

/-- The pending sources that the tile's state admits (R44, R171, R364): MXFLUSH in every state, another source while the
program runs or waits in the escapement, the initial one included, with IEN set. -/
def Tile.admitted (t : Tile) : BitVec 16 :=
  if t.tctl.getLsbD 17 && (decide (t.run = .computing) || decide (t.run = .arrived) || decide (t.run = .waitRelease)) then t.pend
  else t.pend &&& 2

/-- An interrupt is taken now (R44, R364). A fenced or halted supervisor's tile takes none. -/
def Tile.interruptDue (t : Tile) (clk : Nat) : Bool :=
  !t.sup && !t.dead && !t.fenced && !t.saved && decide (t.intFrom ≤ clk) && decide (t.admitted ≠ 0)

/-- INTERRUPT_ENTRY (R364). -/
def State.interruptEntry (s : State) (key : Nat) : State :=
  let t := s.tile key
  if t.interruptDue s.clk then s.setTile key (t.enterSup s.clk Cause.interrupt.code (lowestSource t.admitted) 0 true) else s

/-- The switch point at which the tile stands (R74–R77): a safe point whose GAP has elapsed and whose next bundle has not
been tried, an arrival, or a wait of class W. -/
def Tile.switchPoint (t : Tile) (clk : Nat) : Option SwitchKind :=
  if t.run = .arrived then (if t.intFrom ≤ clk then some .arrival else none)
  else if t.run ≠ .computing then none
  else if t.stall = .classW then some .wait
  else match t.switchAt with
    | some (.safePoint i) => if t.stall = .none && decide (t.gapEnd ≤ clk) then some (.safePoint i) else none
    | _ => none

/-- TINFO of CTX_SWITCH (R366). -/
def SwitchKind.info : SwitchKind → Nat
  | .safePoint i => i.toNat
  | .arrival => 4096
  | .wait => 8192

/-- The switch point at which the tile stands while a switch is pending for it: its bundles stop there (R75, R77). -/
def Tile.switchStop (t : Tile) (clk : Nat) : Option SwitchKind :=
  if t.switchPend && !t.sup && !t.dead && !t.fenced && !t.saved then t.switchPoint clk else none

/-- A context switch is taken now: every far-load reply has landed, and the sweep, if there is one, has stopped
(R113, R320, R356, R366). In a DUAL launch only an arrival is honoured (R496). -/
def State.switchDue (s : State) (key : Nat) : Option SwitchKind :=
  let t := s.tile key
  if t.far.any FarReq.replies || !t.bal.paused then none
  else match t.switchStop s.clk with
    | some .arrival => some .arrival
    | some k => if s.isDual key then none else some k
    | none => none

/-- The registers that a switch at a safe point saves: those in its live masks (R75). -/
def Tile.live (t : Tile) (l : Launch) (k : SwitchKind) : Tile :=
  match k with
  | .safePoint i =>
    match l.code.safe.find? fun p => decide (p.index = i.toNat) with
    | some p => t.dropDead p.xmask p.vmask
    | none => t
  | _ => t

/-- CONTEXT_SWITCH_ENTRY (R366): the supervisor is entered and saves the context, to which it does not return; what is saved
at the switch point goes into the block now. The sequencer of `mx` is then clear (R266). -/
def State.contextSwitchEntry (s : State) (key : Nat) : State :=
  let t := s.tile key
  match s.switchDue key with
  | none => s
  | some k =>
    let t1 := { t.enterSup s.clk Cause.ctxSwitch.code 0 k.info false with saved := true, switchPend := false, switchAt := some k }
    let s1 := s.setTile key { t1 with mac := none }
    match t.launch.bind s.launch? with
    | none => s1
    | some l =>
      if s.isTwin key then s1
      else s1.modCtx (t.launch.map fun id => (id, t.tlin)) fun c => c.saveHead (t1.live l k) l.balance

/-! ### The escapement (R61, R174–R176, R309, R493) -/

/-- The tile stands where a release finds it, and nothing that the release counts is on its way: no send, no plan entry,
no store, reduction or atomic still to be performed, no message of a DUAL pair still to be compared (R61, R309, R493). -/
def Tile.escReady (t : Tile) : Bool :=
  (decide (t.run = .arrived) || decide (t.run = .halted) || decide (t.run = .notStarted) || decide (t.run = .idle)) &&
    t.spawnIn.isNone && t.egress.isEmpty && !t.fenced &&
    (t.copies.all fun c => match c.kind with | .halo _ | .readout => true | .send | .plan => false) &&
    t.far.all fun r => !r.open_ || (match r.kind with
      | .store _ | .multi | .reduce _ | .atomic _ _ => false
      | _ => true)

/-- The escapement releases in this cycle: some tile waits, every tile is ready, and 2G cycles have passed (R174). -/
def State.releaseDue (s : State) (l : Launch) : Bool :=
  decide (l.state = .running) && decide (l.escT + 2 * l.latency ≤ s.clk) &&
    (l.allTiles.any fun k => decide ((s.tile k).run = .arrived)) && l.allTiles.all fun k => (s.tile k).escReady

/-- A tile at a release (R61, R160, R174): an arrived tile computes, from the cycle of the release or once its GAP has
elapsed. -/
def Tile.released (t : Tile) (clk : Nat) : Tile :=
  let t := { t with sstep := t.sstep + 1 }
  if t.run ≠ .arrived then t
  else { t with run := .computing, nextAt := max t.nextAt clk }

/-- ESCAPEMENT_RELEASE of a launch (R61, R174). -/
def State.escapementRelease (s : State) (id : Nat) : State :=
  match s.launch? id with
  | none => s
  | some l => if s.releaseDue l then s.modTiles l.allTiles fun t => t.released s.clk else s

/-- The first release reaches the tiles in this cycle (R175). -/
def State.initialDue (s : State) (l : Launch) : Bool :=
  decide (l.state = .placed) && (match l.releaseAt with | some c => decide (c ≤ s.clk) | none => false)

/-- INITIAL_RELEASE of a launch (R55, R175): its started tiles compute, and the launch runs. -/
def State.initialRelease (s : State) (id : Nat) : State :=
  match s.launch? id with
  | none => s
  | some l =>
    if !s.initialDue l then s
    else
      let s := s.modTiles l.allTiles fun t =>
        if t.run = .waitRelease then { t with run := .computing, nextAt := max t.nextAt s.clk } else t
      s.setLaunch id { l with state := .running, releaseAt := none, ranSince := s.clk, escT := s.clk }

/-! ### The rows -/

/-- RESULT_COMPLETE. -/
def execResultComplete (t sock : Nat) (s : State) : Host.Outcome State Fault Refusal := .next (s.resultComplete t sock)
/-- INTERRUPT_ENTRY. -/
def execInterruptEntry (t : Nat) (s : State) : Host.Outcome State Fault Refusal := .next (s.interruptEntry t)
/-- CONTEXT_SWITCH_ENTRY. -/
def execContextSwitchEntry (t : Nat) (s : State) : Host.Outcome State Fault Refusal := .next (s.contextSwitchEntry t)
/-- OP4_STAGE. -/
def execOp4Stage (t : Nat) (s : State) : Host.Outcome State Fault Refusal := .next (s.op4Stage t)
/-- MACC_WRITE. -/
def execMaccWrite (t : Nat) (s : State) : Host.Outcome State Fault Refusal := .next (s.maccWrite t)
/-- MX_MACRO_STEP. -/
def execMxMacroStep (t : Nat) (s : State) : Host.Outcome State Fault Refusal := .next (s.macroStep t)
/-- RMW_WRITE. -/
def execRmwWrite (t : Nat) (s : State) : Host.Outcome State Fault Refusal := .next (s.rmwWrite t)
/-- RING_UPDATE. -/
def execRingUpdate (t : Nat) (s : State) : Host.Outcome State Fault Refusal := .next (s.ringUpdate t)
/-- STREAM_FILL. -/
def execStreamFill (t k : Nat) (s : State) : Host.Outcome State Fault Refusal := .next (s.streamFill t k)
/-- ESCAPEMENT_RELEASE. -/
def execEscapementRelease (l : Nat) (s : State) : Host.Outcome State Fault Refusal := .next (s.escapementRelease l)
/-- INITIAL_RELEASE. -/
def execInitialRelease (l : Nat) (s : State) : Host.Outcome State Fault Refusal := .next (s.initialRelease l)

end Sys2Proof.Machine
end

