-- ==== Sys2Proof/Machine/Dispatch.lean ====
section
/-! DEFINITION. What each instruction does: one arm per constructor of `Instr`, each one call of its meaning. -/

namespace Sys2Proof.Machine

def exec (i : Instr) (s : State) : Host.Outcome State Fault Refusal :=
  match i with
  | .bundleIssue b => Sys2Proof.Machine.execBundleIssue b s
  | .resultComplete t sock => Sys2Proof.Machine.execResultComplete t sock s
  | .interruptEntry t => Sys2Proof.Machine.execInterruptEntry t s
  | .contextSwitchEntry t => Sys2Proof.Machine.execContextSwitchEntry t s
  | .op4Stage t => Sys2Proof.Machine.execOp4Stage t s
  | .maccWrite t => Sys2Proof.Machine.execMaccWrite t s
  | .mxMacroStep t => Sys2Proof.Machine.execMxMacroStep t s
  | .rmwWrite t => Sys2Proof.Machine.execRmwWrite t s
  | .ringUpdate t => Sys2Proof.Machine.execRingUpdate t s
  | .streamFill t k => Sys2Proof.Machine.execStreamFill t k s
  | .farLoadReply t n => Sys2Proof.Machine.execFarLoadReply t n s
  | .farStoreAck t n => Sys2Proof.Machine.execFarStoreAck t n s
  | .farAccessAtHome t n ext => Sys2Proof.Machine.execFarAccessAtHome t n ext s
  | .demandResolved asid vpn active => Sys2Proof.Machine.execDemandResolved asid vpn active s
  | .zeroingDone asid vpn => Sys2Proof.Machine.execZeroingDone asid vpn s
  | .copyGroupLand t n => Sys2Proof.Machine.execCopyGroupLand t n s
  | .escapementRelease l => Sys2Proof.Machine.execEscapementRelease l s
  | .initialRelease l => Sys2Proof.Machine.execInitialRelease l s
  | .dmaGranuleDone t n g ext => Sys2Proof.Machine.execDmaGranuleDone t n g ext s
  | .layoutAdmit die eng => Sys2Proof.Machine.execLayoutAdmit die eng s
  | .layoutElementWrite die eng n e ext => Sys2Proof.Machine.execLayoutElementWrite die eng n e ext s
  | .spawnAnswer t => Sys2Proof.Machine.execSpawnAnswer t s
  | .spawnTargetStart t => Sys2Proof.Machine.execSpawnTargetStart t s
  | .waddrTimeout t => Sys2Proof.Machine.execWaddrTimeout t s
  | .balPhaseUpdate t => Sys2Proof.Machine.execBalPhaseUpdate t s
  | .balHaloLand t n => Sys2Proof.Machine.execBalHaloLand t n s
  | .balBarrierRelease t => Sys2Proof.Machine.execBalBarrierRelease t s
  | .balReadoutLand t n => Sys2Proof.Machine.execBalReadoutLand t n s
  | .fverifyDone t n => Sys2Proof.Machine.execFverifyDone t n s
  | .mextendDone t n => Sys2Proof.Machine.execMextendDone t n s
  | .keyldDone t n => Sys2Proof.Machine.execKeyldDone t n s
  | .cuJmp m => Sys2Proof.Machine.execCuJmp m s
  | .cuJrel m => Sys2Proof.Machine.execCuJrel m s
  | .cuJtab m => Sys2Proof.Machine.execCuJtab m s
  | .cuCall m => Sys2Proof.Machine.execCuCall m s
  | .cuCallrel m => Sys2Proof.Machine.execCuCallrel m s
  | .cuCalltab m => Sys2Proof.Machine.execCuCalltab m s
  | .cuRet m => Sys2Proof.Machine.execCuRet m s
  | .cuLoop m => Sys2Proof.Machine.execCuLoop m s
  | .cuLoopi m => Sys2Proof.Machine.execCuLoopi m s
  | .cuLoopnext m => Sys2Proof.Machine.execCuLoopnext m s
  | .cuLoopexit m => Sys2Proof.Machine.execCuLoopexit m s
  | .cuNextwork m => Sys2Proof.Machine.execCuNextwork m s
  | .cuSync m => Sys2Proof.Machine.execCuSync m s
  | .cuHalt m => Sys2Proof.Machine.execCuHalt m s
  | .cuTrap m => Sys2Proof.Machine.execCuTrap m s
  | .cuBrk m => Sys2Proof.Machine.execCuBrk m s
  | .cuLoopidx m => Sys2Proof.Machine.execCuLoopidx m s
  | .cuLoopcnt m => Sys2Proof.Machine.execCuLoopcnt m s
  | .iaAdd u m => Sys2Proof.Machine.execIaAdd u m s
  | .iaSub u m => Sys2Proof.Machine.execIaSub u m s
  | .iaAdds u m => Sys2Proof.Machine.execIaAdds u m s
  | .iaSubs u m => Sys2Proof.Machine.execIaSubs u m s
  | .iaAnd u m => Sys2Proof.Machine.execIaAnd u m s
  | .iaOr u m => Sys2Proof.Machine.execIaOr u m s
  | .iaXor u m => Sys2Proof.Machine.execIaXor u m s
  | .iaAndn u m => Sys2Proof.Machine.execIaAndn u m s
  | .iaShl u m => Sys2Proof.Machine.execIaShl u m s
  | .iaShr u m => Sys2Proof.Machine.execIaShr u m s
  | .iaSar u m => Sys2Proof.Machine.execIaSar u m s
  | .iaRol u m => Sys2Proof.Machine.execIaRol u m s
  | .iaMin u m => Sys2Proof.Machine.execIaMin u m s
  | .iaMax u m => Sys2Proof.Machine.execIaMax u m s
  | .iaMinu u m => Sys2Proof.Machine.execIaMinu u m s
  | .iaMaxu u m => Sys2Proof.Machine.execIaMaxu u m s
  | .iaEq u m => Sys2Proof.Machine.execIaEq u m s
  | .iaNe u m => Sys2Proof.Machine.execIaNe u m s
  | .iaLt u m => Sys2Proof.Machine.execIaLt u m s
  | .iaLtu u m => Sys2Proof.Machine.execIaLtu u m s
  | .iaLe u m => Sys2Proof.Machine.execIaLe u m s
  | .iaLeu u m => Sys2Proof.Machine.execIaLeu u m s
  | .iaSel u m => Sys2Proof.Machine.execIaSel u m s
  | .iaClz u m => Sys2Proof.Machine.execIaClz u m s
  | .iaPopc u m => Sys2Proof.Machine.execIaPopc u m s
  | .iaBfx u m => Sys2Proof.Machine.execIaBfx u m s
  | .mdMul m => Sys2Proof.Machine.execMdMul m s
  | .mdMulh m => Sys2Proof.Machine.execMdMulh m s
  | .mdMulhu m => Sys2Proof.Machine.execMdMulhu m s
  | .mdMac m => Sys2Proof.Machine.execMdMac m s
  | .mdDiv m => Sys2Proof.Machine.execMdDiv m s
  | .mdDivu m => Sys2Proof.Machine.execMdDivu m s
  | .mdRem m => Sys2Proof.Machine.execMdRem m s
  | .mdRemu m => Sys2Proof.Machine.execMdRemu m s
  | .agLea m => Sys2Proof.Machine.execAgLea m s
  | .agLeas m => Sys2Proof.Machine.execAgLeas m s
  | .agSeg m => Sys2Proof.Machine.execAgSeg m s
  | .agSegh m => Sys2Proof.Machine.execAgSegh m s
  | .agSegchk m => Sys2Proof.Machine.execAgSegchk m s
  | .agTid m => Sys2Proof.Machine.execAgTid m s
  | .agTwin m => Sys2Proof.Machine.execAgTwin m s
  | .agInc m => Sys2Proof.Machine.execAgInc m s
  | .agIncw m => Sys2Proof.Machine.execAgIncw m s
  | .agBcyc m => Sys2Proof.Machine.execAgBcyc m s
  | .agIlv m => Sys2Proof.Machine.execAgIlv m s
  | .agFmode m => Sys2Proof.Machine.execAgFmode m s
  | .lsLdb m => Sys2Proof.Machine.execLsLdb m s
  | .lsLdbs m => Sys2Proof.Machine.execLsLdbs m s
  | .lsLdh m => Sys2Proof.Machine.execLsLdh m s
  | .lsLdhs m => Sys2Proof.Machine.execLsLdhs m s
  | .lsLdw m => Sys2Proof.Machine.execLsLdw m s
  | .lsLdd m => Sys2Proof.Machine.execLsLdd m s
  | .lsLdv m => Sys2Proof.Machine.execLsLdv m s
  | .lsLdvt m => Sys2Proof.Machine.execLsLdvt m s
  | .lsLdwa m => Sys2Proof.Machine.execLsLdwa m s
  | .lsLdda m => Sys2Proof.Machine.execLsLdda m s
  | .lsStb m => Sys2Proof.Machine.execLsStb m s
  | .lsSth m => Sys2Proof.Machine.execLsSth m s
  | .lsStw m => Sys2Proof.Machine.execLsStw m s
  | .lsStd m => Sys2Proof.Machine.execLsStd m s
  | .lsStv m => Sys2Proof.Machine.execLsStv m s
  | .lsStvm m => Sys2Proof.Machine.execLsStvm m s
  | .lsStwr m => Sys2Proof.Machine.execLsStwr m s
  | .lsStdr m => Sys2Proof.Machine.execLsStdr m s
  | .lsScfg m => Sys2Proof.Machine.execLsScfg m s
  | .lsSstop m => Sys2Proof.Machine.execLsSstop m s
  | .lsRingacq m => Sys2Proof.Machine.execLsRingacq m s
  | .lsRingrel m => Sys2Proof.Machine.execLsRingrel m s
  | .lsRmwadd m => Sys2Proof.Machine.execLsRmwadd m s
  | .lsRmwswap m => Sys2Proof.Machine.execLsRmwswap m s
  | .lsRmwcas m => Sys2Proof.Machine.execLsRmwcas m s
  | .lsRmwmin m => Sys2Proof.Machine.execLsRmwmin m s
  | .lsRmwmax m => Sys2Proof.Machine.execLsRmwmax m s
  | .lsRmwor m => Sys2Proof.Machine.execLsRmwor m s
  | .vuFadd m => Sys2Proof.Machine.execVuFadd m s
  | .vuFsub m => Sys2Proof.Machine.execVuFsub m s
  | .vuFmul m => Sys2Proof.Machine.execVuFmul m s
  | .vuFma m => Sys2Proof.Machine.execVuFma m s
  | .vuFmin m => Sys2Proof.Machine.execVuFmin m s
  | .vuFmax m => Sys2Proof.Machine.execVuFmax m s
  | .vuFdiv m => Sys2Proof.Machine.execVuFdiv m s
  | .vuFsqrt m => Sys2Proof.Machine.execVuFsqrt m s
  | .vuFrcp m => Sys2Proof.Machine.execVuFrcp m s
  | .vuFrsq m => Sys2Proof.Machine.execVuFrsq m s
  | .vuFexp2 m => Sys2Proof.Machine.execVuFexp2 m s
  | .vuFlog2 m => Sys2Proof.Machine.execVuFlog2 m s
  | .vuFrnd m => Sys2Proof.Machine.execVuFrnd m s
  | .vuFcmpeq m => Sys2Proof.Machine.execVuFcmpeq m s
  | .vuFcmplt m => Sys2Proof.Machine.execVuFcmplt m s
  | .vuFcmple m => Sys2Proof.Machine.execVuFcmple m s
  | .vuVadd m => Sys2Proof.Machine.execVuVadd m s
  | .vuVsub m => Sys2Proof.Machine.execVuVsub m s
  | .vuVadds m => Sys2Proof.Machine.execVuVadds m s
  | .vuVsubs m => Sys2Proof.Machine.execVuVsubs m s
  | .vuVmul m => Sys2Proof.Machine.execVuVmul m s
  | .vuVand m => Sys2Proof.Machine.execVuVand m s
  | .vuVor m => Sys2Proof.Machine.execVuVor m s
  | .vuVxor m => Sys2Proof.Machine.execVuVxor m s
  | .vuVshl m => Sys2Proof.Machine.execVuVshl m s
  | .vuVshr m => Sys2Proof.Machine.execVuVshr m s
  | .vuVsar m => Sys2Proof.Machine.execVuVsar m s
  | .vuVmin m => Sys2Proof.Machine.execVuVmin m s
  | .vuVmax m => Sys2Proof.Machine.execVuVmax m s
  | .vuVcmpeq m => Sys2Proof.Machine.execVuVcmpeq m s
  | .vuVcmplt m => Sys2Proof.Machine.execVuVcmplt m s
  | .vuCvtif m => Sys2Proof.Machine.execVuCvtif m s
  | .vuCvtfi m => Sys2Proof.Machine.execVuCvtfi m s
  | .vuCvtfh m => Sys2Proof.Machine.execVuCvtfh m s
  | .vuCvtfb m => Sys2Proof.Machine.execVuCvtfb m s
  | .vuCvthf m => Sys2Proof.Machine.execVuCvthf m s
  | .vuCvtbf m => Sys2Proof.Machine.execVuCvtbf m s
  | .vuPacki8 m => Sys2Proof.Machine.execVuPacki8 m s
  | .vuUnpki8 m => Sys2Proof.Machine.execVuUnpki8 m s
  | .vuVperm m => Sys2Proof.Machine.execVuVperm m s
  | .vuVbcast m => Sys2Proof.Machine.execVuVbcast m s
  | .vuRsum m => Sys2Proof.Machine.execVuRsum m s
  | .vuRmax m => Sys2Proof.Machine.execVuRmax m s
  | .mxOp4 m => Sys2Proof.Machine.execMxOp4 m s
  | .mxOp4z m => Sys2Proof.Machine.execMxOp4z m s
  | .mxOp4d m => Sys2Proof.Machine.execMxOp4d m s
  | .mxOp4i m => Sys2Proof.Machine.execMxOp4i m s
  | .mxOp4s m => Sys2Proof.Machine.execMxOp4s m s
  | .mxAcrd m => Sys2Proof.Machine.execMxAcrd m s
  | .mxAcclr m => Sys2Proof.Machine.execMxAcclr m s
  | .mxMma16 m => Sys2Proof.Machine.execMxMma16 m s
  | .mxMma16d m => Sys2Proof.Machine.execMxMma16d m s
  | .mxMma16i m => Sys2Proof.Machine.execMxMma16i m s
  | .mxMma16s m => Sys2Proof.Machine.execMxMma16s m s
  | .mxMrow m => Sys2Proof.Machine.execMxMrow m s
  | .mxMcol m => Sys2Proof.Machine.execMxMcol m s
  | .mxMrowr m => Sys2Proof.Machine.execMxMrowr m s
  | .mxMcolr m => Sys2Proof.Machine.execMxMcolr m s
  | .mxMacc m => Sys2Proof.Machine.execMxMacc m s
  | .mxMzero m => Sys2Proof.Machine.execMxMzero m s
  | .mxMld m => Sys2Proof.Machine.execMxMld m s
  | .mxMst m => Sys2Proof.Machine.execMxMst m s
  | .mxMfmt m => Sys2Proof.Machine.execMxMfmt m s
  | .chSend m => Sys2Proof.Machine.execChSend m s
  | .chHalo m => Sys2Proof.Machine.execChHalo m s
  | .chSpawn m => Sys2Proof.Machine.execChSpawn m s
  | .chFld m => Sys2Proof.Machine.execChFld m s
  | .chFldv m => Sys2Proof.Machine.execChFldv m s
  | .chFst m => Sys2Proof.Machine.execChFst m s
  | .chFstv m => Sys2Proof.Machine.execChFstv m s
  | .chFstm m => Sys2Proof.Machine.execChFstm m s
  | .chFstred m => Sys2Proof.Machine.execChFstred m s
  | .chBadd m => Sys2Proof.Machine.execChBadd m s
  | .chBaddf m => Sys2Proof.Machine.execChBaddf m s
  | .chBaddh m => Sys2Proof.Machine.execChBaddh m s
  | .chBmin m => Sys2Proof.Machine.execChBmin m s
  | .chBmax m => Sys2Proof.Machine.execChBmax m s
  | .chBand m => Sys2Proof.Machine.execChBand m s
  | .chBor m => Sys2Proof.Machine.execChBor m s
  | .chBxor m => Sys2Proof.Machine.execChBxor m s
  | .chBswap m => Sys2Proof.Machine.execChBswap m s
  | .chBcas m => Sys2Proof.Machine.execChBcas m s
  | .chBcasd m => Sys2Proof.Machine.execChBcasd m s
  | .chBred m => Sys2Proof.Machine.execChBred m s
  | .chDma m => Sys2Proof.Machine.execChDma m s
  | .chDmaw m => Sys2Proof.Machine.execChDmaw m s
  | .chLayout m => Sys2Proof.Machine.execChLayout m s
  | .chColl m => Sys2Proof.Machine.execChColl m s
  | .chCcset m => Sys2Proof.Machine.execChCcset m s
  | .chCcwait m => Sys2Proof.Machine.execChCcwait m s
  | .chCcclr m => Sys2Proof.Machine.execChCcclr m s
  | .chMbclr m => Sys2Proof.Machine.execChMbclr m s
  | .chMbwait m => Sys2Proof.Machine.execChMbwait m s
  | .chWaddr m => Sys2Proof.Machine.execChWaddr m s
  | .balLoad m => Sys2Proof.Machine.execBalLoad m s
  | .balSeed m => Sys2Proof.Machine.execBalSeed m s
  | .balBeta m => Sys2Proof.Machine.execBalBeta m s
  | .balClamp m => Sys2Proof.Machine.execBalClamp m s
  | .balUnclamp m => Sys2Proof.Machine.execBalUnclamp m s
  | .balSweep m => Sys2Proof.Machine.execBalSweep m s
  | .balRdspin m => Sys2Proof.Machine.execBalRdspin m s
  | .balRdmarg m => Sys2Proof.Machine.execBalRdmarg m s
  | .balClrmarg m => Sys2Proof.Machine.execBalClrmarg m s
  | .balSeedrng m => Sys2Proof.Machine.execBalSeedrng m s
  | .balGroup m => Sys2Proof.Machine.execBalGroup m s
  | .balLink m => Sys2Proof.Machine.execBalLink m s
  | .balStateRead m => Sys2Proof.Machine.execBalStateRead m s
  | .balSpin m => Sys2Proof.Machine.execBalSpin m s
  | .syCrd m => Sys2Proof.Machine.execSyCrd m s
  | .syCrw m => Sys2Proof.Machine.execSyCrw m s
  | .syCrs m => Sys2Proof.Machine.execSyCrs m s
  | .syCrc m => Sys2Proof.Machine.execSyCrc m s
  | .syFence m => Sys2Proof.Machine.execSyFence m s
  | .syFencei m => Sys2Proof.Machine.execSyFencei m s
  | .syRel m => Sys2Proof.Machine.execSyRel m s
  | .syAcq m => Sys2Proof.Machine.execSyAcq m s
  | .syChkerr m => Sys2Proof.Machine.execSyChkerr m s
  | .syTret m => Sys2Proof.Machine.execSyTret m s
  | .syCnt m => Sys2Proof.Machine.execSyCnt m s
  | .syCntcfg m => Sys2Proof.Machine.execSyCntcfg m s
  | .syPend m => Sys2Proof.Machine.execSyPend m s
  | .syIntack m => Sys2Proof.Machine.execSyIntack m s
  | .kyShinit m => Sys2Proof.Machine.execKyShinit m s
  | .kyAbsorb m => Sys2Proof.Machine.execKyAbsorb m s
  | .kySqueeze m => Sys2Proof.Machine.execKySqueeze m s
  | .kyFverify m => Sys2Proof.Machine.execKyFverify m s
  | .kyMextend m => Sys2Proof.Machine.execKyMextend m s
  | .kyKeyld m => Sys2Proof.Machine.execKyKeyld m s
  | .kyKeyclr m => Sys2Proof.Machine.execKyKeyclr m s
  | .kyFuserd m => Sys2Proof.Machine.execKyFuserd m s
  | .qsRingrd m => Sys2Proof.Machine.execQsRingrd m s
  | .qsRingadv m => Sys2Proof.Machine.execQsRingadv m s
  | .qsHeadpub m => Sys2Proof.Machine.execQsHeadpub m s
  | .qsEnq m => Sys2Proof.Machine.execQsEnq m s
  | .qsDeq m => Sys2Proof.Machine.execQsDeq m s
  | .qsQstat m => Sys2Proof.Machine.execQsQstat m s
  | .ringPoll q => Sys2Proof.Machine.execRingPoll q s
  | .ringNudge q => Sys2Proof.Machine.execRingNudge q s
  | .queueSliceExpiry k => Sys2Proof.Machine.execQueueSliceExpiry k s
  | .launchPacket q => Sys2Proof.Machine.execLaunchPacket q s
  | .writePacket q => Sys2Proof.Machine.execWritePacket q s
  | .signalPacket q => Sys2Proof.Machine.execSignalPacket q s
  | .writeSignalPacket q => Sys2Proof.Machine.execWriteSignalPacket q s
  | .waitPacket q => Sys2Proof.Machine.execWaitPacket q s
  | .loadcodePacket q => Sys2Proof.Machine.execLoadcodePacket q s
  | .fencePacket q => Sys2Proof.Machine.execFencePacket q s
  | .timetablePacket q => Sys2Proof.Machine.execTimetablePacket q s
  | .waitPoll q => Sys2Proof.Machine.execWaitPoll q s
  | .waitTimeout q => Sys2Proof.Machine.execWaitTimeout q s
  | .fencePacketDone q => Sys2Proof.Machine.execFencePacketDone q s
  | .dependencePoll l d => Sys2Proof.Machine.execDependencePoll l d s
  | .startTickCheck l => Sys2Proof.Machine.execStartTickCheck l s
  | .launchPlace l => Sys2Proof.Machine.execLaunchPlace l s
  | .launchReservation l => Sys2Proof.Machine.execLaunchReservation l s
  | .slicePreempt l => Sys2Proof.Machine.execSlicePreempt l s
  | .swapOutComplete l => Sys2Proof.Machine.execSwapOutComplete l s
  | .launchRestore l => Sys2Proof.Machine.execLaunchRestore l s
  | .launchComplete l => Sys2Proof.Machine.execLaunchComplete l s
  | .launchAbort q handle => Sys2Proof.Machine.execLaunchAbort q handle s
  | .ringCtlWrite q v => Sys2Proof.Machine.execRingCtlWrite q v s
  | .ringExpWrite q v => Sys2Proof.Machine.execRingExpWrite q v s
  | .crnRegisterWrite addr n v => Sys2Proof.Machine.execCrnRegisterWrite addr n v s
  | .xlLiveWrite v => Sys2Proof.Machine.execXlLiveWrite v s
  | .xlGenerationRaise asid => Sys2Proof.Machine.execXlGenerationRaise asid s
  | .xlCacheFlush => Sys2Proof.Machine.execXlCacheFlush s
  | .generationRaiseDone => Sys2Proof.Machine.execGenerationRaiseDone s
  | .migrationGo v => Sys2Proof.Machine.execMigrationGo v s
  | .migrationCopy => Sys2Proof.Machine.execMigrationCopy s
  | .migrationForward => Sys2Proof.Machine.execMigrationForward s
  | .migrationDone => Sys2Proof.Machine.execMigrationDone s
  | .demandAck => Sys2Proof.Machine.execDemandAck s
  | .ualinkRequestIn p r => Sys2Proof.Machine.execUalinkRequestIn p r s
  | .keyPhaseExpiry owner => Sys2Proof.Machine.execKeyPhaseExpiry owner s
  | .collBegin q => Sys2Proof.Machine.execCollBegin q s
  | .collChunkLand q rank chunk ext => Sys2Proof.Machine.execCollChunkLand q rank chunk ext s
  | .brGroupWrite q v => Sys2Proof.Machine.execBrGroupWrite q v s
  | .windowActivate w => Sys2Proof.Machine.execWindowActivate w s
  | .windowRevokeStart w => Sys2Proof.Machine.execWindowRevokeStart w s
  | .revocationApply w home => Sys2Proof.Machine.execRevocationApply w home s
  | .revocationComplete w => Sys2Proof.Machine.execRevocationComplete w s
  | .windowFree w => Sys2Proof.Machine.execWindowFree w s
  | .windowExportCmd owner => Sys2Proof.Machine.execWindowExportCmd owner s
  | .windowRevokeCmd owner => Sys2Proof.Machine.execWindowRevokeCmd owner s
  | .hdmCtlWrite k v => Sys2Proof.Machine.execHdmCtlWrite k v s
  | .brPortRetryClear p => Sys2Proof.Machine.execBrPortRetryClear p s
  | .grperrClear => Sys2Proof.Machine.execGrperrClear s
  | .hostCxlMemAccess k hpa wr ext => Sys2Proof.Machine.execHostCxlMemAccess k hpa wr ext s
  | .fenceGo f reason => Sys2Proof.Machine.execFenceGo f reason s
  | .fenceComplete f => Sys2Proof.Machine.execFenceComplete f s
  | .autoFence l f => Sys2Proof.Machine.execAutoFence l f s
  | .tileParityError t => Sys2Proof.Machine.execTileParityError t s
  | .scrubRead m a e => Sys2Proof.Machine.execScrubRead m a e s
  | .edgeDown e => Sys2Proof.Machine.execEdgeDown e s
  | .linkRetryReport src link count => Sys2Proof.Machine.execLinkRetryReport src link count s
  | .cxlLinkFail => Sys2Proof.Machine.execCxlLinkFail s
  | .twinCompare t => Sys2Proof.Machine.execTwinCompare t s
  | .twinHoldTimeout t => Sys2Proof.Machine.execTwinHoldTimeout t s
  | .selftestDone t pass => Sys2Proof.Machine.execSelftestDone t pass s
  | .retirementMapWrite d bits => Sys2Proof.Machine.execRetirementMapWrite d bits s
  | .moduleReset => Sys2Proof.Machine.execModuleReset s
  | .bringupCheckDone fn pass => Sys2Proof.Machine.execBringupCheckDone fn pass s
  | .pllLockLoss d => Sys2Proof.Machine.execPllLockLoss d s
  | .thermalTrip d temp => Sys2Proof.Machine.execThermalTrip d temp s
  | .overtempPowerOff d temp => Sys2Proof.Machine.execOvertempPowerOff d temp s
  | .dialTick => Sys2Proof.Machine.execDialTick s
  | .ppsInEdge => Sys2Proof.Machine.execPpsInEdge s
  | .dialAdjWrite v => Sys2Proof.Machine.execDialAdjWrite v s
  | .dialStep n => Sys2Proof.Machine.execDialStep n s
  | .standbyReset => Sys2Proof.Machine.execStandbyReset s
  | .standbyBoot img => Sys2Proof.Machine.execStandbyBoot img s
  | .bootRomDone => Sys2Proof.Machine.execBootRomDone s
  | .handoverGo v => Sys2Proof.Machine.execHandoverGo v s
  | .handoverAbort => Sys2Proof.Machine.execHandoverAbort s
  | .handoverDone => Sys2Proof.Machine.execHandoverDone s
  | .heartbeat => Sys2Proof.Machine.execHeartbeat s
  | .handoverTimeout => Sys2Proof.Machine.execHandoverTimeout s
  | .heartbeatHang => Sys2Proof.Machine.execHeartbeatHang s
  | .arbWrite n => Sys2Proof.Machine.execArbWrite n s
  | .idSignGo => Sys2Proof.Machine.execIdSignGo s
  | .idSignDone => Sys2Proof.Machine.execIdSignDone s
  | .stage img => Sys2Proof.Machine.execStage img s
  | .activate => Sys2Proof.Machine.execActivate s
  | .setret map => Sys2Proof.Machine.execSetret map s
  | .setpod digest => Sys2Proof.Machine.execSetpod digest s
  | .info => Sys2Proof.Machine.execInfo s
  | .spdmRequest r => Sys2Proof.Machine.execSpdmRequest r s
  | .setFabricKey session owner key => Sys2Proof.Machine.execSetFabricKey session owner key s
  | .clearFabricKey session owner => Sys2Proof.Machine.execClearFabricKey session owner s
  | .ualinkPortTrainingDone p up => Sys2Proof.Machine.execUalinkPortTrainingDone p up s
  | .ualinkPortFailure p => Sys2Proof.Machine.execUalinkPortFailure p s
  | .thermalTripClear d temp => Sys2Proof.Machine.execThermalTripClear d temp s
  | .hostSnoopResponse line => Sys2Proof.Machine.execHostSnoopResponse line s
  | .msixVector0Repeat => Sys2Proof.Machine.execMsixVector0Repeat s

end Sys2Proof.Machine
end

