-- ==== Sys2Proof/Machine/Due.lean ====
section
/-! DEFINITION. The steps of hardware whose cycle the specification fixes, in the order in which they take place within a
cycle: first what completes at its start, then what issues, then what takes effect at its end. -/

namespace Sys2Proof.Machine

/-- A step that is due. -/
inductive Due where
  | result (key sock : Nat)
  | macroOp (key : Nat)
  | dial
  | handover
  | hang
  | startTick (l : Nat)
  | waddr (key : Nat)
  | initial (l : Nat)
  | release (l : Nat)
  | interrupt (key : Nat)
  | switch (key : Nat)
  | layout (eng : Nat)
  | issue (key : Nat)
  | ring (key : Nat)
  | op4 (key : Nat)
  | macc (key : Nat)
  | rmw (key : Nat)
  | fill (key k : Nat)
  | land (key i : Nat)
  | readout (key i : Nat)
  | halo (key i : Nat)
  | balUpdate (key : Nat)
  | balRelease (key : Nat)
  | spawnAnswer (key : Nat)
  deriving DecidableEq, Repr

/-- The first tile of which `f` answers. -/
def State.firstTile {α : Type} (s : State) (f : Nat → Tile → Option α) : Option α := s.tiles.findSome? fun t => f t.1 t.2

/-- The first launch of which `p` holds. -/
def State.firstLaunch (s : State) (p : Launch → Bool) : Option Nat := (s.launches.find? fun l => p l.2).map Prod.fst

/-- `d` if the condition holds. -/
def dueIf (c : Bool) (d : Due) : Option Due := if c then some d else none

/-! ### The start of a cycle -/

/-- A tile's results and macro operation that complete (R104, R257), and its `waddr` limit (R319). -/
def Tile.dueStart (clk key : Nat) (t : Tile) : Option Due :=
  match (upTo 13).find? fun k => t.resultDue k clk with
  | some k => some (.result key k)
  | none =>
    if t.macroEnds clk then some (.macroOp key)
    else dueIf (match t.waddrAt with | some d => decide (d ≤ clk) | none => false) (.waddr key)

/-- What is due at the start of a cycle. -/
def State.dueStart (s : State) : Option Due :=
  if tickUnits ≤ s.bu.dialAcc then some .dial
  else if s.handoverDue then some .handover
  else if s.hangDue then some .hang
  else match s.firstTile (Tile.dueStart s.clk) with
    | some d => some d
    | none =>
      match s.firstLaunch fun l => s.startDue l with
      | some l => some (.startTick l)
      | none =>
        match s.firstLaunch s.initialDue with
        | some l => some (.initial l)
        | none => (s.firstLaunch s.releaseDue).map .release

/-! ### Issue -/

/-- A tile's bundle issues in this cycle. A tile in supervisor mode whose supervisor has no image waits for the supplied
one (R407); one that stands at its switch point waits for the switch (R75). -/
def State.issueDue (s : State) (key : Nat) (t : Tile) : Bool :=
  s.canIssue key && !(t.sup && !isCrown key && s.fw.supImage.isEmpty) &&
    (match t.switchStop s.clk with
    | none => true
    | some .arrival => true
    | some _ => s.isDual key)

/-- An engine takes up a waiting tile, which tries its bundle in this cycle (R330). -/
def State.admitDue (s : State) (k : Nat) : Bool :=
  (s.engine k).ready s.clk && (s.waiters k).any (s.waiterReady k)

/-- The engines for which a tile has commands of a DUAL launch (R337). -/
def State.dualWaits (s : State) (key : Nat) : List Nat :=
  (s.engines.filter fun e => e.2.dualQ.any fun c => decide (c.tile = key)).map Prod.fst

/-- What is due between the bundles and as a bundle (R44, R74–R77, R102). -/
def State.dueIssue (s : State) : Option Due :=
  match s.firstTile fun k _ => if (s.switchDue k).isSome then some (Due.switch k) else none with
  | some d => some d
  | none =>
    match s.firstTile fun k t => (t.layoutWait.toList ++ s.dualWaits k).findSome? fun e =>
        if s.admitDue e then some (Due.layout e) else none with
    | some d => some d
    | none => s.firstTile fun k t => dueIf (s.issueDue k t) (.issue k)

/-! ### The end of a cycle -/

/-- The later cycles of a tile's own operations. -/
def Tile.dueEnd (clk key : Nat) (t : Tile) : Option Due :=
  if t.rings.any fun r => decide (r.cyc < clk) then some (.ring key)
  else if t.op4s.any fun o => decide (o.stageAt ≤ clk) then some (.op4 key)
  else if t.maccs.any fun a => decide (a.cyc < clk) then some (.macc key)
  else if t.macroDue clk then some (.macroOp key)
  else if !(t.rmwDue (clk - 1)).isEmpty then some (.rmw key)
  else (t.fillDue clk).map (Due.fill key)

/-- The cycle in which a copy whose next group can land now first reached its destination's ingress (R307). -/
def State.landingAt (s : State) (key : Nat) (c : CopyReq) : Option Nat :=
  if s.copyDue key c then some (c.start + c.travel) else none

/-- Of the copies that can land a group now, the one that reached the ingress first: a conflict delays the later copy
alone (R307). -/
def State.nextLanding (s : State) : Option (Nat × Nat × Nat) :=
  s.tiles.foldl (fun m t => t.2.copies.foldl (fun m c =>
    match s.landingAt t.1 c, m with
    | none, _ => m
    | some a, none => some (a, t.1, c.id)
    | some a, some b => if a < b.1 then some (a, t.1, c.id) else some b) m) none

/-- A readout's next group lands now (R352). -/
def Tile.readoutDue (t : Tile) (clk : Nat) : Option Nat :=
  (t.copies.find? fun c => decide (c.kind = .readout) && (match c.arrived clk with
    | none => false
    | some (o, bs) => !t.rmwHolds clk (c.dst + o) bs.length && !t.storeHeld (c.dst + o) bs.length)).map fun c => c.id

/-- A halo spin of a tile lands now (R344). -/
def State.haloDue (s : State) (key : Nat) (t : Tile) : Option Nat :=
  (upTo t.bal.sends.length).find? fun i => match t.bal.sends[i]? with
    | none => false
    | some h => decide (h.landAt ≤ s.clk) && !(s.isDual key && !t.compared h.msg)

/-- A colour phase of a tile is updated now (R347). -/
def Tile.phaseDue (t : Tile) (clk : Nat) : Bool :=
  match t.bal.sweep with
  | some w => decide (w.stage = .updating) && decide (w.updateAt ≤ clk) && decide (w.begun ≤ clk) && t.launch.isSome
  | none => false

/-- The colour barrier of a tile's group releases now (R347). -/
def State.barrierDue (s : State) (key : Nat) (t : Tile) : Bool :=
  t.balSince.isSome && t.bal.sweep.isSome &&
    (match t.launch.bind s.launch? with
      | none => false
      | some l => match s.balRelease? key l with
        | none => false
        | some r => decide (r ≤ s.clk))

/-- The target's router decides a tile's spawn request now (R310). -/
def State.spawnDue (s : State) (key : Nat) (t : Tile) : Bool :=
  !s.isTwin key && t.spawns.any (s.spawnArrived key)

/-- Of spawn requests that reach routers in one cycle, no rule says which is decided first (R72). -/
def State.nextSpawn (s : State) : Option Nat :=
  let l := (s.tiles.filter fun t => s.spawnDue t.1 t.2).map Prod.fst
  if Config.freeBit s.free then l.head? else l.getLast?

/-- What the Balance of a tile has due. -/
def State.dueBal (s : State) (key : Nat) (t : Tile) : Option Due :=
  match t.readoutDue s.clk with
  | some i => some (.readout key i)
  | none =>
    match s.haloDue key t with
    | some i => some (.halo key i)
    | none =>
      if t.phaseDue s.clk && !s.egressFull key && (t.launch.bind s.launch?).isSome then some (.balUpdate key)
      else dueIf (s.barrierDue key t) (.balRelease key)

/-- What is due at the end of a cycle. -/
def State.dueEnd (s : State) : Option Due :=
  match s.firstTile (Tile.dueEnd s.clk) with
  | some d => some d
  | none =>
    match s.nextLanding with
    | some (_, k, i) => some (.land k i)
    | none =>
      match s.firstTile s.dueBal with
      | some d => some d
      | none => if s.tiles.any fun t => s.spawnDue t.1 t.2 then s.nextSpawn.map .spawnAnswer else none

/-- An interrupt is taken before what completes in its cycle: a result due then is in flight with countdown 0 (R40, R548). -/
def State.dueInterrupt (s : State) : Option Due := s.firstTile fun k t => dueIf (t.interruptDue s.clk) (.interrupt k)

/-- The next step that is due in this cycle. -/
def State.due (s : State) : Option Due :=
  match s.dueInterrupt with
  | some d => some d
  | none =>
  match s.dueStart with
  | some d => some d
  | none =>
    match s.dueIssue with
    | some d => some d
    | none => s.dueEnd

end Sys2Proof.Machine
end

