-- ==== Sys2Proof/Machine/Supervisor.lean ====
section
/-! DEFINITION. The supervisor supplied with the module (R407): what it does at each entry, as one step. It stands in
where no supervisor image has been given to the tiles; with an image, the tiles run the image. -/

namespace Sys2Proof.Machine

/-- The tile waits for the supplied supervisor. -/
def State.awaits (s : State) (key : Nat) : Bool :=
  let t := s.tile key
  t.sup && !t.dead && !t.fenced && !t.saved && !isCrown key && s.fw.supImage.isEmpty && decide (t.nextAt ≤ s.clk)

/-- The launch of a tile ends with PROGRAM_ERROR (R407, R571). -/
def State.programError (s : State) (key : Nat) (tcause : Word) (tinfo : DWord) : State :=
  let t := s.tile key
  match t.launch with
  | none => s
  | some id => s.wish id stFenced { status := 0x27, tlin := BitVec.ofNat 32 t.tlin, tcause, tinfo }

/-- An interrupt source acknowledged (R365). -/
def Tile.ack (t : Tile) (i : Nat) : Tile := { t with pend := t.pend &&& ~~~((1 : BitVec 16) <<< i) }

/-- The supplied supervisor serves the entry of a tile (R407): MX_OWNER by R267; CROWN and CONTAIN acknowledged; MXFLUSH
flushed and acknowledged; DEBUG and every other trap end the launch. -/
def State.supervise (s : State) (key : Nat) : State :=
  let t := s.tile key
  if !s.awaits key then s
  else
    let cause := bits t.tcause.toNat 7 0
    let source := bits t.tcause.toNat 15 8
    if cause = Cause.mxOwner.code then (s.takeMx key).modTile key fun t => t.leaveSup s.clk
    else if cause = Cause.interrupt.code then
      if source = 1 then
        (s.flushMx key).modTile key fun t => ({ t with mxown := t.mxown &&& 0xFFFF }.ack 1).leaveSup s.clk
      else if source = 2 then (s.setTile key (t.ack 2)).programError key 0x00000201 0
      else s.setTile key ((t.ack source).leaveSup s.clk)
    else s.programError key t.tcause t.tinfo

end Sys2Proof.Machine
end

