-- ==== Sys2Proof/Machine/Tick.lean ====
section
/-! DEFINITION. The passage from one cycle to the next, and what is read at the start of a cycle. -/

namespace Sys2Proof.Machine

/-! ### Event counters (R367) -/

/-- The events that a tile counts for a cycle in which nothing else of it is counted: every cycle, GAP idle cycles, the
kinds of stall, ARRIVED. -/
def Tile.cycleEvents (t : Tile) (clk : Nat) : List Nat :=
  let idle := t.mayIssue && decide (t.stall = .none) && decide (t.intFrom ≤ clk) && decide (clk < t.idleEnd)
  [1] ++ (if idle then [3] else []) ++
    (if !t.mayIssue then [] else match t.stall with
      | .none => []
      | .locked => [4]
      | .late => [5]
      | .classW => [6]
      | .queue => []) ++
    if t.run = .arrived then [7] else []

/-- The counters at the end of a cycle: the cycle's events, then a `cntcfg` of the cycle. -/
def Tile.countCycle (t : Tile) (clk : Nat) : Tile :=
  let es := t.cycleEvents clk
  let cs := t.counters.map fun c =>
    if es.contains c.event.toNat && !(c.ponly && t.sup) then { c with val := c.val + 1 } else c
  match t.cntNew with
  | none => { t with counters := cs }
  | some (i, c) => { t with counters := vset cs i c, cntNew := none }

/-! ### The start of a cycle -/

/-- What a tile reads at the start of cycle `clk`: descriptors of its ring operations, words of its read-modify-writes, the
slots of a colour phase, a spin
image's second half; and older bytes that no fetch can meet any more are forgotten (R287, R343, R350, R394). -/
def Tile.startCycle (t : Tile) (clk : Nat) : Tile :=
  let capture (r : RingPend) : RingPend :=
    if r.words.isNone && decide (r.cyc + 1 = clk) then
      { r with words := some (t.ringWords r.addr), bad := t.poisoned r.addr 16 }
    else r
  let t := if t.rings.isEmpty then t else { t with rings := t.rings.map capture }
  let old (r : Rmw) : Rmw := if r.cyc + 1 = clk then { r with old := some (t.rmwRead r) } else r
  let t := if t.rmws.isEmpty then t else { t with rmws := (t.rmws.filter fun r => decide (clk ≤ r.cyc + 2)).map old }
  let t := if t.recent.isEmpty then t else { t with recent := t.recent.filter fun r => decide (clk < r.1 + 3) }
  ((t.balBegin clk).balHalf clk).balOld clk

/-- The words of `enq` that become visible in cycle `clk` join their queues, in order (R155, R372). -/
def State.joinQueues (s : State) (clk : Nat) : State :=
  { s with
    queues := (s.enqueued.filter fun e => decide (e.1 ≤ clk)).foldl
      (fun q e => tabSet q e.2.1 (tabGet [] q e.2.1 ++ [e.2.2])) s.queues
    enqueued := s.enqueued.filter fun e => !decide (e.1 ≤ clk) }

/-- The next cycle (R6, R536): the cycle is counted, the Dial's phase advances, and every tile reads what it reads at the
start of the new one. -/
def State.tick (s : State) : State :=
  let clk := s.clk + 1
  let tiles := s.tiles.map fun t => (t.1, (t.2.countCycle s.clk).startCycle clk)
  let s := { s with clk, tiles, bankOwnerWas := [], br := { s.br with rgownWas := [] }, 
                    bu := { s.bu with dialAcc := s.bu.dialAcc + s.bu.perClk, dialWas := none } }
  let s := ((s.tiles.map Prod.fst).foldl (fun s k => s.readCopies k) (s.joinQueues clk)).ualRetry.hostRetry
  let s := s.writeOwed s.rel.owed.length
  s.mbServe s.fw.mbQueue.length

end Sys2Proof.Machine
end

