-- ==== Sys2Proof/Machine/Advance.lean ====
section
/-! DEFINITION. What one step does: the fetch and issue of a bundle, a step of hardware that is due, an input of the agenda,
or the next cycle. -/

namespace Sys2Proof.Machine

/-- The instruction that a tile fetches: a row's, or the bundle as it stands, which BUNDLE_ISSUE takes to its trap. -/
def State.fetch (s : State) (key : Nat) : Instr :=
  let w := s.fetchWord key
  match decode w with
  | .ok i => i
  | .error _ => .bundleIssue (bundleOfBits w)

/-- The state in which a tile's bundle is executed: its turn, and one more free value used by the fetch (R394). -/
def State.turn (s : State) (key : Nat) : State :=
  { s.modTile key (fun t => { t with fetchedAt := s.fetchAt t }) with cur := key, free := s.free + 1 }

/-- A step of hardware that is due. -/
def State.runDue (s : State) (d : Due) : Host.Outcome State Fault Refusal :=
  match d with
  | .result k i => execResultComplete k i s
  | .macroOp k => execMxMacroStep k s
  | .dial => execDialTick s
  | .handover => execHandoverTimeout s
  | .hang => execHeartbeatHang s
  | .startTick l => execStartTickCheck l s
  | .waddr k => execWaddrTimeout k s
  | .initial l => execInitialRelease l s
  | .release l => execEscapementRelease l s
  | .interrupt k => execInterruptEntry k s
  | .switch k => execContextSwitchEntry k s
  | .layout e => execLayoutAdmit (e / 4) (e % 4) s
  | .issue k => exec (s.fetch k) (s.turn k)
  | .ring k => execRingUpdate k s
  | .op4 k => execOp4Stage k s
  | .macc k => execMaccWrite k s
  | .rmw k => execRmwWrite k s
  | .fill k i => execStreamFill k i s
  | .land k i => execCopyGroupLand k i s
  | .readout k i => execBalReadoutLand k i s
  | .halo k i => execBalHaloLand k i s
  | .balUpdate k => execBalPhaseUpdate k s
  | .balRelease k => execBalBarrierRelease k s
  | .spawnAnswer k => execSpawnAnswer k s

/-- A supervisor image is put into every tile (R54, R364). -/
def State.putSupervisor (s : State) (img : List Byte) : State :=
  let top := Memory.image supBase (img.take 4096)
  { s with
    fw := { s.fw with supImage := img }
    tiles := s.tiles.map fun t => if isCrown t.1 then t
      else (t.1, { t.2 with ls := (t.2.ls.filter fun c => decide (c.1 < supBase)) ++ top }) }

/-- The crown firmware makes CROWN or DEBUG pending in a tile, and in a DUAL launch in both of the pair (R364, R495, Table 15-1). -/
def State.requestInterrupt (s : State) (key i : Nat) : State :=
  let ks := match (s.tile key).launch.bind s.launch? with
    | some l => if l.dual then [l.tileOf (s.tile key).tlin, l.twinOf (s.tile key).tlin] else [key]
    | none => [key]
  if i = 0 ∨ i = 2 then s.modTiles ks fun t => { t with pend := t.pend ||| (1 <<< i) } else s

/-- A write of the memory that holds a context block (R45, R48). -/
def State.contextWrite (s : State) (id k o : Nat) (bs : List Byte) : State :=
  s.modCtx (some (id, k)) fun c => { c with block := c.block.splice o (bs.take (0x1C000 - o)) }

/-- What the agenda brings. -/
def State.input (s : State) (i : Input) : Host.Outcome State Fault Refusal :=
  match i with
  | .event e => exec e s
  | .hostWrite a bs => .next { s with host := s.host.write a bs }
  | .barWrite b o n v => .next (s.barWrite b o n v)
  | .supervisorImage img => .next (s.putSupervisor img)
  | .powerCycle => .next s.moduleReset
  | .interrupt t i => .next (s.requestInterrupt t i)
  | .contextWrite l k o bs => .next (s.contextWrite l k o bs)
  | .supervisor t => .next (s.supervise t)
  | .importTable => .next s.importTable
  | .exportTable o l => .next (s.exportTable o l)
  | .tilesFail d l => .next (s.tilesFail d l)
  | .deviceWrite d a bs => .next { s with pod := s.pod.write (d % 1024 * 2 ^ 52 + a % 2 ^ 52) bs }
  | .deviceStatus d st => .next { s with podDown := tabSet s.podDown (d % 1024) st }
  | .cxlLink up => .next { s with br := { s.br with cxlDown := !up } }
  | .contextArea o n => .next { s with ctxAreas := tabSet s.ctxAreas o.toNat n }
  | .fabricConfirm src q => .next (s.fabricConfirm src q)
  | .collMessage d q m => .next (s.collMessage d q m)

/-- The head of the agenda, when its time has come. -/
def State.nextInput (s : State) : Option (Input × State) :=
  match s.agenda with
  | [] => none
  | (c, i) :: l => if c ≤ s.clk then some (i, { s with agenda := l }) else none

/-- While the module is held in reset only a cycle of its power has an effect (R535). -/
def isReset : Input → Bool
  | .powerCycle => true
  | _ => false

/-- A step of a module that is held in reset: the next cycle of its power, if one comes. -/
def State.heldStep (s : State) : Host.Outcome State Fault Refusal :=
  match s.agenda.dropWhile fun e => !isReset e.2 with
  | [] => .fault .heldInReset
  | (c, _) :: l => .next { s with agenda := l, clk := max s.clk c }.moduleReset

/-- One step. -/
def State.advance (s : State) : Host.Outcome State Fault Refusal :=
  if s.bu.heldInReset then s.heldStep
  else match s.due with
    | some d => s.runDue d
    | none =>
      match s.nextInput with
      | some (i, s') => s'.input i
      | none => .next s.tick

/-- The bytes of a bundle. -/
def bundleBytes (nbits w : Nat) : List Byte := toBytes 32 (w % 2 ^ nbits)

/-- The tile of the turn made ready to issue a bundle in this cycle, with the bundle's bytes where it fetches. -/
def Tile.place (t : Tile) (clk nbits w : Nat) : Tile :=
  let pc : Word := if t.pc.toNat < 3072 then t.pc else 0
  let a := 32 * pc.toNat
  { t with
    pc, ls := t.ls.write a (bundleBytes nbits w), recent := []
    lsPoison := t.lsPoison.filter fun p => !decide (a ≤ p ∧ p < a + 32)
    loops := t.loops.map fun e => { e with buf := [] }
    dead := false, fenced := false, saved := false, run := .computing, nextAt := min t.nextAt clk }

end Sys2Proof.Machine
end

