-- ==== Sys2Proof/Machine/Step.lean ====
section
/-! DEFINITION. One step of the module, and the placing of an instruction where the next step fetches. -/

namespace Sys2Proof.Machine

/-- One step: see `State.advance`. -/
def step (s : State) : Host.Outcome State Fault Refusal := s.advance

/-- `s` with the bundle of the bits `w` stored where the tile of the turn fetches its next bundle, that tile made ready to
issue. It stands for the load of an image from outside. -/
def State.withFetchWord (s : State) (nbits w : Nat) : State := s.modTile s.cur fun t => t.place s.clk nbits w

end Sys2Proof.Machine
end

