-- ==== Sys2Proof/Safety.lean ====
section
/-! DEFINITION. What counts as a safe run, and the terms in which the claims speak of an issue.

A step is safe when it answers a next state; the one state that has none is a module held in reset (R535). -/

namespace Sys2Proof.Machine

/-- The step answers a next state. -/
def State.Safe (s : State) : Prop := ∃ t, step s = .next t

/-- Every memory of the state: bank memory, the two SRAMs, the memory behind the CXL port and that of the pod's other devices, the
sixteen HBM halves, each tile's local store and each context block. -/
def State.memories (s : State) : List Memory :=
  [s.bank, s.csram, s.rsram, s.host, s.pod] ++ s.hbm.toList ++ s.tiles.map (fun t => t.2.ls) ++
    s.launches.flatMap fun l => l.2.ctxs.map fun c => c.block

/-- Every memory keeps its canonical form. -/
def State.memWf (s : State) : Bool := s.memories.all Memory.wf

/-! ### The issue of the bundle around one trigger -/

/-- The tile whose turn it is. -/
def State.me (s : State) : Tile := s.tile s.cur

/-- The width of the launch to which the tile of the turn belongs, 0 without one. -/
def State.myW (s : State) : Nat := (s.me.launch.bind s.launch?).elim 0 Launch.w
/-- Its height. -/
def State.myH (s : State) : Nat := (s.me.launch.bind s.launch?).elim 0 Launch.h

/-- What the trigger's move names as its source. -/
def State.mySrc (s : State) (m : TrigMove) : Src := srcOf (isCrown s.cur) m.src.toNat

/-- The tile with the result that the move reads taken from its port, when the port is data-locked (R106). -/
def Tile.afterSrc (t : Tile) : Src → Tile
  | .result k => t.consume k
  | _ => t

/-- The tile in which a move reads its source: a read of the Dial samples it first (R25). -/
def State.sampled (s : State) (m : TrigMove) : Tile :=
  if m.src.toNat = 0x110 then { s.me with dialSample := s.dialNow } else s.me

/-- The value of the move's source, and the tile once the source has been read and the bundle counted (R25, R106, R109,
R290): none while it must wait. -/
def State.sourced (s : State) (m : TrigMove) : Option (Wide × Tile) :=
  ((s.sampled m).readSrc (s.sampled m) s.clk s.myW s.myH (m.lit.getD 0) (s.mySrc m)).map fun r =>
    (r.1, (r.2.afterSrc (s.mySrc m)).countPassed)

/-- The bundle around one trigger reaches its trigger's own checks: the bundle is legal, the tile may issue now, no check of
order 1 to 5 traps, no far-load window waits, the guard lets the move take place, the source is ready with the value `v`,
and the socket has room for a result (R102, R114). `t` is the tile from whose latches the operation samples. -/
structure Begins (s : State) (code : Nat) (m : TrigMove) (v : Wide) (t : Tile) : Prop where
  legal : wfTrig code m = true
  exists_ : dstOf (isCrown s.cur) code = .trig (sockOf code)
  runs : s.canIssue s.cur = true
  clean : s.me.bundleTrap (isCrown s.cur) (moveBundle code m) = none
  window : s.me.windowWait = false
  takes : s.me.taking m.grd = true
  ready : s.sourced m = some (v, t)
  some_ : s.me.emptyRead (s.mySrc m) = false
  room : hasResult code = true → (t.sock (sockOf code)).size < 8

/-- And the operation is allowed here: its tile has a launch when it needs one, and supervisor mode when it asks for it
(R144, R145). -/
structure Starts (s : State) (code : Nat) (m : TrigMove) (v : Wide) (t : Tile) : Prop extends Begins s code m v t where
  launched : (isCrown s.cur && needsLaunch code) = false
  allowed : (supOnly code && !s.me.sup) = false

/-- What the trigger's operation is given. -/
def State.ctx (s : State) (code : Nat) (m : TrigMove) (v : Wide) (t : Tile) : Ctx :=
  { key := s.cur, clk := s.clk, p := s.me.pc, gap := m.gap.toNat, slot := m.slot.toNat, code, v, pre := s.me, lat := t }

/-- The state after the issue of a bundle with the GAP and S of `m`, whose operation has left the tile `t'` and asks `e`
of the sequencer. -/
def State.issued (s : State) (m : TrigMove) (t' : Tile) (e : Eff := {}) : State :=
  (s.setTile s.cur t').endIssue s.cur s.me.pc (moveBundle 0 m) e

end Sys2Proof.Machine
end

