-- ==== Sys2Proof/Certificates/Slice0/Obligations.lean ====
section
/-! DEFINITION. The statements for the provers. -/

namespace Sys2Proof.Claims

open Machine

/-- A row of an operation table of the spec: the instruction, its trigger code, and its result from A, Bv and C (R142, R182). -/
structure Row where
  instr : TrigMove → Instr
  code : Nat
  value : Word → Word → Word → Word

/-- A truth value as a result (Table 7-1). -/
def flag (b : Bool) : Word := if b then 1 else 0

/-- The bit-field operation of R187, bit by bit: `lo` and the field width `w` come from the control word. -/
def bitField (a ctl c : Word) : Word :=
  let lo := (ctl.extractLsb' 0 5).toNat
  let w := min (min (ctl.extractLsb' 5 6).toNat 32) (32 - lo)
  let sign := ctl.getLsbD 11 && decide (0 < w) && a.getLsbD (lo + w - 1)
  let field (i : Nat) : Bool :=
    if ctl.getLsbD 12 then (if decide (lo ≤ i) && decide (i < lo + w) then a.getLsbD (i - lo) else c.getLsbD i)
    else if i < w then a.getLsbD (lo + i) else sign
  (BitVec.ofBoolListLE ((List.range 32).map field)).setWidth 32

/-- Table 7-1 but for the saturating rows; `u` is the unit of R138. -/
def iaRows (u : Bool) : List Row :=
  let code (n : Nat) : Nat := n + if u then 0x100 else 0
  [ ⟨.iaAdd u, code 0x300, fun a b _ => BitVec.ofInt 32 (a.toInt + b.toInt)⟩,
    ⟨.iaSub u, code 0x301, fun a b _ => BitVec.ofInt 32 (a.toInt - b.toInt)⟩,
    ⟨.iaAnd u, code 0x304, fun a b _ => a &&& b⟩,
    ⟨.iaOr u, code 0x305, fun a b _ => a ||| b⟩,
    ⟨.iaXor u, code 0x306, fun a b _ => a ^^^ b⟩,
    ⟨.iaAndn u, code 0x307, fun a b _ => a &&& ~~~b⟩,
    ⟨.iaShl u, code 0x308, fun a b _ => if 32 ≤ b.toNat then 0 else BitVec.ofNat 32 (a.toNat * 2 ^ b.toNat)⟩,
    ⟨.iaShr u, code 0x309, fun a b _ => if 32 ≤ b.toNat then 0 else BitVec.ofNat 32 (a.toNat / 2 ^ b.toNat)⟩,
    ⟨.iaSar u, code 0x30A, fun a b _ =>
      if 32 ≤ b.toNat then (if a.msb then 0xFFFFFFFF else 0) else BitVec.ofInt 32 (a.toInt / 2 ^ b.toNat)⟩,
    ⟨.iaRol u, code 0x30B, fun a b _ => (a <<< (b.toNat % 32)) ||| (a >>> (32 - b.toNat % 32))⟩,
    ⟨.iaMin u, code 0x30C, fun a b _ => BitVec.ofInt 32 (min a.toInt b.toInt)⟩,
    ⟨.iaMax u, code 0x30D, fun a b _ => BitVec.ofInt 32 (max a.toInt b.toInt)⟩,
    ⟨.iaMinu u, code 0x30E, fun a b _ => BitVec.ofNat 32 (min a.toNat b.toNat)⟩,
    ⟨.iaMaxu u, code 0x30F, fun a b _ => BitVec.ofNat 32 (max a.toNat b.toNat)⟩,
    ⟨.iaEq u, code 0x310, fun a b _ => flag (decide (a = b))⟩,
    ⟨.iaNe u, code 0x311, fun a b _ => flag (decide (a ≠ b))⟩,
    ⟨.iaLt u, code 0x312, fun a b _ => flag (decide (a.toInt < b.toInt))⟩,
    ⟨.iaLtu u, code 0x313, fun a b _ => flag (decide (a.toNat < b.toNat))⟩,
    ⟨.iaLe u, code 0x314, fun a b _ => flag (decide (a.toInt ≤ b.toInt))⟩,
    ⟨.iaLeu u, code 0x315, fun a b _ => flag (decide (a.toNat ≤ b.toNat))⟩,
    ⟨.iaSel u, code 0x316, fun a b c => if b = 0 then c else a⟩,
    ⟨.iaClz u, code 0x317, fun _ b _ => if b = 0 then 32 else BitVec.ofNat 32 (31 - Nat.log2 b.toNat)⟩,
    ⟨.iaPopc u, code 0x318, fun _ b _ => BitVec.ofNat 32 ((List.range 32).countP fun i => b.getLsbD i)⟩,
    ⟨.iaBfx u, code 0x319, fun a b c => bitField a b c⟩ ]

/-- An exact sum or difference brought into the signed 32-bit range (R186). -/
def clampS32 (z : Int) : Int := max (-2 ^ 31) (min (2 ^ 31 - 1) z)

/-- The saturating rows, with the exact sum or difference. -/
def satRows (u : Bool) : List ((TrigMove → Instr) × Nat × (Int → Int → Int)) :=
  [(.iaAdds u, 0x302 + (if u then 0x100 else 0), fun a b => a + b), (.iaSubs u, 0x303 + (if u then 0x100 else 0), fun a b => a - b)]

/-- Table 7-2 with Table 7-3: latency and result. -/
def mdRows : List (Row × Nat) :=
  [ (⟨.mdMul, 0x500, fun a b _ => BitVec.ofInt 32 (a.toInt * b.toInt)⟩, 3),
    (⟨.mdMulh, 0x501, fun a b _ => BitVec.ofInt 32 ((a.toInt * b.toInt) / 2 ^ 32)⟩, 3),
    (⟨.mdMulhu, 0x502, fun a b _ => BitVec.ofNat 32 ((a.toNat * b.toNat) / 2 ^ 32)⟩, 3),
    (⟨.mdMac, 0x503, fun a b c => BitVec.ofInt 32 (a.toInt * b.toInt + c.toInt)⟩, 3),
    (⟨.mdDiv, 0x504, fun a b _ => if b = 0 then 0xFFFFFFFF else BitVec.ofInt 32 (a.toInt.tdiv b.toInt)⟩, 18),
    (⟨.mdDivu, 0x505, fun a b _ => if b = 0 then 0xFFFFFFFF else a / b⟩, 18),
    (⟨.mdRem, 0x506, fun a b _ => if b = 0 then a else BitVec.ofInt 32 (a.toInt - b.toInt * a.toInt.tdiv b.toInt)⟩, 18),
    (⟨.mdRemu, 0x507, fun a b _ => if b = 0 then a else a % b⟩, 18) ]

end Sys2Proof.Claims

open Sys2Proof Sys2Proof.Machine Sys2Proof.Claims

/-- Every operation of `ia0` and `ia1` but the two saturating ones completes with the result of Table 7-1 in the next
cycle (R185, R187). -/
def Sys2Proof.Claims.IntegerResults : Prop :=
  ∀ (s : State) (u : Bool) (m : TrigMove) (v : Wide) (t : Tile), ∀ r ∈ iaRows u, Starts s r.code m v t →
    exec (r.instr m) s = .next (s.issued m (t.resultN (if u then 2 else 1) s.clk 1
      (r.value (t.latchN (if u then 2 else 1) 0) (narrowOf v) (t.latchN (if u then 2 else 1) 1))))

/-- `adds` and `subs` give the clamped exact sum or difference, and set SAT exactly when it was outside the range (R186). -/
def Sys2Proof.Claims.SaturatingResults : Prop :=
  ∀ (s : State) (u : Bool) (m : TrigMove) (v : Wide) (t : Tile), ∀ r ∈ satRows u, Starts s r.2.1 m v t →
    let z := r.2.2 (t.latchN (if u then 2 else 1) 0).toInt (narrowOf v).toInt
    exec (r.1 m) s = .next (s.issued m (t.result (if u then 2 else 1) s.clk 1 false (wideOf (BitVec.ofInt 32 (clampS32 z)))
      (if z = clampS32 z then 0 else fSAT)))

/-- Every operation of `md` completes with the result of Table 7-2, or of Table 7-3 on a zero divisor, after its fixed
latency. -/
def Sys2Proof.Claims.MultiplyDivideResults : Prop :=
  ∀ (s : State) (m : TrigMove) (v : Wide) (t : Tile), ∀ r ∈ mdRows, Starts s r.1.code m v t →
    exec (r.1.instr m) s = .next (s.issued m (t.resultN 3 s.clk r.2
      (r.1.value (t.latchN 3 0) (narrowOf v) (t.latchN 3 1))))


/-- The results of `ia0`, `ia1` and `md`: every operation completes with the value of Tables 7-1 to 7-3, at its latency (R185 to R189). -/
def Obligations.ArithmeticResults : Prop := IntegerResults ∧ SaturatingResults ∧ MultiplyDivideResults
namespace Sys2Proof.Claims

open Machine

/-- The state after a bundle that raises a cause with a TINFO (R36). -/
def trapped (s : State) (c : Cause) (info : Nat) : State := s.takeTrap s.cur { cause := c, info }

/-- TINFO of a cause of order 6: slot, trigger code, and a detail in bits 63:32 (R144). -/
def info6 (m : TrigMove) (code : Nat) (detail : Nat := 0) : Nat := m.slot.toNat + 256 * code + 2 ^ 32 * detail

/-- The link word of a call by this tile (Table 6-2). -/
def linkWord (t : Tile) : Word := BitVec.ofNat 32 (t.depth * 2 ^ 16 + (t.pc.toNat + 1) % 4096)

/-- The direct jumps and calls (R162): code, whether it calls, whether the target is relative. -/
def jumpRows : List ((TrigMove → Instr) × Nat × Bool × Bool) :=
  [(.cuJmp, 0x200, false, false), (.cuJrel, 0x201, false, true), (.cuCall, 0x203, true, false), (.cuCallrel, 0x204, true, true)]

/-- The table jumps (R163). -/
def tableRows : List ((TrigMove → Instr) × Nat × Bool) := [(.cuJtab, 0x202, false), (.cuCalltab, 0x205, true)]

/-- First byte beyond what a tile's mode may reach in its local store (R27). -/
def lsLimit (t : Tile) : Nat := if t.sup then 0x18000 else 0x17000

/-- `loop` and `loopi`, with whether latch `b` gives the initial index (R165). -/
def loopRows : List ((TrigMove → Instr) × Nat × Bool) := [(.cuLoop, 0x207, false), (.cuLoopi, 0x208, true)]

/-- The entry that `loop` and `loopi` push (R165), with the body as the loop buffer of R28 holds it. -/
def loopPushed (t : Tile) (stop : Nat) (n index : Word) : LoopEntry :=
  { start := BitVec.ofNat 12 (t.pc.toNat + 1), stop := BitVec.ofNat 12 stop, count := n, index
    buf := t.loopBody ((t.pc.toNat + 1) % 4096) stop }

/-- The `ag` operations whose result is a function of A, Bv and C alone, and which trap on nothing (R192, R195). -/
def agRows : List Row :=
  [ ⟨.agLea, 0x600, fun a b _ => BitVec.ofInt 32 (a.toInt + b.toInt)⟩,
    ⟨.agLeas, 0x601, fun a b c => BitVec.ofNat 32 (a.toNat + b.toNat * 2 ^ (c.toNat % 32))⟩,
    ⟨.agBcyc, 0x609, fun a b c =>
      let p := c.toNat % 2 ^ 31
      let i := b.toNat
      let blk := a.toNat
      if blk = 0 ∨ p = 0 then 0xFFFFFFFF
      else if c.msb then BitVec.ofNat 32 ((i / blk) % p) else BitVec.ofNat 32 ((i / (blk * p)) * blk + i % blk)⟩ ]

/-- The sum that `incw` leaves in its latch (R194). -/
def wrapped (a b c : Word) : Word :=
  let z : Int := (a.toNat : Int) + b.toInt
  if c = 0 then BitVec.ofInt 32 z else BitVec.ofInt 32 (z.emod c.toNat)

/-- Segment entry i of the captured table holds the virtual address (R200). -/
def segHolds (t : Tile) (va i : Nat) : Prop :=
  let g : Seg := vget {} t.segs i
  g.valid = true ∧ g.vbase.toNat ≤ va ∧ va < g.vbase.toNat + g.len.toNat

/-- Entry i is the hit of R200: the lowest that holds the address. -/
def segHits (t : Tile) (va i : Nat) : Prop := segHolds t va i ∧ ∀ j < i, ¬ segHolds t va j

/-- The global address of a hit (R200). -/
def segGlobal (t : Tile) (va i : Nat) : Nat :=
  ((vget {} t.segs i : Seg).gbase.toNat + (va - (vget {} t.segs i : Seg).vbase.toNat)) % 2 ^ 52

/-- The tile-in-cluster number and offset of position q in modes 0 to 2 (R201, R202). -/
def clusterPlace (mode q : Nat) : Nat × Nat :=
  if mode = 0 then (q / 2 ^ 17 % 64, q % 2 ^ 17)
  else if mode = 1 then (q / 4 % 64, q / 256 % 2 ^ 15 * 4 + q % 4)
  else (q / 64 % 64, q / 4096 % 2 ^ 11 * 64 + q % 64)

end Sys2Proof.Claims

/-- The direct jumps and calls redirect to their target, and a call stands its link word two cycles later; nothing else
changes (R161, R162). -/
def Sys2Proof.Claims.JumpsAndCalls : Prop :=
  ∀ (s : State) (m : TrigMove) (v : Wide) (t : Tile), ∀ r ∈ jumpRows, Starts s r.2.1 m v t →
    exec (r.1 m) s = .next (s.issued m (if r.2.2.1 then t.resultN 0 s.clk 2 (linkWord s.me) else t)
      { next := some (if r.2.2.2 then BitVec.ofInt 32 (s.me.pc.toInt + (narrowOf v).toInt) else narrowOf v, true) })

/-- `jtab` and `calltab` (R163): beyond COUNT they do nothing; else the halfword of the table is the target, unless the
entry lies outside what the mode may reach or is poisoned. -/
def Sys2Proof.Claims.TableJumps : Prop :=
  ∀ (s : State) (m : TrigMove) (v : Wide) (t : Tile), ∀ r ∈ tableRows, Starts s r.2.1 m v t →
    let a := (t.latchN 0 0).toNat
    let i := (narrowOf v).toNat
    let addr := a % 2 ^ 17 / 2 * 2 + 2 * i
    (a / 2 ^ 20 ≤ i → exec (r.1 m) s = .next (s.issued m t)) ∧
    (i < a / 2 ^ 20 → addr + 2 ≤ lsLimit s.me → s.me.poisoned addr 2 = false →
      exec (r.1 m) s = .next (s.issued m (if r.2.2 then t.resultN 0 s.clk 2 (linkWord s.me) else t)
        { next := some (BitVec.ofNat 32 (s.me.mem addr 2 % 4096), true) })) ∧
    (i < a / 2 ^ 20 → 0x18000 < addr + 2 →
      exec (r.1 m) s = .next (trapped s .lsRange (info6 m r.2.1 (addr % 2 ^ 17)))) ∧
    (i < a / 2 ^ 20 → 0x17000 < addr + 2 → addr + 2 ≤ 0x18000 → s.me.sup = false →
      exec (r.1 m) s = .next (trapped s .privilege (info6 m r.2.1 (addr % 2 ^ 17)))) ∧
    (i < a / 2 ^ 20 → addr + 2 ≤ lsLimit s.me → s.me.poisoned addr 2 = true →
      exec (r.1 m) s = .next (trapped s .fetchPoison (info6 m r.2.1 (addr % 2 ^ 17))))

/-- `ret` pops to the depth of its link word and redirects; a depth above the stack's is LOOP_STACK (R164). -/
def Sys2Proof.Claims.Returns : Prop :=
  ∀ (s : State) (m : TrigMove) (v : Wide) (t : Tile), Starts s 0x206 m v t →
    let d := (narrowOf v).toNat / 2 ^ 16 % 8
    (d ≤ s.me.depth → exec (.cuRet m) s = .next (s.issued m { t with depth := d }
      { next := some (BitVec.ofNat 32 ((narrowOf v).toNat % 4096), true) })) ∧
    (s.me.depth < d → exec (.cuRet m) s = .next (trapped s .loopStack (info6 m 0x206 s.me.depth)))

/-- The jumps, calls and returns of `cu` (R162 to R164). -/
def Obligations.ControlTransfers : Prop := JumpsAndCalls ∧ TableJumps ∧ Returns

/-- `loop` and `loopi` push an entry, or skip the body when the count is zero, or raise LOOP_STACK or LOOP_RANGE (R165). -/
def Sys2Proof.Claims.LoopEntry : Prop :=
  ∀ (s : State) (m : TrigMove) (v : Wide) (t : Tile), ∀ r ∈ loopRows, Starts s r.2.1 m v t →
    let start := (s.me.pc.toNat + 1) % 4096
    let stop := (t.latchN 0 0).toNat % 4096
    let fits := start ≤ stop ∧ (s.me.sup = true ∨ stop < 2944) ∧
      ¬ (0 < s.me.depth ∧ (s.me.loop (s.me.depth - 1)).stop.toNat = s.me.pc.toNat)
    (s.me.depth = 6 → exec (r.1 m) s = .next (trapped s .loopStack (info6 m r.2.1 6))) ∧
    (s.me.depth ≠ 6 → ¬ fits → exec (r.1 m) s = .next (trapped s .loopRange (info6 m r.2.1 stop))) ∧
    (s.me.depth ≠ 6 → fits → narrowOf v = 0 →
      exec (r.1 m) s = .next (s.issued m t { next := some (BitVec.ofNat 32 (stop + 1), false) })) ∧
    (s.me.depth ≠ 6 → fits → narrowOf v ≠ 0 →
      exec (r.1 m) s = .next (s.issued m
        { t.setLoop s.me.depth (loopPushed s.me stop (narrowOf v) (if r.2.2 then t.latchN 0 1 else 0)) with
          depth := s.me.depth + 1 }))

/-- `loopidx` and `loopcnt` set INDEX and COUNT of the innermost entry, `loopexit` leaves the loop for the bundle after its
END, `loopnext` runs the end action and redirects; each raises LOOP_STACK without an entry (R167, R168). -/
def Sys2Proof.Claims.LoopControl : Prop :=
  ∀ (s : State) (m : TrigMove) (v : Wide) (t : Tile),
    let k := s.me.depth - 1
    let e := s.me.loop k
    (Starts s 0x210 m v t → 0 < s.me.depth →
      exec (.cuLoopidx m) s = .next (s.issued m (t.setLoop k { t.loop k with index := narrowOf v }))) ∧
    (Starts s 0x211 m v t → 0 < s.me.depth →
      exec (.cuLoopcnt m) s = .next (s.issued m (t.setLoop k { t.loop k with count := narrowOf v }))) ∧
    (Starts s 0x20A m v t → 0 < s.me.depth →
      exec (.cuLoopexit m) s = .next (s.issued m { t with depth := k }
        { next := some (BitVec.ofNat 32 (e.stop.toNat + 1), true) })) ∧
    (Starts s 0x209 m v t → 0 < s.me.depth → 1 < e.count.toNat →
      exec (.cuLoopnext m) s = .next (s.issued m (t.setLoop k { t.loop k with count := e.count - 1, index := e.index + 1 })
        { next := some (e.start.setWidth 32, true) })) ∧
    (Starts s 0x209 m v t → 0 < s.me.depth →
      exec (.cuLoopnext m) s = .next (s.issued m (t.endAction (e.stop.setWidth 32) 7).1
        { next := some ((t.endAction (e.stop.setWidth 32) 7).2, true) })) ∧
    (s.me.depth = 0 → ∀ r ∈ [((.cuLoopidx m : Instr), 0x210), (.cuLoopcnt m, 0x211), (.cuLoopexit m, 0x20A), (.cuLoopnext m, 0x209)],
      Starts s r.2 m v t → exec r.1 s = .next (trapped s .loopStack (info6 m r.2)))

/-- The operations of the loop stack (R165, R167, R168). -/
def Obligations.HardwareLoops : Prop := LoopEntry ∧ LoopControl

/-- The end action of R166 at bundle p: an innermost entry that ends there counts down and goes back to its START, or is
popped, and then the enclosing entry acts too. -/
def Obligations.EndAction : Prop :=
  ∀ (t : Tile) (p : Word), t.depth ≤ 6 →
    let e := t.loop (t.depth - 1)
    (t.depth = 0 ∨ e.stop.setWidth 32 ≠ p → t.endAction p 7 = (t, p + 1)) ∧
    (0 < t.depth → e.stop.setWidth 32 = p → 1 < e.count.toNat →
      t.endAction p 7 = (t.setLoop (t.depth - 1) { e with count := e.count - 1, index := e.index + 1 }, e.start.setWidth 32)) ∧
    (0 < t.depth → e.stop.setWidth 32 = p → e.count.toNat ≤ 1 →
      t.endAction p 7 = ({ t with depth := t.depth - 1 } : Tile).endAction p 7)

/-- `nextwork` takes the next item of the tile's launch into WID and sets its guard, or clears the guard when there is none;
a spawn tile has none (R59, R170). -/
def Obligations.WorkItems : Prop :=
  ∀ (s : State) (m : TrigMove) (v : Wide) (t : Tile), Starts s 0x20B m v t →
    let g := (narrowOf v).toNat % 8
    let item := (s.me.launch.bind s.launch?).bind fun l => l.nextWork s.me.widf s.me.wid
    (∀ w, s.me.isSpawn = false → item = some w →
      exec (.cuNextwork m) s = .next (s.issued m { t.setGuard g true with wid := w })) ∧
    (s.me.isSpawn = true ∨ item = none → exec (.cuNextwork m) s = .next (s.issued m (t.setGuard g false)))

/-- `sync` makes the tile ARRIVED in its cycle; in supervisor mode it raises SYNC_MODE, and a plan number that the
directory does not have raises PLAN_RANGE (R173). -/
def Sys2Proof.Claims.Arrival : Prop :=
  ∀ (s : State) (m : TrigMove) (v : Wide) (t : Tile), Starts s 0x20C m v t →
    let n := (narrowOf v).toNat % 256
    (s.me.sup = true → exec (.cuSync m) s = .next (trapped s .syncMode (info6 m 0x20C))) ∧
    (s.me.sup = false → s.me.planEntries n = none → exec (.cuSync m) s = .next (trapped s .planRange (info6 m 0x20C n))) ∧
    (∀ es l, s.me.sup = false → s.me.planEntries n = some es → s.me.launch.bind s.launch? = some l →
      (s.setTile s.cur t).egressFull s.cur = false →
      ∃ s', exec (.cuSync m) s = .next s' ∧ (s'.tile s.cur).run = .arrived ∧ (s'.tile s.cur).arrivedAt = s.clk)

/-- `halt` stops the tile: a worker is HALTED and a spawn tile IDLE, its results are discarded, and far-load replies still
outstanding are discarded on arrival; in supervisor mode the tile stops and TCAUSE and TINFO keep their values (R171). -/
def Sys2Proof.Claims.Halting : Prop :=
  ∀ (s : State) (m : TrigMove) (v : Wide) (t : Tile), Starts s 0x20D m v t →
    (s.me.sup = false → (s.setTile s.cur t).egressFull s.cur = false →
      ∃ s', exec (.cuHalt m) s = .next s' ∧
        (s'.tile s.cur).run = (if s.me.isSpawn then .idle else .halted) ∧
        (s'.tile s.cur).socks = Vector.replicate 13 {} ∧
        (∀ r ∈ (s'.tile s.cur).far, r.replies = true → r.drop = true)) ∧
    (s.me.sup = true →
      ∃ s', exec (.cuHalt m) s = .next s' ∧ (s'.tile s.cur).dead = true ∧ (s'.tile s.cur).socks = Vector.replicate 13 {} ∧
        (s'.tile s.cur).tcause = s.me.tcause ∧ (s'.tile s.cur).tinfo = s.me.tinfo)

/-- `sync` and `halt` (R170, R171). -/
def Obligations.ArrivalAndHalting : Prop := Arrival ∧ Halting

/-- `trap` and `brk` raise SWTRAP and BREAKPOINT with their trigger value in TINFO, and the bundle has no other effect
(R172). -/
def Obligations.SoftwareTraps : Prop :=
  ∀ (s : State) (m : TrigMove) (v : Wide) (t : Tile),
    (Starts s 0x20E m v t →
      exec (.cuTrap m) s = .next (trapped s .swtrap (info6 m 0x20E (narrowOf v).toNat))) ∧
    (Starts s 0x20F m v t →
      exec (.cuBrk m) s = .next (trapped s .breakpoint (info6 m 0x20F (narrowOf v).toNat)))

/-- The address arithmetic of `ag` (R192 but for `inc` and `incw`, R195). -/
def Sys2Proof.Claims.AddressResults : Prop :=
  ∀ (s : State) (m : TrigMove) (v : Wide) (t : Tile), ∀ r ∈ agRows, Starts s r.code m v t →
    exec (r.instr m) s = .next (s.issued m (t.resultN 4 s.clk 1 (r.value (t.latchN 4 0) (narrowOf v) (t.latchN 4 1))))

/-- `inc` and `incw` give A and leave the stepped address in latch `ag.a` (R192 to R194). -/
def Sys2Proof.Claims.PointerSteps : Prop :=
  ∀ (s : State) (m : TrigMove) (v : Wide) (t : Tile),
    (Starts s 0x607 m v t →
      exec (.agInc m) s = .next (s.issued m ((t.resultN 4 s.clk 1 (t.latchN 4 0)).setLatch 4 0
        (wideOf (BitVec.ofInt 32 ((t.latchN 4 0).toInt + (narrowOf v).toInt)))))) ∧
    (Starts s 0x608 m v t →
      exec (.agIncw m) s = .next (s.issued m ((t.resultN 4 s.clk 1 (t.latchN 4 0)).setLatch 4 0
        (wideOf (wrapped (t.latchN 4 0) (narrowOf v) (t.latchN 4 1))))))

/-- The segment look-ups: the lowest entry that holds the address gives the result; without one `seg` and `segh` raise
SEG_MISS and `segchk` gives all ones (R200). -/
def Obligations.SegmentLookups : Prop :=
  ∀ (s : State) (m : TrigMove) (v : Wide) (t : Tile),
    let va := (t.latchN 4 0).toNat % 2 ^ 16 * 2 ^ 32 + (narrowOf v).toNat
    let put (x : Word) := s.issued m (t.resultN 4 s.clk 1 x)
    (∀ i < 64, segHits s.me va i →
      (Starts s 0x602 m v t → exec (.agSeg m) s = .next (put (BitVec.ofNat 32 (segGlobal s.me va i)))) ∧
      (Starts s 0x603 m v t →
        exec (.agSegh m) s = .next (put (BitVec.ofNat 32 (i * 2 ^ 22 + segGlobal s.me va i / 2 ^ 32)))) ∧
      (Starts s 0x604 m v t →
        exec (.agSegchk m) s = .next (put (BitVec.ofNat 32 ((vget {} s.me.segs i : Seg).perm.toNat * 64 + i))))) ∧
    ((∀ i < 64, ¬ segHolds s.me va i) →
      (Starts s 0x602 m v t → exec (.agSeg m) s = .next (trapped s .segMiss (m.slot.toNat + 2 ^ 16 * va))) ∧
      (Starts s 0x603 m v t → exec (.agSegh m) s = .next (trapped s .segMiss (m.slot.toNat + 8 + 2 ^ 16 * va))) ∧
      (Starts s 0x604 m v t → exec (.agSegchk m) s = .next (put 0xFFFFFFFF)))

/-- `tid` names the tile at a position of the launch, or none; `twin`, `ilv` and `fmode` give their far-address words and
cluster places, and raise ADDR_MODE on mode 3 (R197, R198, R202). -/
def Sys2Proof.Claims.TileNames : Prop :=
  ∀ (s : State) (m : TrigMove) (v : Wide) (t : Tile),
    let a := t.latchN 4 0
    let b := (narrowOf v).toNat
    let put (x : Word) := s.issued m (t.resultN 4 s.clk 1 x)
    let mode := a.toNat % 4
    (Starts s 0x605 m v t →
      (∀ l, s.me.launch.bind s.launch? = some l → isCrown s.cur = false → b % 512 < l.w → b / 2 ^ 16 % 512 < l.h →
        exec (.agTid m) s = .next (put (BitVec.ofNat 32 (tileAt (l.ox + b % 512) (l.oy + b / 2 ^ 16 % 512))))) ∧
      (∀ l, s.me.launch.bind s.launch? = some l → l.w ≤ b % 512 ∨ l.h ≤ b / 2 ^ 16 % 512 →
        exec (.agTid m) s = .next (put 0xFFFFFFFF)) ∧
      (isCrown s.cur = true → exec (.agTid m) s = .next (put 0xFFFFFFFF))) ∧
    (Starts s 0x606 m v t →
      (mode ≠ 3 → exec (.agTwin m) s =
        .next (put (BitVec.ofNat 32 (2 ^ 28 + mode * 2 ^ 20 + 0x80000 + b / 2 ^ 15 % 8)))) ∧
      (mode = 3 → exec (.agTwin m) s = .next (trapped s .addrMode (info6 m 0x606 3)))) ∧
    (Starts s 0x60A m v t →
      (mode ≠ 3 → exec (.agIlv m) s = .next (put (BitVec.ofNat 32
        ((clusterPlace mode (b % 2 ^ 23)).1 * 2 ^ 24 + (clusterPlace mode (b % 2 ^ 23)).2)))) ∧
      (mode = 3 → exec (.agIlv m) s = .next (trapped s .addrMode (info6 m 0x60A 3)))) ∧
    (Starts s 0x60B m v t →
      (b % 4 ≠ 3 → exec (.agFmode m) s =
        .next (put (BitVec.ofNat 32 (a.toNat / 2 ^ 22 * 2 ^ 22 + b % 4 * 2 ^ 20 + a.toNat % 2 ^ 20)))) ∧
      (b % 4 = 3 → exec (.agFmode m) s = .next (trapped s .addrMode (info6 m 0x60B 3))))


/-- The results of `ag` that need no segment. -/
def Obligations.AddressSocket : Prop := AddressResults ∧ PointerSteps ∧ TileNames
namespace Sys2Proof.Claims

open Machine

/-- A `vu` operation whose lanes are independent (R229): its lane result and flags from the rounding mode, the lane's number,
A, B, C and X. -/
structure LaneRow where
  instr : TrigMove → Instr
  code : Nat
  lat : Nat
  lane : RMode → Nat → Wide → Wide → Wide → Wide → Nat × BitVec 6

/-- A row on lanes of A and X. -/
def laneAX (instr : TrigMove → Instr) (code lat : Nat) (f : RMode → Word → Word → Nat × BitVec 6) : LaneRow :=
  ⟨instr, code, lat, fun m i a _ _ x => f m (lane a i) (lane x i)⟩

/-- A row on lanes of A and X without flags. -/
def laneInt (instr : TrigMove → Instr) (code lat : Nat) (f : Word → Word → Word) : LaneRow :=
  laneAX instr code lat fun _ a x => ((f a x).toNat, 0)

/-- The row of a saturating lane operation (R235). -/
def laneSat (instr : TrigMove → Instr) (code : Nat) (f : Int → Int → Int) : LaneRow :=
  laneAX instr code 1 fun _ a x =>
    let z := f a.toInt x.toInt
    ((BitVec.ofInt 32 (clampS32 z)).toNat, if z = clampS32 z then 0 else fSAT)

/-- Two 16-bit elements side by side in a lane (R205), with the flags of both. -/
def two (a b : Nat × BitVec 6) : Nat × BitVec 6 := (a.1 + 2 ^ 16 * b.1, a.2 ||| b.2)

/-- The source of element j of a pack of A and X (R237). -/
def pairSrc (a x : Wide) (j : Nat) : Word := if j < 16 then lane a j else lane x (j - 16)

/-- Element j of `packi8` as a byte, and whether it was clamped (R239). -/
def byteOf (a b c x : Wide) (j : Nat) : Nat × BitVec 6 :=
  let z := (if j < 16 then lane a j else if j < 32 then lane b (j - 16) else if j < 48 then lane c (j - 32) else lane x (j - 48)).toInt
  let y := max (-128) (min 127 z)
  ((BitVec.ofInt 8 y).toNat, if y = z then 0 else fSAT)

/-- Tables 9-1 and 9-3 and R236 to R240: the operations of independent or permuted lanes with a wide result. -/
def laneRows : List LaneRow :=
  [ laneAX .vuFadd 0x800 4 fadd, laneAX .vuFsub 0x801 4 fsub, laneAX .vuFmul 0x802 4 fmul,
    ⟨.vuFma, 0x803, 4, fun m i a b _ x => ffma m (lane a i) (lane x i) (lane b i)⟩,
    laneAX .vuFmin 0x804 2 (fun _ => fminmax false), laneAX .vuFmax 0x805 2 (fun _ => fminmax true),
    laneAX .vuFdiv 0x806 12 fdiv, laneAX .vuFsqrt 0x807 12 (fun m _ x => fsqrt m x),
    laneAX .vuFrcp 0x808 6 (fun m _ x => frcp m x), laneAX .vuFrsq 0x809 6 (fun m _ x => frsq m x),
    laneAX .vuFexp2 0x80A 6 (fun _ _ x => fexp2 x), laneAX .vuFlog2 0x80B 6 (fun _ _ x => flog2 x),
    laneAX .vuFrnd 0x80C 2 (fun m _ x => frnd m x),
    laneInt .vuVadd 0x810 1 (fun a x => BitVec.ofInt 32 (a.toInt + x.toInt)),
    laneInt .vuVsub 0x811 1 (fun a x => BitVec.ofInt 32 (a.toInt - x.toInt)),
    laneSat .vuVadds 0x812 (fun a x => a + x), laneSat .vuVsubs 0x813 (fun a x => a - x),
    laneInt .vuVmul 0x814 3 (fun a x => BitVec.ofInt 32 (a.toInt * x.toInt)),
    laneInt .vuVand 0x815 1 (fun a x => a &&& x), laneInt .vuVor 0x816 1 (fun a x => a ||| x),
    laneInt .vuVxor 0x817 1 (fun a x => a ^^^ x),
    laneInt .vuVshl 0x818 1 (fun a x => if 32 ≤ x.toNat then 0 else BitVec.ofNat 32 (a.toNat * 2 ^ x.toNat)),
    laneInt .vuVshr 0x819 1 (fun a x => if 32 ≤ x.toNat then 0 else BitVec.ofNat 32 (a.toNat / 2 ^ x.toNat)),
    laneInt .vuVsar 0x81A 1 (fun a x =>
      if 32 ≤ x.toNat then (if a.msb then 0xFFFFFFFF else 0) else BitVec.ofInt 32 (a.toInt / 2 ^ x.toNat)),
    laneInt .vuVmin 0x81B 1 (fun a x => BitVec.ofInt 32 (min a.toInt x.toInt)),
    laneInt .vuVmax 0x81C 1 (fun a x => BitVec.ofInt 32 (max a.toInt x.toInt)),
    laneAX .vuCvtif 0x81F 2 (fun m _ x => cvtIf m x),
    laneAX .vuCvtfi 0x820 2 (fun m _ x =>
      let r := cvtFi m (-(2 ^ 31)) (2 ^ 31 - 1) (fp32.val x.toNat)
      ((BitVec.ofInt 32 r.1).toNat, r.2)),
    ⟨.vuCvtfh, 0x821, 2, fun m i a _ _ x => two (cvtDown fp16 m (pairSrc a x (2 * i))) (cvtDown fp16 m (pairSrc a x (2 * i + 1)))⟩,
    ⟨.vuCvtfb, 0x822, 2, fun m i a _ _ x => two (cvtDown bf16 m (pairSrc a x (2 * i))) (cvtDown bf16 m (pairSrc a x (2 * i + 1)))⟩,
    ⟨.vuCvthf, 0x823, 2, fun _ i a _ _ x => cvtUp fp16 (x.toNat / 2 ^ (16 * (16 * (a.toNat % 2) + i)) % 2 ^ 16)⟩,
    ⟨.vuCvtbf, 0x824, 2, fun _ i a _ _ x => cvtUp bf16 (x.toNat / 2 ^ (16 * (16 * (a.toNat % 2) + i)) % 2 ^ 16)⟩,
    ⟨.vuPacki8, 0x825, 2, fun _ i a b c x =>
      let e (k : Nat) := byteOf a b c x (4 * i + k)
      ((e 0).1 + 2 ^ 8 * (e 1).1 + 2 ^ 16 * (e 2).1 + 2 ^ 24 * (e 3).1, (e 0).2 ||| (e 1).2 ||| (e 2).2 ||| (e 3).2)⟩,
    ⟨.vuUnpki8, 0x826, 2, fun _ i a _ _ x =>
      let e : BitVec 8 := BitVec.ofNat 8 (x.toNat / 2 ^ (8 * (16 * (a.toNat % 4) + i)))
      (((if a.getLsbD 2 then e.setWidth 32 else e.signExtend 32) : Word).toNat, 0)⟩,
    ⟨.vuVperm, 0x827, 2, fun _ i a _ _ x =>
      ((if (lane x i).msb then (0 : Word) else lane a ((lane x i).toNat % 16)).toNat, 0)⟩,
    ⟨.vuVbcast, 0x828, 1, fun _ _ _ _ _ x => ((narrowOf x).toNat, 0)⟩ ]

/-- Table 9-2: the comparisons, with the relation of a lane and its flags. -/
def compareRows : List ((TrigMove → Instr) × Nat × Nat × (Word → Word → Bool × BitVec 6)) :=
  [(.vuFcmpeq, 0x80D, 2, fcmp 0), (.vuFcmplt, 0x80E, 2, fcmp 1), (.vuFcmple, 0x80F, 2, fcmp 2),
   (.vuVcmpeq, 0x81D, 1, fun a x => (decide (a = x), 0)), (.vuVcmplt, 0x81E, 1, fun a x => (decide (a.toInt < x.toInt), 0))]

/-- The OR of sixteen lanes' flags (R229). -/
def orFlags (f : Nat → BitVec 6) : BitVec 6 := (List.range 16).foldl (fun g i => g ||| f i) 0

/-- The mask whose bit i is the outcome of lane i (R234). -/
def laneMask (f : Nat → Bool) : Word := (BitVec.ofBoolListLE ((List.range 16).map f)).setWidth 32

/-- Node i of level k of the tree of R241 over the lanes of X, with the flags of the nodes below it. -/
def treeNode (f : Word → Word → Nat × BitVec 6) (x : Wide) : Nat → Nat → Word × BitVec 6
  | 0, i => (lane x i, 0)
  | k + 1, i =>
    let a := treeNode f x k (2 * i)
    let b := treeNode f x k (2 * i + 1)
    let r := f a.1 b.1
    (BitVec.ofNat 32 r.1, a.2 ||| b.2 ||| r.2)

/-! ### The load/store socket -/

/-- The effective address of R271 from the address word, the index and the element size. -/
def lsAddr (aw : Word) (index : Int) (z : Nat) : Int :=
  let base : Int := (aw.toNat % 2 ^ 17 : Nat)
  match aw.toNat / 2 ^ 22 % 4 with
  | 0 => base + index
  | 1 => base + index * z
  | 2 => base
  | _ => index % 2 ^ 17

/-- Latch `ls.a` after the trigger: MODE 2 steps its BASE (R271). -/
def lsStep (aw : Word) (index : Int) (t : Tile) : Tile :=
  if aw.toNat / 2 ^ 22 % 4 = 2 then
    t.setLatch 5 0 (wideOf (BitVec.ofNat 32 (aw.toNat / 2 ^ 17 * 2 ^ 17 + (((aw.toNat % 2 ^ 17 : Nat) + index) % 2 ^ 17).toNat)))
  else t

/-- No read-modify-write window of the tile is open on a bank of the range (R284, R285). -/
def noWindow (s : State) (a n : Nat) : Prop :=
  ∀ r ∈ s.me.rmws, r.opens s.clk = true → ∀ w ∈ wordsOf a n, bankOf w ≠ bankOf r.addr

/-- An access of n bytes at ea that R275 and R285 allow: aligned to z, within what the tile's mode may reach, and off every
bank with an open window. -/
def lsFits (s : State) (ea : Int) (z n : Nat) : Prop :=
  ea % z = 0 ∧ 0 ≤ ea ∧ ea + n ≤ lsLimit s.me ∧ noWindow s ea.toNat n

/-- No word of the range has a pending delivery (R283). -/
def noPending (s : State) (ws : List Nat) : Prop := ∀ w ∈ ws, w ∉ s.me.lsPending

/-- Table 11-2: size, latency, width, whether the form carries a scope, and the value of the bytes read. -/
structure LoadRow where
  instr : TrigMove → Instr
  code : Nat
  z : Nat
  wide : Bool
  hasScope : Bool
  value : Nat → Wide

/-- The loads of one address (R272). -/
def loadRows : List LoadRow :=
  [ ⟨.lsLdb, 0x700, 1, false, false, fun n => BitVec.ofNat 512 n⟩,
    ⟨.lsLdbs, 0x701, 1, false, false, fun n => ((BitVec.ofNat 8 n).signExtend 32).setWidth 512⟩,
    ⟨.lsLdh, 0x702, 2, false, false, fun n => BitVec.ofNat 512 n⟩,
    ⟨.lsLdhs, 0x703, 2, false, false, fun n => ((BitVec.ofNat 16 n).signExtend 32).setWidth 512⟩,
    ⟨.lsLdw, 0x704, 4, false, false, fun n => BitVec.ofNat 512 n⟩,
    ⟨.lsLdd, 0x705, 8, true, false, fun n => BitVec.ofNat 512 n⟩,
    ⟨.lsLdv, 0x706, 64, true, false, fun n => BitVec.ofNat 512 n⟩,
    ⟨.lsLdwa, 0x708, 4, false, true, fun n => BitVec.ofNat 512 n⟩,
    ⟨.lsLdda, 0x709, 8, true, true, fun n => BitVec.ofNat 512 n⟩ ]

/-- Table 11-3 but for the masked and the release stores. -/
def storeRows : List ((TrigMove → Instr) × Nat × Nat) :=
  [(.lsStb, 0x70A, 1), (.lsSth, 0x70B, 2), (.lsStw, 0x70C, 4), (.lsStd, 0x70D, 8), (.lsStv, 0x70E, 64)]

/-- The release stores (R276). -/
def releaseRows : List ((TrigMove → Instr) × Nat × Nat) := [(.lsStwr, 0x710, 4), (.lsStdr, 0x711, 8)]

/-- The read-modify-writes (R282). -/
def rmwRows : List ((TrigMove → Instr) × Nat) :=
  [(.lsRmwadd, 0x716), (.lsRmwswap, 0x717), (.lsRmwcas, 0x718), (.lsRmwmin, 0x719), (.lsRmwmax, 0x71A), (.lsRmwor, 0x71B)]

/-- The ring operations (R287). -/
def ringRows : List ((TrigMove → Instr) × Nat × Bool) := [(.lsRingacq, 0x714, false), (.lsRingrel, 0x715, true)]

/-- The sign-extended low halfword of a trigger value: the index of `ldvt` and `stvm`. -/
def halfIndex (w : Word) : Int := ((w.setWidth 16 : Half)).toInt

/-- The outstanding accesses that the fences in force order before a plain store of a class (R360, R384). -/
def fencedIds (t : Tile) (cls : Nat) : List Nat :=
  t.openIds.filter ((t.fences.filter fun f => f.mask.getLsbD cls).flatMap fun f => f.ids).contains

/-- The tile with a store of n bytes at a held from other agents until the accesses `ids` have been performed; with none it
is as it was (R276, R384). -/
def holding (t : Tile) (cls : Nat) (ids : List Nat) (a n : Nat) : Tile :=
  if ids = [] then t
  else { t with
    heldStores := (t.heldStores.filter fun h => t.anyOpen h.ids) ++ [{ id := 2 ^ 64 + t.holdNo, addr := a, len := n, cls, ids }]
    holdNo := t.holdNo + 1 }

/-- The bytes that a tile's local store holds. -/
def lsByte (s : State) (k a : Nat) : Byte := (s.tile k).ls.get a

end Sys2Proof.Claims

/-- Every lane operation of `vu` completes with the lanes of Tables 9-1 and 9-3 and R236 to R240 after its latency, and
raises the OR of their flags (R228, R229). -/
def Sys2Proof.Claims.VectorLaneResults : Prop :=
  ∀ (s : State) (m : TrigMove) (v : Wide) (t : Tile), ∀ r ∈ laneRows, Starts s r.code m v t →
    let f (i : Nat) := r.lane (s.me.vctl.toNat % 4) i (t.latch 6 0) (t.latch 6 1) (t.latch 6 2) v
    exec (r.instr m) s = .next (s.issued m (t.result 6 s.clk r.lat true (mkWide fun i => BitVec.ofNat 32 (f i).1)
      (orFlags fun i => (f i).2)))

/-- Every comparison of `vu` gives its lane mask as a narrow result (R227, R234). -/
def Sys2Proof.Claims.VectorComparisons : Prop :=
  ∀ (s : State) (m : TrigMove) (v : Wide) (t : Tile), ∀ r ∈ compareRows, Starts s r.2.1 m v t →
    let f (i : Nat) := r.2.2.2 (lane (t.latch 6 0) i) (lane v i)
    exec (r.1 m) s = .next (s.issued m (t.result 6 s.clk r.2.2.1 false (wideOf (laneMask fun i => (f i).1))
      (orFlags fun i => (f i).2)))

/-- `rsum` and `rmax` combine the sixteen lanes of X over the tree of R241, with `fadd` and `fmax` at each node (R241, R242). -/
def Sys2Proof.Claims.VectorReductions : Prop :=
  ∀ (s : State) (m : TrigMove) (v : Wide) (t : Tile),
    let sum := treeNode (fadd (s.me.vctl.toNat % 4)) v 4 0
    let top := treeNode (fminmax true) v 4 0
    (Starts s 0x829 m v t → exec (.vuRsum m) s = .next (s.issued m (t.result 6 s.clk 6 false (wideOf sum.1) sum.2))) ∧
    (Starts s 0x82A m v t → exec (.vuRmax m) s = .next (s.issued m (t.result 6 s.clk 4 false (wideOf top.1) top.2)))

/-- The results of `vu`. -/
def Obligations.VectorResults : Prop := VectorLaneResults ∧ VectorComparisons ∧ VectorReductions

/-- The loads of one address read the bytes at the effective address as they stand, three cycles before their result, and
step the address in MODE 2 (R271, R272, R281). -/
def Sys2Proof.Claims.Loads : Prop :=
  ∀ (s : State) (m : TrigMove) (v : Wide) (t : Tile), ∀ r ∈ loadRows, Starts s r.code m v t →
    let aw := t.latchN 5 0
    let ea := lsAddr aw (narrowOf v).toInt r.z
    (r.hasScope = true → aw.toNat / 2 ^ 28 < 12) → lsFits s ea r.z r.z → noPending s (wordsOf ea.toNat r.z) →
    exec (r.instr m) s = .next (s.issued m (lsStep aw (narrowOf v).toInt
      ((if s.me.poisoned ea.toNat r.z then t.setCir 0 else t).result 5 s.clk 3 r.wide (r.value (s.me.mem ea.toNat r.z)))))

/-- `ldvt` gathers one word of each of sixteen rows PITCH words apart (R273). -/
def Sys2Proof.Claims.Gathers : Prop :=
  ∀ (s : State) (m : TrigMove) (v : Wide) (t : Tile), Starts s 0x707 m v t →
    let aw := t.latchN 5 0
    let w := narrowOf v
    let ea := lsAddr aw (halfIndex w) 4
    let pitch := w.toNat / 2 ^ 16 % 2 ^ 12
    let row (i : Nat) : Nat := ea.toNat + 4 * pitch * i
    lsFits s ea 4 (60 * pitch + 4) → noPending s ((upTo 16).map row) →
    exec (.lsLdvt m) s = .next (s.issued m (lsStep aw (halfIndex w)
      ((if (upTo 16).any (fun i => s.me.poisoned (row i) 4) then t.setCir 0 else t).result 5 s.clk 5 true
        (mkWide fun i => BitVec.ofNat 32 (s.me.mem (row i) 4)))))

/-- The loads of `ls`. -/
def Obligations.LoadResults : Prop := Loads ∧ Gathers

/-- The plain stores write the low bytes of B at the effective address (R274); after a fence of their class, other agents
see them only once the accesses before the fence have been performed (R384). -/
def Sys2Proof.Claims.Stores : Prop :=
  ∀ (s : State) (m : TrigMove) (v : Wide) (t : Tile), ∀ r ∈ storeRows, Starts s r.2.1 m v t →
    let aw := t.latchN 5 0
    let ea := lsAddr aw (narrowOf v).toInt r.2.2
    lsFits s ea r.2.2 r.2.2 →
    exec (r.1 m) s = .next (s.issued m (lsStep aw (narrowOf v).toInt
      ((holding t (aw.toNat / 2 ^ 24 % 16) (fencedIds t (aw.toNat / 2 ^ 24 % 16)) ea.toNat r.2.2).lsWrite s.clk ea.toNat
        (toBytes r.2.2 (t.latch 5 1).toNat))))

/-- The bytes of a plain store: those stored read as B's, every other byte of every tile's local store reads as before,
and so does every register of the tile but latch `ls.a` (R274). -/
def Obligations.StoreFrame : Prop :=
  ∀ (s : State) (m : TrigMove) (v : Wide) (t : Tile), ∀ r ∈ storeRows, Starts s r.2.1 m v t →
    let aw := t.latchN 5 0
    let ea := lsAddr aw (narrowOf v).toInt r.2.2
    lsFits s ea r.2.2 r.2.2 →
    ∃ s', exec (r.1 m) s = .next s' ∧
      (∀ i < r.2.2, lsByte s' s.cur (ea.toNat + i) = BitVec.ofNat 8 ((t.latch 5 1).toNat / 256 ^ i)) ∧
      (∀ a, a < ea.toNat ∨ ea.toNat + r.2.2 ≤ a → lsByte s' s.cur a = lsByte s s.cur a) ∧
      (∀ k, k ≠ s.cur → s'.tile k = s.tile k) ∧
      (s'.bank, s'.hbm, s'.csram, s'.rsram, s'.host) = (s.bank, s.hbm, s.csram, s.rsram, s.host) ∧
      (s'.tile s.cur).x = s.me.x ∧ (s'.tile s.cur).g = s.me.g ∧ (s'.tile s.cur).vstat = s.me.vstat ∧
      (s'.tile s.cur).ac = s.me.ac ∧ (s'.tile s.cur).m = s.me.m ∧ (s'.tile s.cur).cc = s.me.cc ∧
      ((s'.tile s.cur).tstat, (s'.tile s.cur).tcause, (s'.tile s.cur).tepc, (s'.tile s.cur).tinfo) =
        (s.me.tstat, s.me.tcause, s.me.tepc, s.me.tinfo)

/-- `stvm` writes lane i of B at ea + 4i only where bit 16 + i of its trigger value is 1 (R274). -/
def Sys2Proof.Claims.MaskedStores : Prop :=
  ∀ (s : State) (m : TrigMove) (v : Wide) (t : Tile), Starts s 0x70F m v t →
    let aw := t.latchN 5 0
    let w := narrowOf v
    let ea := lsAddr aw (halfIndex w) 64
    lsFits s ea 64 64 →
    ∃ s', exec (.lsStvm m) s = .next s' ∧
      (∀ i < 16, w.getLsbD (16 + i) = true → ∀ j < 4,
        lsByte s' s.cur (ea.toNat + 4 * i + j) = BitVec.ofNat 8 ((lane (t.latch 5 1) i).toNat / 256 ^ j)) ∧
      (∀ i < 16, w.getLsbD (16 + i) = false → ∀ j < 4,
        lsByte s' s.cur (ea.toNat + 4 * i + j) = lsByte s s.cur (ea.toNat + 4 * i + j)) ∧
      (∀ a, a < ea.toNat ∨ ea.toNat + 64 ≤ a → lsByte s' s.cur a = lsByte s s.cur a)

/-- A release store writes as `stw` and `std`, and is held from other agents until the outstanding accesses that it orders
have been performed (R276). -/
def Sys2Proof.Claims.ReleaseStores : Prop :=
  ∀ (s : State) (m : TrigMove) (v : Wide) (t : Tile), ∀ r ∈ releaseRows, Starts s r.2.1 m v t →
    let aw := t.latchN 5 0
    let ea := lsAddr aw (narrowOf v).toInt r.2.2
    let cls := aw.toNat / 2 ^ 24 % 16
    let ids := t.before s.cur { cls, relmask := s.me.relmask, touches := touching [(windowAt s.cur ea.toNat, r.2.2)] }
    aw.toNat / 2 ^ 28 < 12 → s.me.fenceWait cls = false → lsFits s ea r.2.2 r.2.2 →
    ∃ s', exec (r.1 m) s = .next s' ∧
      (∀ i < r.2.2, lsByte s' s.cur (ea.toNat + i) = BitVec.ofNat 8 ((t.latch 5 1).toNat / 256 ^ i)) ∧
      (∀ a, a < ea.toNat ∨ ea.toNat + r.2.2 ≤ a → lsByte s' s.cur a = lsByte s s.cur a) ∧
      (ids ≠ [] → ({ id := 2 ^ 64 + t.holdNo, addr := ea.toNat, len := r.2.2, cls, ids } : HeldStore) ∈ (s'.tile s.cur).heldStores)

/-- The stores of `ls`. -/
def Obligations.StoreEffects : Prop := Stores ∧ MaskedStores ∧ ReleaseStores

/-- A read-modify-write opens its window: its word is read and written at the end of the window, and its result stands in
cycle c + 3 (R282, R284). -/
def Obligations.ReadModifyWrites : Prop :=
  ∀ (s : State) (m : TrigMove) (v : Wide) (t : Tile), ∀ r ∈ rmwRows, Starts s r.2 m v t →
    let a : Nat := (narrowOf v).toNat % 2 ^ 17
    let cls := (narrowOf v).toNat / 2 ^ 24 % 16
    let held (a : Nat) := holding t cls (fencedIds t cls) a 4
    lsFits s a 4 4 → noPending s (wordsOf a 4) →
    exec (r.1 m) s = .next (s.issued m { (held a).result 5 s.clk 3 false 0 with
      rmws := t.rmws ++ [{ cyc := s.clk, op := r.2 % 256, addr := a, d := lane (t.latch 5 1) 0, n := lane (t.latch 5 1) 1, seq := t.seq }] })

/-- A ring operation on a legal descriptor is started: it is performed in the next cycle, and its result stands in c + 2
(R286, R287). -/
def Obligations.RingOperations : Prop :=
  ∀ (s : State) (m : TrigMove) (v : Wide) (t : Tile), ∀ r ∈ ringRows, Starts s r.2.1 m v t →
    let a : Nat := (t.latchN 5 0).toNat % 2 ^ 17 / 16 * 16
    lsFits s a 16 16 → ringOk s.me.sup (s.me.ringWords a) = true → noPending s (wordsOf a 16) →
    exec (r.1 m) s = .next (s.issued m { (holding t 0 (fencedIds t 0) (a + 8) 8).result 5 s.clk 2 false 0 with
      rings := t.rings ++ [{ cyc := s.clk, rel := r.2.2, addr := a, k := (narrowOf v).toNat % 512, seq := t.seq, sup := s.me.sup }] })

/-- The checks of a load or a plain store in the order of R280: a scope code from 12 up, misalignment, a byte below zero or
beyond the local store, a supervisor byte in program mode; TINFO holds the address (Table 11-4). -/
def Obligations.LoadStoreTraps : Prop :=
  ∀ (s : State) (m : TrigMove) (v : Wide) (t : Tile), ∀ r ∈ loadRows, Starts s r.code m v t →
    let aw := t.latchN 5 0
    let ea := lsAddr aw (narrowOf v).toInt r.z
    let at_ (a : Int) := info6 m r.code (a % 2 ^ 17).toNat
    (r.hasScope = true → 12 ≤ aw.toNat / 2 ^ 28 →
      exec (r.instr m) s = .next (trapped s .scopeInvalid (info6 m r.code (aw.toNat / 2 ^ 28)))) ∧
    ((r.hasScope = true → aw.toNat / 2 ^ 28 < 12) →
      (ea % r.z ≠ 0 → exec (r.instr m) s = .next (trapped s .lsAlign (at_ ea))) ∧
      (ea % r.z = 0 → ea < 0 → exec (r.instr m) s = .next (trapped s .lsRange (at_ ea))) ∧
      (ea % r.z = 0 → 0x18000 < ea + r.z → exec (r.instr m) s = .next (trapped s .lsRange (at_ (max ea 0x18000)))) ∧
      (ea % r.z = 0 → 0 ≤ ea → ea + r.z ≤ 0x18000 → 0x17000 < ea + r.z → s.me.sup = false →
        exec (r.instr m) s = .next (trapped s .privilege (at_ (max ea 0x17000)))))

/-- `scfg` places a register in stream mode from a legal descriptor, its position as given, its buffer empty, its
elements readable from c + 2; `sstop` takes
one register or all eight out of stream mode, which then hold zero, and saves their descriptors when asked (R288, R292). -/
def Obligations.StreamModes : Prop :=
  ∀ (s : State) (m : TrigMove) (v : Wide) (t : Tile),
    let w := (narrowOf v).toNat
    (Starts s 0x712 m v t →
      let a : Nat := (t.latchN 5 0).toNat % 2 ^ 17 / 32 * 32
      let st := streamOf (s.me.mem a 32)
      lsFits s a 32 32 → streamReserved (s.me.mem a 32) = false → st.bad s.me.sup = false →
      (s.me.sup = true ∨ st.supByte = none) →
      ∃ s', exec (.lsScfg m) s = .next s' ∧ (vget {} (s'.tile s.cur).streams (w % 8) : Stream) = { st with readyAt := s.clk + 2 } ∧ st.on = true ∧ st.buf = []) ∧
    (Starts s 0x713 m v t →
      let ks := if w / 8 % 2 = 1 then upTo 8 else [w % 8]
      let q : Nat := w % 2 ^ 17 / 32 * 32
      (w / 16 % 2 = 1 → lsFits s q 32 (32 * ks.length)) →
      ∃ s', exec (.lsSstop m) s = .next s' ∧
        (∀ k ∈ ks, (vget {} (s'.tile s.cur).streams k : Stream).on = false) ∧
        (∀ k ∈ ks, (vget {} t.streams k : Stream).on = true → (s'.tile s.cur).getV (24 + k) = 0) ∧
        (w / 16 % 2 = 1 → (s'.tile s.cur).lsRead q (32 * ks.length) =
          ks.flatMap fun k => (vget {} t.streams k : Stream).descriptor))

namespace Sys2Proof.Claims

open Machine

/-- The tile's context owns the matrix state and no macro operation is in progress (R33, R257). -/
def mxFree (t : Tile) : Prop := t.mxown.setWidth 16 = t.cid ∧ t.mac = none

/-- Every `mx` operation with its code (Table 5-3). -/
def mxRows : List ((TrigMove → Instr) × Nat) :=
  [(.mxOp4, 0x900), (.mxOp4z, 0x901), (.mxOp4d, 0x902), (.mxOp4i, 0x903), (.mxOp4s, 0x904), (.mxAcrd, 0x905),
   (.mxAcclr, 0x906), (.mxMma16, 0x907), (.mxMma16d, 0x908), (.mxMma16i, 0x909), (.mxMma16s, 0x90A), (.mxMrow, 0x90B),
   (.mxMcol, 0x90C), (.mxMrowr, 0x90D), (.mxMcolr, 0x90E), (.mxMacc, 0x90F), (.mxMzero, 0x910), (.mxMld, 0x911),
   (.mxMst, 0x912), (.mxMfmt, 0x913)]

/-- The `mx` operations that name a tile register in v[1:0]. -/
def mxRegRows : List ((TrigMove → Instr) × Nat) :=
  [(.mxMrow, 0x90B), (.mxMcol, 0x90C), (.mxMrowr, 0x90D), (.mxMcolr, 0x90E), (.mxMacc, 0x90F), (.mxMzero, 0x910),
   (.mxMld, 0x911), (.mxMst, 0x912), (.mxMfmt, 0x913)]

/-- The `op4` forms with the bytes of B (Table 10-2). -/
def op4Rows : List ((TrigMove → Instr) × Nat × Nat) :=
  [(.mxOp4, 0x900, 16), (.mxOp4z, 0x901, 16), (.mxOp4d, 0x902, 32), (.mxOp4i, 0x903, 16), (.mxOp4s, 0x904, 32)]

/-- MSHAPE of register d: configured, rows − 1, columns − 1, integer (R30). -/
def shape (t : Tile) (d : Nat) : Word := vget 0 t.mshape d
/-- CFG. -/
def isCfg (w : Word) : Bool := w.getLsbD 9
/-- INT. -/
def isInt (w : Word) : Bool := w.getLsbD 8
/-- ROWS. -/
def rowsOf (w : Word) : Nat := w.toNat % 16
/-- COLS. -/
def colsOf (w : Word) : Nat := w.toNat / 16 % 16

/-- Element (r, c) of `md` of a tile. -/
def elem (t : Tile) (d r c : Nat) : Word := vget 0 (t.mreg d) (16 * r + c)

/-- Element (r, c) exists in a register of this MSHAPE (R252). -/
def inShape (w : Word) (r c : Nat) : Bool := decide (r ≤ rowsOf w) && decide (c ≤ colsOf w)

/-- The element of `macc` (R254). -/
def maccOne (sh w e a : Word) : Word := if w.getLsbD 6 then a else if isInt sh then e + a else maccAdd e a

/-- The address of the format entry that a trigger reads (R263). -/
def entryAddr (t : Tile) : Nat :=
  let level := t.fmtt.toNat / 2 ^ 20 % 8
  t.fmtt.toNat % 2 ^ 17 / 16 * 16 + 16 * (if level < t.depth then (t.loop level).index.toNat % 16 else 0)

/-- The format entry. -/
def entryOf (t : Tile) : Nat := t.mem (entryAddr t) 16
/-- SEN of an entry (Table 10-5). -/
def senOf (e : Nat) : Bool := e / 2 ^ 63 % 2 = 1
/-- SCALE of an entry. -/
def scaleAt (e : Nat) : Nat := e / 2 ^ 32 % 2 ^ 17

/-- An entry that raises no MX_FORMAT of R264's first four cases. -/
def entryOk (t : Tile) : Prop :=
  let e := entryOf t
  entryAddr t + 16 ≤ lsLimit t ∧ t.poisoned (entryAddr t) 16 = false ∧ e < 2 ^ 64 ∧ e / 2 ^ 49 % 2 ^ 14 = 0 ∧
    e / 2 ^ 12 % 2 ^ 20 = 0 ∧ (senOf e = true → scaleAt e + 64 ≤ lsLimit t)

/-- The scales that an entry names. -/
def scalesOf (t : Tile) (e : Nat) : List Word := (upTo 16).map fun j => BitVec.ofNat 32 (t.mem (scaleAt e + 4 * j) 4)

/-- The bytes of A and of B of a form of Table 10-3, and the INT that its register needs. -/
structure MmaNeeds where
  a : Nat
  b : Nat
  int : Bool

/-- The row of Table 10-3 that an entry of `mma16` selects, if it is a legal triple (R264). -/
def entryNeeds (e : Nat) : Option MmaNeeds :=
  if e % 2 ^ 12 = 0x577 then some ⟨512, 512, false⟩
  else if e % 2 ^ 12 = 0x578 then some ⟨512, 1024, false⟩
  else if e % 16 ≤ 1 ∧ e / 16 % 16 ≤ 1 ∧ e / 256 % 16 = 3 ∧ senOf e = false then some ⟨512, 512, true⟩
  else none

/-- What every `mma16` form needs of its register D = v[27:26] and its operands (R258). -/
def mmaFits (t : Tile) (w : Word) (n : MmaNeeds) : Prop :=
  let sh := shape t (w.toNat / 2 ^ 26 % 4)
  isCfg sh = true ∧ rowsOf sh = 15 ∧ colsOf sh = 15 ∧ isInt sh = n.int ∧
    w.toNat / 2 ^ 13 % 2 ^ 13 * 16 + n.a ≤ lsLimit t ∧ w.toNat % 2 ^ 13 * 16 + n.b ≤ lsLimit t

/-- The tile with a macro operation begun: its accesses take their place in the tile's order (R257, R377). -/
def begun (t : Tile) (m : Macro) : Tile := { t with mac := some { m with id := t.reqNo }, reqNo := t.reqNo + 1 }

/-- Bytes of the footprint of `mld` and `mst` (R261). -/
def moveBytes (sh w : Word) : Nat :=
  let pitch := 64 * (w.toNat / 2 ^ 17 % 256 + 1)
  if w.getLsbD 2 then pitch * colsOf sh + 4 * (rowsOf sh + 1) else pitch * rowsOf sh + 4 * (colsOf sh + 1)

end Sys2Proof.Claims

/-- Every `mx` trigger raises MX_OWNER when the context does not own the matrix state, then MX_BUSY while a macro operation
is in progress or suspended; those that name a tile register then raise MX_UNCONFIGURED; TINFO holds v (R248). -/
def Obligations.MatrixChecks : Prop :=
  ∀ (s : State) (m : TrigMove) (v : Wide) (t : Tile),
    (∀ r ∈ mxRows, Starts s r.2 m v t → s.me.mxown.setWidth 16 ≠ s.me.cid →
      exec (r.1 m) s = .next (trapped s .mxOwner (info6 m r.2 (narrowOf v).toNat))) ∧
    (∀ r ∈ mxRows, Starts s r.2 m v t → s.me.mxown.setWidth 16 = s.me.cid → s.me.mac ≠ none →
      exec (r.1 m) s = .next (trapped s .mxBusy (info6 m r.2 (narrowOf v).toNat))) ∧
    (∀ r ∈ mxRegRows, Starts s r.2 m v t → mxFree s.me → isCfg (shape s.me ((narrowOf v).toNat % 4)) = false →
      exec (r.1 m) s = .next (trapped s .mxUnconfigured (info6 m r.2 (narrowOf v).toNat)))

/-- An `op4` form reads B at its trigger and puts its stage at the end of cycle c + 3, with its result in c + 4; `acrd`
stands the accumulator, and `acclr` clears it (R249 to R251). -/
def Obligations.AccumulatorForms : Prop :=
  ∀ (s : State) (m : TrigMove) (v : Wide) (t : Tile), mxFree s.me →
    (∀ r ∈ op4Rows, Starts s r.2.1 m v t →
      let b := (narrowOf v).toNat % 2 ^ 17 / r.2.2 * r.2.2
      b + r.2.2 ≤ lsLimit s.me →
      exec (r.1 m) s = .next (s.issued m { (if s.me.poisoned b r.2.2 then t.setCir 0 else t).result 7 s.clk 4 true 0 with
        op4s := t.op4s ++ [{ stageAt := s.clk + 3, seq := t.seq, code := r.2.1, v := narrowOf v, a := t.latch 7 0
                             b := s.me.lsRead b r.2.2, md := (t.latchN 7 1).setWidth 16 }] })) ∧
    (Starts s 0x905 m v t →
      exec (.mxAcrd m) s = .next (s.issued m (t.result 7 s.clk 1 true (mkWide fun i => vget 0 s.me.ac i)))) ∧
    (Starts s 0x906 m v t →
      ∃ s', exec (.mxAcclr m) s = .next s' ∧ (s'.tile s.cur).ac = Vector.replicate 16 0 ∧ (s'.tile s.cur).acAt s.clk = s.me.ac)

/-- The slice operations, `mzero` and `macc` on an existing row, column or register: the elements that exist take the lanes,
are read, or are cleared, and every other element keeps its value (R252 to R254). -/
def Obligations.TileRegisterForms : Prop :=
  ∀ (s : State) (m : TrigMove) (v : Wide) (t : Tile), mxFree s.me →
    let w := narrowOf v
    let d := w.toNat % 4
    let idx := w.toNat / 256 % 16
    let sh := shape s.me d
    let A := t.latch 7 0
    isCfg sh = true →
    (Starts s 0x90B m v t → idx ≤ rowsOf sh →
      ∃ s', exec (.mxMrow m) s = .next s' ∧ (∀ r < 16, ∀ c < 16,
        elem (s'.tile s.cur) d r c = if r = idx ∧ c ≤ colsOf sh then lane A c else elem s.me d r c) ∧
        (shape (s'.tile s.cur) d).getLsbD 10 = true) ∧
    (Starts s 0x90C m v t → idx ≤ colsOf sh →
      ∃ s', exec (.mxMcol m) s = .next s' ∧ (∀ r < 16, ∀ c < 16,
        elem (s'.tile s.cur) d r c = if c = idx ∧ r ≤ rowsOf sh then lane A r else elem s.me d r c) ∧
        (shape (s'.tile s.cur) d).getLsbD 10 = true) ∧
    (Starts s 0x90D m v t → idx ≤ rowsOf sh →
      exec (.mxMrowr m) s = .next (s.issued m (t.result 7 s.clk 2 true
        (mkWide fun c => if c ≤ colsOf sh then elem s.me d idx c else 0)))) ∧
    (Starts s 0x90E m v t → idx ≤ colsOf sh →
      exec (.mxMcolr m) s = .next (s.issued m (t.result 7 s.clk 2 true
        (mkWide fun r => if r ≤ rowsOf sh then elem s.me d r idx else 0)))) ∧
    (Starts s 0x910 m v t →
      ∃ s', exec (.mxMzero m) s = .next s' ∧ (∀ r < 16, ∀ c < 16,
        elem (s'.tile s.cur) d r c = if inShape sh r c then 0 else elem s.me d r c) ∧
        (shape (s'.tile s.cur) d).getLsbD 10 = true) ∧
    (Starts s 0x90F m v t →
      exec (.mxMacc m) s = .next (s.issued m { t with
        maccs := t.maccs ++ [{ cyc := s.clk, dst := d, br := w.toNat / 4 % 4, bc := w.toNat / 16 % 4
                               elems := (upTo 16).map fun k => maccOne sh w
                                 (elem s.me d (4 * (w.toNat / 4 % 4) + k / 4) (4 * (w.toNat / 16 % 4) + k % 4)) (vget 0 s.me.ac k) }] })) ∧
    (∀ r ∈ [((.mxMrow m : Instr), 0x90B), (.mxMrowr m, 0x90D)], Starts s r.2 m v t → rowsOf sh < idx →
      exec r.1 s = .next (trapped s .mxRange (info6 m r.2 w.toNat))) ∧
    (∀ r ∈ [((.mxMcol m : Instr), 0x90C), (.mxMcolr m, 0x90E)], Starts s r.2 m v t → colsOf sh < idx →
      exec r.1 s = .next (trapped s .mxRange (info6 m r.2 w.toNat)))

/-- The `mma16` forms begin their steps in the next cycle: 128 steps for `mma16`, 64 for the others, with the entry and the
scales captured at the trigger where the form uses them (R257, R258, R260). -/
def Obligations.MatrixMultiplies : Prop :=
  ∀ (s : State) (m : TrigMove) (v : Wide) (t : Tile), mxFree s.me →
    let w := narrowOf v
    let e := entryOf s.me
    let read := if senOf e && s.me.poisoned (scaleAt e) 64 then t.setCir 0 else t
    let scaled := s.issued m (begun read
      { code := 0x908, v := w, n := 64, done := 0, base := s.clk + 1, entry := BitVec.ofNat 128 e
        scales := if senOf e then scalesOf s.me e else [] })
    (Starts s 0x909 m v t → mmaFits s.me w ⟨256, 256, true⟩ →
      exec (.mxMma16i m) s = .next (s.issued m (begun t { code := 0x909, v := w, n := 64, done := 0, base := s.clk + 1 }))) ∧
    (Starts s 0x90A m v t → mmaFits s.me w ⟨288, 512, false⟩ →
      exec (.mxMma16s m) s = .next (s.issued m (begun t { code := 0x90A, v := w, n := 64, done := 0, base := s.clk + 1 }))) ∧
    (Starts s 0x908 m v t → entryOk s.me → mmaFits s.me w ⟨256, 512, false⟩ → exec (.mxMma16d m) s = .next scaled) ∧
    (∀ n, Starts s 0x907 m v t → entryOk s.me → entryNeeds e = some n → mmaFits s.me w n →
      exec (.mxMma16 m) s = .next (s.issued m (begun read
        { code := 0x907, v := w, n := 128, done := 0, base := s.clk + 1, entry := BitVec.ofNat 128 e
          scales := if senOf e then scalesOf s.me e else [] })))

/-- `mld` and `mst` begin sixteen steps in the next cycle when their footprint lies within what the mode may reach, and raise
LS_RANGE or PRIVILEGE where it does not (R261); what `mst` writes after a fence of class 0 is seen by others only once the
accesses before the fence have been performed (R384). -/
def Obligations.TileMoves : Prop :=
  ∀ (s : State) (m : TrigMove) (v : Wide) (t : Tile), mxFree s.me →
    ∀ r ∈ [((.mxMld m : Instr), 0x911), (.mxMst m, 0x912)], Starts s r.2 m v t →
    let w := narrowOf v
    let sh := shape s.me (w.toNat % 4)
    let last := w.toNat % 2 ^ 17 / 64 * 64 + moveBytes sh w
    let mac : Macro := { code := r.2, v := w, n := 16, done := 0, base := s.clk + 1, rows := rowsOf sh + 1, cols := colsOf sh + 1 }
    isCfg sh = true →
    (last ≤ lsLimit s.me → (r.2 = 0x911 ∨ fencedIds t 0 = []) → exec r.1 s = .next (s.issued m (begun t mac))) ∧
    (last ≤ lsLimit s.me → ∃ s', exec r.1 s = .next s' ∧ ∃ id, (s'.tile s.cur).mac = some { mac with id }) ∧
    (0x18000 < last → exec r.1 s = .next (trapped s .lsRange (info6 m r.2 w.toNat))) ∧
    (0x17000 < last → last ≤ 0x18000 → s.me.sup = false →
      exec r.1 s = .next (trapped s .privilege (info6 m r.2 w.toNat)))

/-- `mfmt` rewrites every existing element and sets INT: KIND 0 from integer to FP32, KIND 1 from FP32 to integer, KIND 2 by
its column's scale; a register of the wrong format raises MX_SHAPE, and KIND 3 raises MX_FORMAT (R256). -/
def Obligations.FormatChanges : Prop :=
  ∀ (s : State) (m : TrigMove) (v : Wide) (t : Tile), mxFree s.me → Starts s 0x913 m v t →
    let w := narrowOf v
    let d := w.toNat % 4
    let kind := w.toNat / 4 % 4
    let sh := shape s.me d
    let e := entryOf s.me
    let done (int : Bool) (f : Nat → Word → Word) := ∃ s', exec (.mxMfmt m) s = .next s' ∧
      (∀ r < 16, ∀ c < 16, elem (s'.tile s.cur) d r c = if inShape sh r c then f c (elem s.me d r c) else elem s.me d r c) ∧
      isInt (shape (s'.tile s.cur) d) = int ∧ (shape (s'.tile s.cur) d).getLsbD 10 = true
    isCfg sh = true →
    (kind = 0 → isInt sh = true → done false fun _ x => mfmtFloat x) ∧
    (kind = 1 → isInt sh = false → done true fun _ x => mfmtInt x) ∧
    (kind = 2 → isInt sh = false → entryOk s.me → senOf e = true →
      done false fun c x => scaleElem x (nth 0 (scalesOf s.me e) c)) ∧
    (kind = 0 → isInt sh = false → exec (.mxMfmt m) s = .next (trapped s .mxShape (info6 m 0x913 w.toNat))) ∧
    (kind = 1 ∨ kind = 2 → isInt sh = true → exec (.mxMfmt m) s = .next (trapped s .mxShape (info6 m 0x913 w.toNat))) ∧
    (kind = 3 → exec (.mxMfmt m) s = .next (trapped s .mxFormat (info6 m 0x913 w.toNat)))

namespace Sys2Proof.Claims

open Machine

/-- A far form of `ch` from its OPF: what it does at each destination, its destinations from g, its alignment, the
permission it needs (0 read, 1 write, 2 atomic and reduce), its register, and the CH_OPERAND reason of its operand, if any. -/
structure FarRow where
  instr : TrigMove → Instr
  code : Nat
  kind : Nat → FarKind
  dests : Nat → Nat → List Nat := fun _ g => [g]
  align : Nat
  need : Nat
  reg : Nat → Nat := fun _ => 0
  reason : Nat → Option Nat := fun _ => none

/-- A single-word atomic (R304). -/
def atomicRow (instr : TrigMove → Instr) (code op : Nat) : FarRow :=
  { instr, code, kind := fun _ => .atomic op 4, align := 4, need := 2, reg := fun o => o % 64 }

/-- The far loads, stores, reductions and atomics (R299 to R304). -/
def farRows : List FarRow :=
  [ { instr := .chFld, code := 0xA03, kind := fun _ => .load 4, align := 4, need := 0, reg := fun o => o % 64 },
    { instr := .chFldv, code := 0xA04, kind := fun _ => .load 64, align := 64, need := 0, reg := fun o => o % 32 },
    { instr := .chFst, code := 0xA05, kind := fun _ => .store 4, align := 4, need := 1 },
    { instr := .chFstv, code := 0xA06, kind := fun _ => .store 64, align := 64, need := 1 },
    { instr := .chFstm, code := 0xA07, kind := fun _ => .multi, align := 64, need := 1,
      dests := fun o g => (upTo (o % 64 + 1)).map fun i => (g + i * 2 ^ (o / 64 % 64)) % 2 ^ 52,
      reason := fun o => if o / 64 % 64 < 6 ∨ 47 < o / 64 % 64 then some 1 else none },
    { instr := .chFstred, code := 0xA08, kind := fun o => .reduce (o / 2 ^ 10), align := 64, need := 2,
      dests := fun o g => (upTo (o % 16 + 1)).map fun i => (g + i * 2 ^ (o / 16 % 64)) % 2 ^ 52,
      reason := fun o => if o / 16 % 64 < 6 ∨ 47 < o / 16 % 64 then some 1 else if 8 ≤ o / 2 ^ 10 then some 2 else none },
    { instr := .chBred, code := 0xA14, kind := fun o => .reduce (o % 16), align := 64, need := 2,
      reason := fun o => if 8 ≤ o % 16 then some 2 else none },
    atomicRow .chBadd 0xA09 0, atomicRow .chBaddf 0xA0A 1, atomicRow .chBaddh 0xA0B 2, atomicRow .chBmin 0xA0C 3,
    atomicRow .chBmax 0xA0D 4, atomicRow .chBand 0xA0E 5, atomicRow .chBor 0xA0F 6, atomicRow .chBxor 0xA10 7,
    atomicRow .chBswap 0xA11 8, atomicRow .chBcas 0xA12 9,
    { instr := .chBcasd, code := 0xA13, kind := fun _ => .atomic 9 8, align := 8, need := 2, reg := fun o => o % 64,
      reason := fun o => if o % 2 = 1 then some 3 else none } ]

/-- The global address of an address word and a far-address word (R295). -/
def globalAddr (faw a : Word) : Nat := faw.toNat % 2 ^ 20 * 2 ^ 32 + a.toNat

/-- The far-address word has bits [31:29] zero (R196, R298). -/
def fawClean (faw : Word) : Prop := faw.toNat < 2 ^ 29

/-- The ORD bit and scope of a far-control word keep R298. -/
def scopeFits (w : Word) : Prop := w.getLsbD 23 = true → w.toNat / 2 ^ 28 < 12

/-- MODE 3 in the local-store window (R298). -/
def mode3 (faw : Word) (a : Nat) : Bool := decide (faw.toNat / 2 ^ 20 % 4 = 3) && decide (region a = .window)

/-- No fence, limit, handover or full egress holds a far access of this class, kind and register back (R300, R360, R491,
R523). -/
def farOpen (s : State) (cls : Nat) (kind : FarKind) (reg need : Nat) (as : List Nat) : Prop :=
  s.me.fenceWait cls = false ∧ s.me.farLimit { id := 0, kind, dests := [], issuedAt := 0, reg } = false ∧
    (s.provisional s.cur && decide (need = 1) && as.any fun a => identityReg a kind.size) = false ∧
    s.egressFull s.cur = false

/-- A copy's offsets and length that R306 allows. -/
def copyFits (src dst n : Nat) : Prop :=
  n ≠ 0 ∧ n % 4 = 0 ∧ src % 4 = 0 ∧ dst % 4 = 0 ∧ src + n ≤ 0x17000 ∧ dst + n ≤ 0x17000

/-- H + 38X between this tile and another of its launch (R307, R310). -/
def wayOf (s : State) (l : Launch) (tlin : Nat) : Nat := meshTime (l.tileOf s.me.tlin) (l.tileOf tlin)

/-- A copy in a tile's egress: what, how much, from where, to where, and its first cycle (R306, R307). -/
def copyIs (c : CopyReq) (kind : CopyKind) (src len tile dst start : Nat) : Prop :=
  c.kind = kind ∧ c.src = src ∧ c.len = len ∧ c.dstTile = tile ∧ c.dst = dst ∧ c.start = start

/-- Lane i of `ch.c` as a number. -/
def chC (t : Tile) (i : Nat) : Nat := (lane (t.latch 8 2) i).toNat

/-- What R311 asks of a transfer's fields and pattern; `w` and `h` are the launch's. -/
def dealFits (crown : Bool) (w h len blk p x0 y0 wd base : Nat) : Prop :=
  len ≠ 0 ∧ len % 4 = 0 ∧ blk ≠ 0 ∧ blk % 4 = 0 ∧ base % 4 = 0 ∧ p ≠ 0 ∧
    (if crown then p = 1
     else p ≤ w * h ∧ wd ≠ 0 ∧ wd ≤ w ∧ (∀ q < p, x0 + q % wd < w ∧ y0 + q / wd < h)) ∧
    (∀ o < len, base + o / blk / p * blk + o % blk < 0x17000)

/-- A footprint that R329 and R298 allow under a far-address word. -/
def footFits (t : Tile) (faw : Word) (f : Option (Int × Nat)) (need : Nat) : Prop :=
  footBad f = false ∧ ∀ x, f = some x → t.farAllowed faw.toNat x.1.toNat x.2 need = true

/-- Table 12-6: the conditions of `waddr` on the word w and B. -/
def waitCond (c : Nat) (w b : Word) : Prop :=
  (c = 0 ∧ w = b) ∨ (c = 1 ∧ w ≠ b) ∨ (c = 2 ∧ b.toInt ≤ w.toInt) ∨ (c = 3 ∧ w.toInt < b.toInt) ∨ (c = 4 ∧ b.toNat ≤ w.toNat) ∨
    (c = 5 ∧ w.toNat < b.toNat) ∨ (c = 6 ∧ w &&& b ≠ 0)

end Sys2Proof.Claims

/-- A far form that nothing holds back and that passes the checks of R298 leaves as one request: its kind, its
destinations, its data as `ch.c` holds it now, its register, and the fields of its far-control word; a reduction or an
atomic takes the tile's next sequence number (R295, R299 to R305). -/
def Obligations.FarRequests : Prop :=
  ∀ (s : State) (m : TrigMove) (v : Wide) (t : Tile), ∀ r ∈ farRows, Starts s r.code m v t →
    let w := narrowOf v
    let o := w.toNat % 2 ^ 14
    let faw := t.latchN 8 3
    let as := r.dests o (globalAddr faw (t.latchN 8 0))
    let cls := w.toNat / 2 ^ 24 % 16
    farOpen s cls (r.kind o) (r.reg o) r.need as → scopeFits w → r.reason o = none → fawClean faw →
    (∀ a ∈ as, mode3 faw a = false ∧ a % r.align = 0 ∧ s.me.farAllowed faw.toNat a (r.kind o).size r.need = true) →
    ∃ s', exec (r.instr m) s = .next s' ∧ (∃ q ∈ (s'.tile s.cur).far, (s'.tile s.cur).far = t.far ++ [q] ∧
      q.id = s.me.reqNo ∧ q.kind = r.kind o ∧ q.dests.map (fun d => d.addr.toNat) = as ∧ q.data = t.latch 8 2 ∧
      q.issuedAt = s.clk ∧ q.reg = r.reg o ∧ q.gs = w.toNat / 2 ^ 20 % 8 ∧ q.cls = cls ∧
      q.cc = (if w.getLsbD 15 then some (w.toNat / 2 ^ 16 % 16) else none) ∧ q.look = o / 2 ^ 8 % 16 ∧ q.phase = .sent ∧
      q.seqNo = s.me.seqNo) ∧
      (s'.tile s.cur).reqNo = s.me.reqNo + 1 ∧
      (s'.tile s.cur).seqNo = (if r.need = 2 then s.me.seqNo + 1 else s.me.seqNo) ∧
      (s'.tile s.cur).ls = s.me.ls ∧ (s'.tile s.cur).x = s.me.x ∧ (s'.tile s.cur).v = s.me.v

/-- The checks of a far form in the order of R298: scope, operand, far-address word, MODE, alignment, permission; TINFO
holds the detail of Table 12-4, for the first destination that fails. -/
def Obligations.FarChecks : Prop :=
  ∀ (s : State) (m : TrigMove) (v : Wide) (t : Tile), ∀ r ∈ farRows, Starts s r.code m v t →
    let w := narrowOf v
    let o := w.toNat % 2 ^ 14
    let faw := t.latchN 8 3
    let as := r.dests o (globalAddr faw (t.latchN 8 0))
    let at_ (a : Option Nat) : Nat := info6 m r.code (a.getD 0 % 2 ^ 32)
    let allowed (a : Nat) : Bool := s.me.farAllowed faw.toNat a (r.kind o).size r.need
    farOpen s (w.toNat / 2 ^ 24 % 16) (r.kind o) (r.reg o) r.need as →
    (w.getLsbD 23 = true → 12 ≤ w.toNat / 2 ^ 28 →
      exec (r.instr m) s = .next (trapped s .scopeInvalid (info6 m r.code (w.toNat / 2 ^ 28)))) ∧
    (scopeFits w → ∀ k, r.reason o = some k → exec (r.instr m) s = .next (trapped s .chOperand (info6 m r.code k))) ∧
    (scopeFits w → r.reason o = none → 2 ^ 29 ≤ faw.toNat →
      exec (r.instr m) s = .next (trapped s .chOperand (info6 m r.code 12))) ∧
    (scopeFits w → r.reason o = none → fawClean faw →
      ((∃ a ∈ as, mode3 faw a = true) →
        exec (r.instr m) s = .next (trapped s .addrMode (at_ (as.find? (mode3 faw))))) ∧
      ((∀ a ∈ as, mode3 faw a = false) → (∃ a ∈ as, a % r.align ≠ 0) →
        exec (r.instr m) s = .next (trapped s .farAlign (at_ (as.find? fun a => decide (a % r.align ≠ 0))))) ∧
      ((∀ a ∈ as, mode3 faw a = false ∧ a % r.align = 0) → (∃ a ∈ as, allowed a = false) →
        exec (r.instr m) s = .next (trapped s .farPerm (at_ (as.find? fun a => !allowed a)))))

/-- `send` and `halo` take copies into the tile's egress in order, the first starting as soon as the egress is free;
with no destination inside the rectangle nothing is sent; what R306 forbids is CH_OPERAND reason 4. `spawn` asks, waits,
and issues once its request has been accepted; out of the spawn rows it traps (R306, R307, R308, R310). -/
def Obligations.CopiesAndSpawn : Prop :=
  ∀ (s : State) (m : TrigMove) (v : Wide) (t : Tile),
    let w := narrowOf v
    let a := (t.latchN 8 0).toNat
    let d := (t.latchN 8 3).toNat
    let now := max s.clk s.me.egressFree
    let strip (i : Nat) : Nat := s.me.mem (a % 2 ^ 17 / 32 * 32 + 8 * i) 8
    let open_ (i : Nat) : Prop := w.getLsbD i = true ∧ strip i / 2 ^ 20 % 2 ^ 12 ≠ 0
    (Starts s 0xA00 m v t →
      let src := a % 2 ^ 17
      let dst := (t.latchN 8 1).toNat % 2 ^ 17
      let n := w.toNat % 2 ^ 17
      (¬ copyFits src dst n → exec (.chSend m) s = .next (trapped s .chOperand (info6 m 0xA00 4))) ∧
      (copyFits src dst n → s.egressFull s.cur = false → ∀ l, s.me.launch.bind s.launch? = some l →
        let tgt := l.relTile s.me.tlin (sextNat (d % 2 ^ 10) 10) (sextNat (d / 2 ^ 16 % 2 ^ 10) 10) (d.testBit 31)
        ∃ s', exec (.chSend m) s = .next s' ∧
          (tgt = none → (s'.tile s.cur).copies = s.me.copies) ∧
          (∀ k, tgt = some k → s.isDual s.cur = false → ∃ c ∈ (s'.tile s.cur).copies,
            (s'.tile s.cur).copies = s.me.copies ++ [c] ∧ copyIs c .send src n (l.tileOf k) dst now ∧
            c.travel = 6 + wayOf s l k ∧ (s'.tile s.cur).egressFree = now + (n + 63) / 64))) ∧
    (Starts s 0xA01 m v t → a % 2 ^ 17 / 32 * 32 + 32 ≤ modeLimit s.me.sup →
      (∀ i < 4, open_ i → copyFits (strip i % 2 ^ 17) (strip i / 2 ^ 32 % 2 ^ 17) (4 * (strip i / 2 ^ 20 % 2 ^ 12))) →
      s.egressFull s.cur = false → s.isDual s.cur = false → ∀ l, s.me.launch.bind s.launch? = some l →
        let go := (upTo 4).filter fun i => decide (open_ i) && (l.relTile s.me.tlin (haloDir i).1 (haloDir i).2 false).isSome
        ∃ s', exec (.chHalo m) s = .next s' ∧ ∃ cs, (s'.tile s.cur).copies = s.me.copies ++ cs ∧
          cs.map (fun c => c.kind) = go.map CopyKind.halo ∧
          cs.map (fun c => (c.src, c.len, c.dst)) =
            go.map (fun i => (strip i % 2 ^ 17, 4 * (strip i / 2 ^ 20 % 2 ^ 12), strip i / 2 ^ 32 % 2 ^ 17))) ∧
    (Starts s 0xA02 m v t → ∀ l, s.me.launch.bind s.launch? = some l →
      (l.w * l.srows ≤ a → exec (.chSpawn m) s = .next (trapped s .spawnRange (info6 m 0xA02 (a % 2 ^ 32)))) ∧
      (a < l.w * l.srows →
        let mine (q : SpawnReq) : Prop := q.sup = s.me.sup ∧ q.target = l.tileOf (l.workers + a) ∧
          q.entry.toNat = w.toNat % 2 ^ 12 ∧ q.args = (upTo 8).map (fun i => lane (t.latch 8 2) i) ∧ q.wid = s.me.wid
        ((∀ q ∈ s.me.spawns, ¬ mine q) → s.egressFull s.cur = false →
          ∃ s', exec (.chSpawn m) s = .next s' ∧ (s'.tile s.cur).pc = s.me.pc ∧
            ∃ q ∈ (s'.tile s.cur).spawns, mine q ∧ q.answer = none ∧ q.arriveAt = s.clk + 6 + wayOf s l (l.workers + a) ∧
              q.answerAt = s.clk + 2 * (6 + wayOf s l (l.workers + a))) ∧
        (∀ q, s.me.spawns.find? (fun q => decide (mine q)) = some q → q.answerAt ≤ s.clk →
          (q.answer = some true → q.target ≠ s.cur →
            ∃ s', exec (.chSpawn m) s = .next s' ∧ (∀ r ∈ (s'.tile s.cur).spawns, r.sup ≠ s.me.sup) ∧
              (s.isTwin s.cur = false → ((s'.tile q.target).spawnIn.map fun r => r.startAt) =
                some (s.clk + 6 + wayOf s l (l.workers + a)))) ∧
          (q.answer = some false → exec (.chSpawn m) s = .next (trapped s .spawnBusy (info6 m 0xA02 a))))))

/-- `dma` and `dmaw` of a legal pattern enter the tile's transfers, their granules following its earlier commands one a
cycle; `coll` submits its descriptor, which reaches the bridge in 20 cycles (R311, R312, R314, R453). -/
def Obligations.EngineCommands : Prop :=
  ∀ (s : State) (m : TrigMove) (v : Wide) (t : Tile),
    let w := narrowOf v
    let cls := w.toNat / 2 ^ 24 % 16
    let ccn := w.toNat / 2 ^ 16 % 16
    let faw := t.latchN 8 3
    let g := globalAddr faw (t.latchN 8 0)
    let base := (t.latchN 8 1).toNat % 2 ^ 17
    let clear : Prop := s.me.fenceWait cls = false ∧ scopeFits w ∧ w.getLsbD 15 = true ∧ s.egressFull s.cur = false ∧
      s.isTwin s.cur = false
    (∀ r ∈ [(Instr.chDma, 0xA15, false), (Instr.chDmaw, 0xA16, true)], Starts s r.2.1 m v t → clear → fawClean faw →
      let len := chC t 0 % 2 ^ 30
      let blk := chC t 1
      let p := chC t 2 % 2 ^ 18
      let x0 := chC t 3 % 2 ^ 9
      let y0 := chC t 3 / 2 ^ 16 % 2 ^ 9
      let wd := chC t 4 % 2 ^ 10
      dealFits (isCrown s.cur) s.myW s.myH len blk p x0 y0 wd base → mode3 faw g = false → g % 4 = 0 →
      s.me.farAllowed faw.toNat g len (if r.2.2 then 1 else 0) = true →
      ∃ s', exec (r.1 m) s = .next s' ∧ ∃ d ∈ (s'.tile s.cur).dmas, (s'.tile s.cur).dmas = s.me.dmas ++ [d] ∧
        d.toGlobal = r.2.2 ∧ d.dest.addr.toNat = g ∧ (d.len, d.blk, d.p, d.x0, d.y0, d.wd, d.base) = (len, blk, p, x0, y0, wd, base) ∧
        d.cc = ccn ∧ d.cls = cls ∧ d.firstAt = max (s.clk + 1) s.me.dmaFree ∧ d.grans = [] ∧
        (s'.tile s.cur).dmaFree = d.firstAt + ((g + len - 1) / 64 - g / 64 + 1)) ∧
    (Starts s 0xA18 m v t → clear →
      let gr : Group := tabGet {} s.br.groups (chC t 0 / 2 ^ 8 % 2 ^ 16)
      let kind := chC t 0 % 16
      let rop := chC t 0 / 16 % 16
      let len := chC t 1
      let sfaw := lane (t.latch 8 2) 3
      let dfaw := lane (t.latch 8 2) 5
      let src := globalAddr sfaw (lane (t.latch 8 2) 2)
      let dst := globalAddr dfaw (lane (t.latch 8 2) 4)
      let dlen := (collSlice kind len gr.ranks 0).2
      kind < 4 → (kind < 2 → rop < 8) → len ≠ 0 → len % 64 = 0 → fawClean sfaw → fawClean dfaw →
      collRange src len = true → collRange dst dlen = true →
      s.me.farAllowed sfaw.toNat src len 0 = true → s.me.farAllowed dfaw.toNat dst dlen 1 = true →
      ∃ s', exec (.chColl m) s = .next s' ∧ ∃ q ∈ s'.br.subs, s'.br.subs = s.br.subs ++ [q] ∧ q.tile = s.cur ∧ q.kind = kind ∧
        q.rop = rop ∧ q.group = chC t 0 / 2 ^ 8 % 2 ^ 16 ∧ q.len = len ∧ q.src.addr.toNat = src ∧ q.dst.addr.toNat = dst ∧
        q.seqNo = chC t 6 ∧ q.cc = ccn ∧ q.arriveAt = s.clk + 20 ∧ (s'.tile s.cur).colls = s.me.colls + 1)

/-- `layout` of a legal command that its engine admits enters the engine's queue, and a command of no element enters nothing;
the command of a DUAL launch waits there to be compared first (R321, R323, R326, R328 to R330, R337). -/
def Obligations.LayoutCommands : Prop :=
  ∀ (s : State) (m : TrigMove) (v : Wide) (t : Tile),
    let w := narrowOf v
    let faw := t.latchN 8 3
    let g := globalAddr faw (t.latchN 8 0)
    Starts s 0xA17 m v t →
      s.me.fenceWait (w.toNat / 2 ^ 24 % 16) = false → scopeFits w → w.getLsbD 15 = true → s.egressFull s.cur = false →
      s.isTwin s.cur = false → fawClean faw → isCrown s.cur = false →
      let b := (t.latchN 8 1).toNat % 2 ^ 17 / 32 * 32
      let dmw := chC t 0 + 2 ^ 32 * chC t 1 + 2 ^ 64 * chC t 2 + 2 ^ 96 * chC t 3
      let block := s.me.lsRead b 160
      let h := shapeOf dmw block
      let global := chC t 6 % 4 = 0
      let dfaw := lane (t.latch 8 2) 5
      let dst := globalAddr dfaw (lane (t.latch 8 2) 4)
      let blk := chC t 7
      let p := chC t 8 % 2 ^ 18
      let x0 := chC t 9 % 2 ^ 9
      let y0 := chC t 9 / 2 ^ 16 % 2 ^ 9
      let wd := chC t 10 % 2 ^ 10
      let loc := chC t 11 % 2 ^ 17
      b + 160 ≤ modeLimit s.me.sup → dmwReason dmw = none → h.padMissing = false → h.bad block (modeLimit s.me.sup) = false →
      mode3 faw g = false → g % h.z = 0 → footFits s.me faw (h.srcFoot g) 0 → chC t 6 % 4 < 2 →
      (global → fawClean dfaw ∧ mode3 dfaw dst = false ∧ dst % h.z = 0 ∧ footFits s.me dfaw (h.dstFoot dst) 1) →
      (¬ global → dealFieldsBad false s.myW s.myH blk p x0 y0 wd loc = false ∧
        ∀ f, h.dstFoot 0 = some f → 0 ≤ f.1 ∧ dealEnd ((f.1.toNat + f.2 + 3) / 4 * 4) blk p loc ≤ 0x17000) →
      let eng := engKey (tileDie s.cur) (w.toNat % 4)
      let dual := s.isDual s.cur
      let queue (s : State) : List LayoutCmd := if dual then (s.engine eng).dualQ else (s.engine eng).cmds
      (if dual then (s.engine eng).cmds.length < 256 else s.mayAdmit s.cur eng = true) →
      ∃ s', exec (.chLayout m) s = .next s' ∧
        (dual = false → (s'.engine eng).admitAt = s.clk + 1 ∧ (s'.engine eng).lastAdmitted = some s.cur) ∧
        (dual = true → (s'.engine eng).cmds = (s.engine eng).cmds) ∧ (h.count = 0 → queue s' = queue s) ∧
        (h.count ≠ 0 → ∃ c ∈ queue s', queue s' = queue s ++ [c] ∧ c.tile = s.cur ∧
          c.admitted = s.clk ∧ c.dmw.toNat = dmw ∧ c.shape = block ∧ c.src.addr.toNat = g ∧
          c.dst.map (fun d => d.addr.toNat) = (if global then some dst else none) ∧
          (c.blk, c.p, c.x0, c.y0, c.wd, c.base) = (blk, p, x0, y0, wd, loc) ∧ c.cc = w.toNat / 2 ^ 16 % 16 ∧ c.elems = [])

/-- `ccset`, `ccclr` and `mbclr` write the counters and mailboxes that they name, and no others; `ccwait` and `mbwait`
wait until their condition holds and then issue; `waddr` issues when its condition holds and the tile's earlier accesses have been performed, or when its limit has passed
(R315 to R319, R378). -/
def Obligations.CountersAndWaits : Prop :=
  ∀ (s : State) (m : TrigMove) (v : Wide) (t : Tile),
    let w := (narrowOf v).toNat
    let a := t.latchN 8 0
    let c : Counter := vget {} s.me.cc (w % 16)
    let q := a.toNat % 2 ^ 17 / 4 * 4
    let word : Word := BitVec.ofNat 32 (s.me.mem q 4)
    let holds : Prop := waitCond (w % 8) word (t.latchN 8 1) ∧ s.me.openIds = []
    let waits (s' : State) : Prop := (s'.tile s.cur).pc = s.me.pc ∧ (s'.tile s.cur).g = s.me.g ∧ (s'.tile s.cur).nextAt = s.clk + 1
    (Starts s 0xA19 m v t → ∃ s', exec (.chCcset m) s = .next s' ∧
      (∀ i < 16, (vget {} (s'.tile s.cur).cc i : Counter) =
        if i = w % 16 then { count := BitVec.ofNat 30 a.toNat, status := 0 } else vget {} s.me.cc i)) ∧
    (Starts s 0xA1A m v t →
      (c.count ≠ 0 → c.status = 0 → ∃ s', exec (.chCcwait m) s = .next s' ∧ waits s') ∧
      (c.count = 0 ∨ c.status ≠ 0 → exec (.chCcwait m) s = .next (s.issued m (t.setGuard (w / 16 % 8) (decide (c.status = 0)))))) ∧
    (Starts s 0xA1B m v t → ∃ s', exec (.chCcclr m) s = .next s' ∧
      (∀ i < 16, (vget {} (s'.tile s.cur).cc i : Counter) = if w.testBit i then {} else vget {} s.me.cc i) ∧
      (let t' := s'.tile s.cur
       (t'.lstat, t'.lcc, t'.lidx, t'.nack) =
         if w.testBit 16 then (0, 0, 0, false) else (s.me.lstat, s.me.lcc, s.me.lidx, s.me.nack))) ∧
    (Starts s 0xA1C m v t → ∃ s', exec (.chMbclr m) s = .next s' ∧
      (∀ i < 4, (vget 0 (s'.tile s.cur).mb i : Word) = if w.testBit i then 0 else vget 0 s.me.mb i)) ∧
    (Starts s 0xA1D m v t → let n : Word := vget 0 s.me.mb (w % 4)
      (n.toNat < a.toNat → ∃ s', exec (.chMbwait m) s = .next s' ∧ waits s') ∧
      (a.toNat ≤ n.toNat → exec (.chMbwait m) s = .next (s.issued m t))) ∧
    (Starts s 0xA1E m v t →
      (w % 8 = 7 → exec (.chWaddr m) s = .next (trapped s .chOperand (info6 m 0xA1E 8))) ∧
      (w % 8 ≠ 7 → modeLimit s.me.sup < q + 4 → exec (.chWaddr m) s = .next (trapped s .chOperand (info6 m 0xA1E 13))) ∧
      (w % 8 ≠ 7 → q + 4 ≤ modeLimit s.me.sup →
        (holds → exec (.chWaddr m) s =
          .next (s.issued m { t.setGuard (w / 16 % 8) true with waddrAt := none, waddrOut := false })) ∧
        (¬ holds → s.me.waddrOut = true → exec (.chWaddr m) s =
          .next (s.issued m { t.setGuard (w / 16 % 8) false with waddrAt := none, waddrOut := false })) ∧
        (¬ holds → s.me.waddrOut = false → s.me.waddrAt = none →
          ∃ s', exec (.chWaddr m) s = .next s' ∧ waits s' ∧
            (s'.tile s.cur).waddrAt = if w / 2 ^ 8 = 0 then none else some (s.clk + 256 * (w / 2 ^ 8)))))

namespace Sys2Proof.Claims

open Machine

/-- The tile's launch has the BALANCE flag (R354). -/
def balOn (s : State) : Prop := ∃ l, s.me.launch.bind s.launch? = some l ∧ l.balance = true

/-- The tile's Balance state after a change, the rest as the issue leaves it. -/
def withBal (t : Tile) (f : Bal → Bal) : Tile := { t with bal := f t.bal }

/-- The Balance's state as a bundle of this cycle sees it: what a `load` of c brings is seen from c + 2 (R350). -/
def seen (s : State) : Bal := s.me.bal.view s.clk

/-- The group declaration of A and v: launch-relative x0, y0, width and height (Table 14-3). -/
def groupOf (a w : Nat) : Nat × Nat × Nat × Nat := (a % 2 ^ 9, a / 2 ^ 16 % 2 ^ 9, w % 2 ^ 9, w / 2 ^ 16 % 2 ^ 9)

/-- The declared rectangle contains the tile at linear index `i` and lies within w × h (Table 14-3). -/
def groupFits (g : Nat × Nat × Nat × Nat) (w h i : Nat) : Bool :=
  decide (g.1 ≤ i % w) && decide (i % w < g.1 + g.2.2.1) && decide (g.2.1 ≤ i / w) && decide (i / w < g.2.1 + g.2.2.2) &&
    decide (g.1 + g.2.2.1 ≤ w) && decide (g.2.1 + g.2.2.2 ≤ h)

/-- The Balance operations with the checks 3 and 4 of R354: code, needs no sweep in progress, needs LOADED. -/
def balRows : List ((TrigMove → Instr) × Nat × Bool × Bool) :=
  [(.balLoad, 0xB00, true, false), (.balSeed, 0xB01, true, false), (.balBeta, 0xB02, false, false), (.balClamp, 0xB03, true, true),
   (.balUnclamp, 0xB04, true, true), (.balSweep, 0xB05, true, true), (.balRdspin, 0xB06, true, true),
   (.balRdmarg, 0xB07, true, true), (.balClrmarg, 0xB08, true, false), (.balSeedrng, 0xB09, true, false),
   (.balGroup, 0xB0A, true, false), (.balLink, 0xB0B, true, true), (.balStateRead, 0xB0C, false, false),
   (.balSpin, 0xB0D, false, false)]

/-- The bytes of a readout (R352): the spins that exist, or the marginal counters. -/
def readoutBytes (b : Bal) (marg : Bool) : List Byte :=
  if marg then (upTo 1024).flatMap fun i => toBytes 2 (vget 0 b.marg i : Half).toNat
  else (upTo 128).map fun k => (BitVec.ofBoolListLE ((upTo 8).map fun j => decide (8 * k + j < b.n) && b.spins.getLsbD (8 * k + j))).setWidth 8

end Sys2Proof.Claims

/-- Every Balance operation is checked in the order of R354 up to BAL_STATE; in a launch without BALANCE all are BAL_OFF. -/
def Obligations.BalanceChecks : Prop :=
  ∀ (s : State) (m : TrigMove) (v : Wide) (t : Tile), ∀ r ∈ balRows, Starts s r.2.1 m v t →
    let trap (c : Cause) : Host.Outcome State Fault Refusal := .next (trapped s c (info6 m r.2.1))
    (¬ balOn s → exec (r.1 m) s = trap .balOff) ∧
    (balOn s → r.2.2.1 = true → s.me.bal.sweep.isSome = true → exec (r.1 m) s = trap .balBusy) ∧
    (balOn s → (r.2.2.1 = true → s.me.bal.sweep = none) → r.2.2.2 = true → (seen s).loaded = false →
      exec (r.1 m) s = trap .balState)

/-- The operations that only write the Balance's registers, and those that read them (Table 14-3). SEED of `seedrng` is an
open value, the same for every other effect (entries 6 and 67 of the log). -/
def Obligations.BalanceRegisters : Prop :=
  ∀ (s : State) (m : TrigMove) (v : Wide) (t : Tile),
    let w := narrowOf v
    let a := t.latchN 9 0
    let free : Prop := balOn s ∧ s.me.bal.sweep = none
    let i := w.toNat % 2 ^ 12
    let addr := a.toNat % 2 ^ 17 / 2 * 2
    let count := w.toNat / 4 % 2 ^ 7
    (Starts s 0xB01 m v t → free → exec (.balSeed m) s = .next (s.issued m (withBal t fun b =>
      { b with seed := BitVec.ofNat 64 (a.toNat + 2 ^ 32 * w.toNat), swn := 0, ent := false }))) ∧
    (Starts s 0xB02 m v t → balOn s → exec (.balBeta m) s = .next (s.issued m { t with beta := BitVec.ofNat 32 (w.toNat % 2 ^ 16) })) ∧
    (Starts s 0xB08 m v t → free → exec (.balClrmarg m) s =
      .next (s.issued m (withBal t fun b => { b with marg := Vector.replicate 1024 0, msat := false }))) ∧
    (Starts s 0xB09 m v t → free → s.isDual s.cur = false → ∃ s', exec (.balSeedrng m) s = .next s' ∧
      (s'.tile s.cur).bal = { s.me.bal with seed := (s'.tile s.cur).bal.seed, swn := 0, ent := true }) ∧
    (Starts s 0xB0A m v t → free → ∀ l, s.me.launch.bind s.launch? = some l →
      (w = 0 → exec (.balGroup m) s = .next (s.issued m (withBal t fun b => { b with group := none }))) ∧
      (w ≠ 0 → groupFits (groupOf a.toNat w.toNat) l.w l.h s.me.tlin = true → exec (.balGroup m) s =
        .next (s.issued m (withBal t fun b => { b with group := some (groupOf a.toNat w.toNat) }))) ∧
      (w ≠ 0 → groupFits (groupOf a.toNat w.toNat) l.w l.h s.me.tlin = false →
        exec (.balGroup m) s = .next (trapped s .balRange (info6 m 0xB0A)))) ∧
    (Starts s 0xB0B m v t → free → (seen s).loaded = true →
      (64 < count → exec (.balLink m) s = .next (trapped s .balRange (info6 m 0xB0B))) ∧
      (count ≤ 64 → addr + 2 * count ≤ modeLimit s.me.sup → exec (.balLink m) s = .next (s.issued m (withBal t fun b =>
        { b with links := vset b.links (w.toNat % 4) { addr, count } })))) ∧
    (Starts s 0xB0C m v t → balOn s → exec (.balStateRead m) s = .next (s.issued m (t.resultN 9 s.clk 1 s.me.bal.swn))) ∧
    (Starts s 0xB0D m v t → balOn s → exec (.balSpin m) s = .next (s.issued m (t.resultN 9 s.clk 2
      (if i < (seen s).n then flag ((seen s).spins.getLsbD i)
       else if 0x400 ≤ i ∧ i < 0x500 then flag ((seen s).halo.getLsbD (i - 0x400)) else 0xFFFFFFFF))))

/-- `load` waits for its scan, then takes the spins of the image, with every clamped variable at CVAL, the second half of
the image one cycle later, and no halo, all of it seen from c + 2; `clamp` and `unclamp` write the records' CLAMP and CVAL and no other bit, and
`clamp` the spins (R350, R351). -/
def Obligations.BalanceRecords : Prop :=
  ∀ (s : State) (m : TrigMove) (v : Wide) (t : Tile),
    let w := narrowOf v
    let a := (t.latchN 9 0).toNat
    let d := a % 2 ^ 17 / 32 * 32
    let i := w.toNat % 2 ^ 10
    let n := a % 16 + 1
    let rec_ (j : Nat) : Nat := (seen s).rbase + 8 * j
    (Starts s 0xB00 m v t → balOn s → s.me.bal.sweep = none → (scanWords s.me d).all (fun k => !s.me.lsPending.contains k) = true →
      (s.me.bal.scanAt = none → ∃ s', exec (.balLoad m) s = .next s' ∧ (s'.tile s.cur).pc = s.me.pc ∧
        (s'.tile s.cur).bal = { s.me.bal with scanAt := some (s.clk + scanTime s.me d) }) ∧
      (∀ c, s.me.bal.scanAt = some c → c ≤ s.clk →
        (∀ x, scanFault s.me d = some x → exec (.balLoad m) s = .next (trapped s x.1 (info6 m 0xB00 x.2))) ∧
        (scanFault s.me d = none →
          let word (k : Nat) : Nat := s.me.mem (d + 4 * k) 4
          let count := word 1 % 2 ^ 10 + 1
          let var (k : Nat) : VarRec := varRec (s.me.mem (word 0 % 2 ^ 17 + 8 * k) 8)
          let init (k : Nat) : Bool := (word 2).testBit 31 && (s.me.mem (word 2 / 64 % 2 ^ 11 * 64) 128).testBit k
          ∃ s', exec (.balLoad m) s = .next s' ∧ (s'.tile s.cur).bal.loaded = true ∧ (s'.tile s.cur).bal.halo = 0 ∧
            (s'.tile s.cur).bal.n = count ∧ (s'.tile s.cur).bal.ncol = word 1 / 2 ^ 16 % 8 + 1 ∧
            (s'.tile s.cur).bal.rbase = word 0 % 2 ^ 17 ∧
            (∀ k < 1024, (s'.tile s.cur).bal.spins.getLsbD k =
              if decide (k < count) && (var k).clamp then (var k).cval else init k) ∧
            ((s'.tile s.cur).bal.view (s.clk + 1)).loaded = s.me.bal.loaded ∧
            ((s'.tile s.cur).bal.view (s.clk + 1)).spins = s.me.bal.spins ∧
            ((s'.tile s.cur).bal.half.map fun h => (h.at_, h.addr)) =
              (if (word 2).testBit 31 then some (s.clk + 1, word 2 / 64 % 2 ^ 11 * 64 + 64) else none) ∧
            ((s'.tile s.cur).bal.marg, (s'.tile s.cur).bal.seed, (s'.tile s.cur).bal.swn, (s'.tile s.cur).bal.links) =
              (s.me.bal.marg, s.me.bal.seed, s.me.bal.swn, s.me.bal.links)))) ∧
    (∀ r ∈ [(Instr.balClamp, 0xB03, true), (Instr.balUnclamp, 0xB04, false)], Starts s r.2.1 m v t → balOn s →
      s.me.bal.sweep = none → (seen s).loaded = true →
      ((seen s).n < i + n → exec (r.1 m) s = .next (trapped s .balRange (info6 m r.2.1 i))) ∧
      (i + n ≤ (seen s).n → rec_ (i + n) ≤ modeLimit s.me.sup → ∃ s', exec (r.1 m) s = .next s' ∧
        (∀ j < 8 * n, ∀ b < 8, (lsByte s' s.cur (rec_ i + j)).getLsbD b =
          if j % 8 = 2 ∧ b = 4 then r.2.2 else if j % 8 = 2 ∧ b = 5 then r.2.2 && w.getLsbD 16
          else (lsByte s s.cur (rec_ i + j)).getLsbD b) ∧
        (∀ a, a < rec_ i ∨ rec_ (i + n) ≤ a → lsByte s' s.cur a = lsByte s s.cur a) ∧
        (∀ k < 1024, (s'.tile s.cur).bal.spins.getLsbD k =
          if r.2.2 = true ∧ i ≤ k ∧ k < i + n then w.getLsbD 16 else s.me.bal.spins.getLsbD k)))

/-- `sweep` begins its first phase in the next cycle with the β of BETA, and stands its result at its end, or in c + 2 when
there is nothing to run; `rdspin` and `rdmarg` land 64 bytes a cycle from c + 2 on (R348, R349, R352). -/
def Obligations.SweepsAndReadouts : Prop :=
  ∀ (s : State) (m : TrigMove) (v : Wide) (t : Tile), balOn s → s.me.bal.sweep = none → (seen s).loaded = true →
    let w := narrowOf v
    let a := t.latchN 9 0
    (Starts s 0xB05 m v t →
      (w.toNat % 2 ^ 16 = 0 → a.getLsbD 1 = false → exec (.balSweep m) s = .next (s.issued m (t.resultN 9 s.clk 2 0))) ∧
      (w.toNat % 2 ^ 16 ≠ 0 ∨ a.getLsbD 1 = true → ∃ s', exec (.balSweep m) s = .next s' ∧
        ∃ p, (s'.tile s.cur).bal = { s.me.bal with sweep := some p } ∧ p.total = w.toNat % 2 ^ 16 ∧ p.left = w.toNat % 2 ^ 16 ∧
          p.marg = a.getLsbD 0 ∧ p.prime = a.getLsbD 1 ∧ p.beta.toNat = s.me.beta.toNat % 2 ^ 16 ∧ p.phase = 0 ∧
          p.begun = s.clk + 1 ∧ p.stage = .updating)) ∧
    (∀ r ∈ [(Instr.balRdspin, 0xB06, false, 128), (Instr.balRdmarg, 0xB07, true, 2048)], Starts s r.2.1 m v t →
      let tgt := a.toNat % 2 ^ 17 / 64 * 64
      (modeLimit s.me.sup < tgt + r.2.2.2 → exec (r.1 m) s = .next (trapped s
        (if 0x18000 < tgt + r.2.2.2 then .lsRange else .privilege)
        (info6 m r.2.1 (if 0x18000 < tgt + r.2.2.2 then max tgt 0x18000 % 2 ^ 17 else max tgt 0x17000)))) ∧
      (tgt + r.2.2.2 ≤ modeLimit s.me.sup → ∃ s', exec (r.1 m) s = .next s' ∧ ∃ c ∈ (s'.tile s.cur).copies,
        (s'.tile s.cur).copies = s.me.copies ++ [c] ∧ c.kind = .readout ∧ c.dstTile = s.cur ∧ c.dst = tgt ∧ c.len = r.2.2.2 ∧
        c.groups = (upTo (r.2.2.2 / 64)).map fun g =>
          (64 * g, (((readoutBytes (seen s) r.2.2.1).drop (64 * g)).take 64).map (fun b => (b, false)), s.clk + 2 + g)))

namespace Sys2Proof.Claims

open Machine

/-- A row of Table 1-5 with its fields of Table 1-6: number, 64 bits wide, read and written in program mode, its value, and
what a write of `v` in cycle `clk` makes it, from the tile as the write finds it (R29, R30, R358). -/
structure CregRow where
  num : Nat
  wide : Bool := false
  pr : Bool := false
  pw : Bool := false
  get : Tile → Nat
  after : Tile → Nat → Nat → Nat

/-- A row whose write keeps the bits of a mask. -/
def maskRow (num mask : Nat) (get : Tile → Nat) (wide pr pw : Bool) : CregRow :=
  { num, wide, pr, pw, get, after := fun _ _ v => v &&& mask }

/-- The control registers (Table 1-5). -/
def cregRows : List CregRow :=
  [ { num := 0, pr := true, pw := true, get := fun t => t.tctl.toNat,
      after := fun t _ v => if t.sup then v &&& 0x31FFF else (v &&& 0x11FFF) ||| (t.tctl.toNat &&& 0x20000) },
    maskRow 1 3 (fun t => t.vctl.toNat) false true true,
    { num := 2, pr := true, pw := true, get := fun t => t.vstat.toNat,
      after := fun t clk v => (v &&& 0x3F) ||| (t.flagsOf clk).toNat } ] ++
  ((upTo 4).map fun i =>
    { num := 4 + i, pr := true, pw := true, get := fun t => (vget 0 t.mshape i : Word).toNat,
      after := fun _ _ v => v &&& 0x3FF ||| if v.testBit 9 then 0x400 else 0 }) ++
  [ maskRow 8 0xF (fun t => t.cir.toNat) false true false, maskRow 9 0xFFFF (fun t => t.relmask.toNat) false true true,
    maskRow 0xA 0xFFFF (fun t => t.beta.toNat) false true true, maskRow 0xB 7 (fun t => t.depth) false true false,
    maskRow 0xC (2 ^ 64 - 1) (fun t => t.wid.toNat) true true false,
    maskRow 0xD (2 ^ 42 - 1) (fun t => t.widf.toNat) true true false,
    maskRow 0xE 0x1FFE0 (fun t => t.segt.toNat) false true false,
    maskRow 0xF 0x71FFF0 (fun t => t.fmtt.toNat) false true true ] ++
  ((upTo 6).map fun i => maskRow (0x10 + i) 0xFFFFFFFF00FFFFFF
    (fun t => (t.loop i).start.toNat + 2 ^ 12 * (t.loop i).stop.toNat + 2 ^ 32 * (t.loop i).count.toNat) true true false) ++
  ((upTo 6).map fun i => maskRow (0x16 + i) (2 ^ 32 - 1) (fun t => (t.loop i).index.toNat) false true false) ++
  [ maskRow 0x1C (2 ^ 32 - 1) (fun t => t.spcnt.toNat) false true false,
    maskRow 0x1D 0xFFFFF (fun t => t.mxown.toNat) false false false,
    { num := 0x20, pr := true, get := fun t => t.tstat.toNat,
      after := fun t _ v => (v &&& 0xFFFFFF04) ||| (t.tstat.toNat &&& 1) },
    maskRow 0x21 0xFFFF (fun t => t.tcause.toNat) false false false,
    maskRow 0x22 (2 ^ 32 - 1) (fun t => t.tepc.toNat) false false false,
    maskRow 0x23 (2 ^ 64 - 1) (fun t => t.tinfo.toNat) true false false,
    maskRow 0x24 (2 ^ 32 - 1) (fun t => t.tvec.toNat) false false false,
    maskRow 0x25 (2 ^ 64 - 1) (fun t => t.tscr.toNat) true false false,
    maskRow 0x26 (2 ^ 64 - 1) (fun t => t.ctxb.toNat) true false false ]

/-- The half that a form names, as a word (R358). -/
def halfOf (hi : Bool) (v : Nat) : Word := BitVec.ofNat 32 (if hi then v / 2 ^ 32 else v)

/-- A register's value with one half replaced. -/
def withHalf (r : CregRow) (hi : Bool) (old : Nat) (h : Word) : Nat :=
  if hi then old % 2 ^ 32 + 2 ^ 32 * h.toNat else if r.wide then old / 2 ^ 32 * 2 ^ 32 + h.toNat else h.toNat

/-- MSHAPE0–3 and FMTT follow the tile registers' owner (R33, R257). -/
def ownedReg (n : Nat) : Bool := decide (4 ≤ n ∧ n ≤ 7) || decide (n = 0xF)

/-- A field value that R31 and Table 1-6 forbid. -/
def valueBad (n v : Nat) : Bool :=
  decide (n = 0xB ∧ v % 8 = 7) || decide (n = 0xD ∧ 64 < v % 2 ^ 7 + v / 2 ^ 7 % 2 ^ 7 + v / 2 ^ 14 % 2 ^ 7 + v / 2 ^ 21 % 2 ^ 7 +
    v / 2 ^ 28 % 2 ^ 7 + v / 2 ^ 35 % 2 ^ 7)

/-- The forms of R358 that write, with the half they write from the half and A. -/
def cregForms : List ((TrigMove → Instr) × Nat × (Word → Word → Word)) :=
  [(.syCrw, 0xC01, fun _ a => a), (.syCrs, 0xC02, fun h a => h ||| a), (.syCrc, 0xC03, fun h a => h &&& ~~~a)]

/-- The triggers that need supervisor mode (R144, Table 5-3): `tret` and those of `sy` from `cntcfg` on, of `ky` and of `qs`. -/
def supRows : List ((TrigMove → Instr) × Nat) :=
  [(.syTret, 0xC09), (.syCntcfg, 0xC0B), (.syPend, 0xC0C), (.syIntack, 0xC0D), (.kyShinit, 0xD00), (.kyAbsorb, 0xD01),
   (.kySqueeze, 0xD02), (.kyFverify, 0xD03), (.kyMextend, 0xD04), (.kyKeyld, 0xD05), (.kyKeyclr, 0xD06), (.kyFuserd, 0xD07),
   (.qsRingrd, 0xE00), (.qsRingadv, 0xE01), (.qsHeadpub, 0xE02), (.qsEnq, 0xE03), (.qsDeq, 0xE04), (.qsQstat, 0xE05)]

/-- The triggers marked †, which belong to a launch (R145, Table 5-3). -/
def launchRows : List ((TrigMove → Instr) × Nat) :=
  [(.cuNextwork, 0x20B), (.cuSync, 0x20C), (.chSend, 0xA00), (.chHalo, 0xA01), (.chSpawn, 0xA02)] ++
    balRows.map fun r => (r.1, r.2.1)

/-- The fences of R360: the accesses that come before, by class and by whether they read, and the classes that come after. -/
def fenceRows (t : Tile) (a : Word) : List ((TrigMove → Instr) × Nat × (Nat → Bool → Bool) × (Nat → Bool)) :=
  [(.syFence, 0xC04, fun c _ => a.getLsbD c, fun c => a.getLsbD c),
   (.syRel, 0xC06, fun c _ => t.relmask.getLsbD c, fun _ => true),
   (.syAcq, 0xC07, fun _ reads => reads, fun _ => true)]

/-- The outstanding accesses that a fence names: far accesses, stores held from other agents, and a macro operation with
steps to come (R360, R377). -/
def fenced (t : Tile) (sel : Nat → Bool → Bool) : List Nat :=
  t.openIds.filter (((t.far.filter fun q => sel q.cls q.replies).map fun q => q.id) ++
    ((t.heldStores.filter fun h => sel h.cls false).map fun h => h.id) ++
    t.mac.toList.flatMap fun m => if sel 0 (decide (m.code ≠ 0x912)) then [m.id] else []).contains

/-- LSTK and the registers of the loop stack (Table 1-5), written from the next cycle on (R169). -/
def loopNum (n : Nat) : Bool := decide (n = 0xB) || (decide (0x10 ≤ n) && decide (n < 0x1C))

end Sys2Proof.Claims

/-- `crd` stands the half that it names, as it stood at the start of the cycle, without the bits of A; a program reads those
of Table 1-5 marked P, and MSHAPE and FMTT only as the owner (R29, R358, R359). -/
def Obligations.ControlRegisterReads : Prop :=
  ∀ (s : State) (m : TrigMove) (v : Wide) (t : Tile), Starts s 0xC00 m v t →
    let w := (narrowOf v).toNat
    let hi := w.testBit 12
    let trap (c : Cause) : Host.Outcome State Fault Refusal := .next (trapped s c (info6 m 0xC00 (w % 2 ^ 13)))
    ((∀ r ∈ cregRows, r.num ≠ w % 2 ^ 12) → exec (.syCrd m) s = trap .illegalCreg) ∧
    (∀ r ∈ cregRows, r.num = w % 2 ^ 12 →
      (hi = true → r.wide = false → exec (.syCrd m) s = trap .illegalCreg) ∧
      ((hi = true → r.wide = true) →
        (s.me.sup = false → r.pr = false → exec (.syCrd m) s = trap .privilege) ∧
        ((s.me.sup = false → r.pr = true) →
          (ownedReg r.num = true → s.me.mxown.setWidth 16 ≠ s.me.cid → exec (.syCrd m) s = trap .mxOwner) ∧
          ((ownedReg r.num = true → s.me.mxown.setWidth 16 = s.me.cid) → exec (.syCrd m) s =
            .next (s.issued m (t.resultN 10 s.clk 2 (halfOf hi (r.get s.me) &&& ~~~ t.latchN 10 0)))))))

/-- A write of a control register gives it the value written without its reserved and read-only bits, and no other register
changes but CIR when a capture of SEGT meets poison; the loop stack takes its write after the end action of the same bundle;
a value that R31 or Table 1-6 forbids raises ILLEGAL_CREG, and the checks before it come in the order of R359 (R30, R32, R169,
R199, R358, R359). -/
def Obligations.ControlRegisterWrites : Prop :=
  ∀ (s : State) (m : TrigMove) (v : Wide) (t : Tile), ∀ f ∈ cregForms, Starts s f.2.1 m v t →
    let w := (narrowOf v).toNat
    let hi := w.testBit 12
    let trap (c : Cause) : Host.Outcome State Fault Refusal := .next (trapped s c (info6 m f.2.1 (w % 2 ^ 13)))
    ((∀ r ∈ cregRows, r.num ≠ w % 2 ^ 12) → exec (f.1 m) s = trap .illegalCreg) ∧
    (∀ r ∈ cregRows, r.num = w % 2 ^ 12 → (hi = true → r.wide = true) →
      let new := withHalf r hi (r.get s.me) (f.2.2 (halfOf hi (r.get s.me)) (t.latchN 10 0))
      (s.me.sup = false → r.pw = false → exec (f.1 m) s = trap .privilege) ∧
      ((s.me.sup = false → r.pw = true) →
        (ownedReg r.num = true → s.me.mxown.setWidth 16 ≠ s.me.cid → exec (f.1 m) s = trap .mxOwner) ∧
        (ownedReg r.num = true → s.me.mxown.setWidth 16 = s.me.cid → s.me.mac.isSome = true → exec (f.1 m) s = trap .mxBusy) ∧
        ((ownedReg r.num = true → s.me.mxown.setWidth 16 = s.me.cid ∧ s.me.mac = none) →
          (valueBad r.num new = true → exec (f.1 m) s = trap .illegalCreg) ∧
          (valueBad r.num new = false →
            (loopNum r.num = false → r.num ≠ 0x1D → exec (f.1 m) s =
              .next (s.issued m (t.writeCreg s.clk r.num new) { notBefore := if r.num = 0xE then s.clk + 33 else 0 })) ∧
            (loopNum r.num = true → exec (f.1 m) s = .next (s.issued m t { loopReg := some (r.num, new) })) ∧
            ∃ s', exec (f.1 m) s = .next s' ∧
              let t' := s'.tile s.cur
              let plain := (s.issued m t).tile s.cur
              r.get t' = r.after t s.clk new ∧
              (∀ q ∈ cregRows, q.num ≠ r.num → (q.num = 8 → r.num ≠ 0xE) → q.get t' = q.get plain) ∧
              (4 ≤ r.num → r.num ≤ 7 → vget (Vector.replicate 256 0) t'.m (r.num - 4) = Vector.replicate 256 0) ∧
              t'.x = t.x ∧ t'.v = t.v ∧ t'.g = t.g ∧ t'.ls = t.ls ∧ t'.latches = t.latches))))

/-- A fence of a legal scope makes every later access of its classes wait for the outstanding accesses that it orders, and
no other; a scope of 12 to 15 traps (R360). `fencei` lets nothing issue before c + 4, and fetches anew from c + 1 (R361).
`chkerr` stands CIR's low four bits and clears those of v among them at the cycle's end (R362). `cnt` stands a half of an
event counter, zero in the program mode of a DUAL launch; `cntcfg` sets one up; `pend` stands the pending sources, and
`intack` clears one (R365, R367). -/
def Obligations.SystemOperations : Prop :=
  ∀ (s : State) (m : TrigMove) (v : Wide) (t : Tile),
    let w := narrowOf v
    let a := t.latchN 10 0
    let c : EventCounter := vget {} s.me.counters (w.toNat % 8)
    let seen := s.me.cir &&& 0xF
    (∀ r ∈ fenceRows s.me a, Starts s r.2.1 m v t →
      (12 ≤ w.toNat % 16 → exec (r.1 m) s = .next (trapped s .scopeInvalid (info6 m r.2.1 (w.toNat % 16)))) ∧
      (w.toNat % 16 < 12 → ∃ s', exec (r.1 m) s = .next s' ∧
        (∀ k < 16, (s'.tile s.cur).fenceWait k = (t.fenceWait k ||
          (r.2.2.2 k && !(fenced t r.2.2.1).isEmpty))) ∧
        (s'.tile s.cur).x = s.me.x ∧ (s'.tile s.cur).g = s.me.g ∧ (s'.tile s.cur).far = t.far ∧ (s'.tile s.cur).ls = s.me.ls)) ∧
    (Starts s 0xC05 m v t → exec (.syFencei m) s = .next (s.issued m { t with freshAt := s.clk + 1 } { notBefore := s.clk + 4 })) ∧
    (Starts s 0xC08 m v t → exec (.syChkerr m) s = .next (s.issued m (t.resultN 10 s.clk 1 seen) { cirClear := seen &&& w })) ∧
    (Starts s 0xC0A m v t → exec (.syCnt m) s = .next (s.issued m (t.resultN 10 s.clk 2
      (if s.isDual s.cur ∧ s.me.sup = false then 0
       else if w.getLsbD 3 then c.val.extractLsb' 32 32 else c.val.extractLsb' 0 32)))) ∧
    (Starts s 0xC0B m v t → exec (.syCntcfg m) s = .next (s.issued m
      { t with cntNew := some (w.toNat % 8, { event := a.extractLsb' 0 8, ponly := a.getLsbD 8, val := 0 }) })) ∧
    (Starts s 0xC0C m v t → exec (.syPend m) s = .next (s.issued m (t.resultN 10 s.clk 1 (s.me.pend.setWidth 32)))) ∧
    (Starts s 0xC0D m v t → exec (.syIntack m) s = .next (s.issued m
      { t with pend := BitVec.ofBoolListLE ((upTo 16).map fun k => t.pend.getLsbD k && decide (k ≠ w.toNat % 16)) }))

/-- `tret` leaves supervisor mode, and of TSTAT changes SUP alone: the next bundle is that of TEPC, after the handler's
results have completed, setting their flags, and GAPREM idle cycles have passed; the operand latches and the standing results of the snapshot return, and each result that was in
flight with countdown k stands in cycle f′ + k (R41, R363). -/
def Obligations.TrapReturn : Prop :=
  ∀ (s : State) (m : TrigMove) (v : Wide) (t : Tile), Starts s 0xC09 m v t → s.me.handlerOpen = false →
    ∃ s', exec (.syTret m) s = .next s' ∧
      let t' := s'.tile s.cur
      let f := max (s.clk + 1) t.handlerDone + t.gaprem
      t'.sup = false ∧ t'.pc = t.tepc ∧ t'.nextAt = f ∧ t'.kBase = f ∧ t'.tstat = t.tstat &&& ~~~1 ∧ t'.snap = none ∧
      (∀ k < 13, ∀ r ∈ (t.sock k).fly, ∀ i < 6, r.flags.getLsbD i = true → t'.vstat.getLsbD i = true) ∧
      (∀ sn, t.snap = some sn → t'.latches = sn.latches ∧
        (∀ k < 13, (t'.sock k).stand = (vget {} sn.socks k : SockQ).stand ∧
          (t'.sock k).fly = (vget {} sn.socks k : SockQ).fly.map fun r => { r with due := r.due + f }) ∧
        t'.op4s = sn.op4s.map fun o => { o with stageAt := o.stageAt + f }) ∧
      t'.ls = t.ls ∧ (t'.tcause, t'.tinfo, t'.tepc) = (t.tcause, t.tinfo, t.tepc) ∧
      ((∀ r ∈ t.far, ∀ st d p, r.phase ≠ .held st d p) → t'.x = t.x ∧ t'.v = t.v ∧ t'.g = t.g)

/-- A trigger that needs supervisor mode raises PRIVILEGE in program mode, and one that needs a launch raises NO_LAUNCH on
a crown tile (R144, R145). -/
def Obligations.PrivilegeAndLaunch : Prop :=
  ∀ (s : State) (m : TrigMove) (v : Wide) (t : Tile),
    (∀ r ∈ supRows, Begins s r.2 m v t → s.me.sup = false → exec (r.1 m) s = .next (trapped s .privilege (info6 m r.2))) ∧
    (∀ r ∈ launchRows, Begins s r.2 m v t → isCrown s.cur = true → exec (r.1 m) s = .next (trapped s .noLaunch (info6 m r.2)))

namespace Sys2Proof.Claims

open Machine

/-- The trigger's complex is the active one, and no handover holds the key and queue sockets back (R509, R523). -/
def activeHere (s : State) : Prop := crownComplex s.cur = s.fw.act ∧ s.provisional s.cur = false

/-- The local ranges that R370 has the key socket check, within R27 for the mode. -/
def rangesFit (s : State) (l : List (Nat × Nat)) : Prop := ∀ r ∈ l, r.2 = 0 ∨ r.1 + r.2 ≤ modeLimit s.me.sup

/-- The tile with a job of the key engine added (R370). -/
def withJob (t : Tile) (j : KyJob) : Tile := { t with kyJobs := t.kyJobs ++ [(t.reqNo, j)], reqNo := t.reqNo + 1 }

/-- The new value of a measurement block: the 64 bytes of SHAKE256 over its old value and 64 more (R370). -/
def extended (old : Wide) (data : List Byte) : Wide := ofBytes64 (shake512 (toBytes64 old ++ data))

/-- A complex may extend a block (R514): blocks 1 and 3 to 7 from the active complex, blocks 8 to 15 from complex 0 and 16
to 23 from complex 1. -/
def mayExtend (s : State) (block : Nat) : Bool :=
  let c := crownComplex s.cur
  if block = 0 ∨ block = 2 ∨ 24 ≤ block then false
  else if block < 8 then decide (c = s.fw.act) else decide (8 + 8 * c ≤ block ∧ block < 16 + 8 * c)

end Sys2Proof.Claims

/-- `shinit` empties the hash and declares its length; `absorb` takes bytes up to that length; `squeeze` stands the next 64
bytes after 12 cycles, and traps before the hash is ready, twelve cycles after its last `absorb`; `fuserd` stands a fuse word, and traps on word 3 (R369). -/
def Obligations.HashAndFuses : Prop :=
  ∀ (s : State) (m : TrigMove) (v : Wide) (t : Tile),
    let w := (narrowOf v).toNat
    (Starts s 0xD00 m v t → exec (.kyShinit m) s = .next (s.issued m { t with sha := { declared := w, ready := decide (w = 0) } })) ∧
    (Starts s 0xD01 m v t → ∃ s', exec (.kyAbsorb m) s = .next s' ∧
      let h := (s'.tile s.cur).sha
      let n := min 64 (t.sha.declared - t.sha.count)
      (t.sha.ready = false → h.ready = true → h.readyAt = s.clk + 12) ∧ h.declared = t.sha.declared ∧ h.count = t.sha.count + n ∧ (h.ready = true ↔ h.count = t.sha.declared) ∧
      (h.list, h.fill) = ((toBytes64 v).take n).foldl kAbsorb (t.sha.list, t.sha.fill)) ∧
    (Starts s 0xD02 m v t →
      (s.me.sha.ready = false ∨ s.clk < s.me.sha.readyAt → exec (.kySqueeze m) s = .next (trapped s .kyState (info6 m 0xD02))) ∧
      (s.me.sha.ready = true → s.me.sha.readyAt ≤ s.clk → t.sha = s.me.sha → exec (.kySqueeze m) s = .next (s.issued m
        { t.result 11 s.clk 12 true s.me.sha.squeeze.1 with sha := s.me.sha.squeeze.2 }))) ∧
    (Starts s 0xD07 m v t →
      (w % 4 = 3 → exec (.kyFuserd m) s = .next (trapped s .kyState (info6 m 0xD07))) ∧
      (w % 4 ≠ 3 → exec (.kyFuserd m) s = .next (s.issued m (t.result 11 s.clk 2 true (s.fuseWord (w % 4)) 0))))

/-- `fverify`, `mextend` and `keyld` whose ranges keep R27 start an engine operation with their counter; `mextend` extends
its block when the complex may, and fails otherwise; `keyclr` removes a key. A range that breaks R27 traps (R370, R509,
R514, R515). -/
def Obligations.KeyEngine : Prop :=
  ∀ (s : State) (m : TrigMove) (v : Wide) (t : Tile),
    let w := (narrowOf v).toNat
    let a := (t.latchN 11 0).toNat
    let b := (t.latchN 11 1).toNat
    let word (i : Nat) : Nat := s.me.mem (a + 4 * i) 4
    let block := a % 32
    let traps (i : Instr) (code : Nat) (l : List (Nat × Nat)) : Prop :=
      (∃ r ∈ l, r.2 ≠ 0 ∧ modeLimit s.me.sup < r.1 + r.2) →
        exec i s = .next (trapped s .lsRange (info6 m code)) ∨ exec i s = .next (trapped s .privilege (info6 m code))
    (Starts s 0xD03 m v t → s.me.fenceAll = false →
      let ranges := [(a, 32), (word 0, 1793), (word 1, word 2), (b, 4)]
      traps (.kyFverify m) 0xD03 ranges ∧
      (rangesFit s ranges → 
        let d : FarDest := s.me.farDest (word 4) (word 4 % 2 ^ 20 * 2 ^ 32 + word 3)
        exec (.kyFverify m) s = .next (s.issued m (withJob t
          (.fverify (word 0) (word 1) (word 2) d (word 5) 0 b (w.testBit 4) (w % 16)))))) ∧
    (Starts s 0xD04 m v t → (s.provisional s.cur && decide (block < 8)) = false → s.me.fenceAll = false →
      traps (.kyMextend m) 0xD04 [(b, 64)] ∧
      (rangesFit s [(b, 64)] → ∃ s', exec (.kyMextend m) s = .next s' ∧
        (∀ k < 32, (vget 0 s'.fw.blocks k : Wide) =
          if k = block ∧ mayExtend s block = true then extended (vget 0 s.fw.blocks k) (s.me.lsRead b 64) else vget 0 s.fw.blocks k) ∧
        (s'.tile s.cur).kyJobs = s.me.kyJobs ++ [(s.me.reqNo, .mextend (if mayExtend s block then stOK else stNoTarget) (w % 16))])) ∧
    (Starts s 0xD05 m v t → s.provisional s.cur = false → s.me.fenceAll = false →
      traps (.kyKeyld m) 0xD05 [(b, 32)] ∧
      (rangesFit s [(b, 32)] → exec (.kyKeyld m) s =
        .next (s.issued m (withJob t (.keyld (BitVec.ofNat 16 a) b (w % 16)))))) ∧
    (Starts s 0xD06 m v t → s.provisional s.cur = false →
      (crownComplex s.cur ≠ s.fw.act → exec (.kyKeyclr m) s = .next (s.issued m t)) ∧
      (crownComplex s.cur = s.fw.act → ∃ s', exec (.kyKeyclr m) s = .next s' ∧
        s'.br = s.br.clearKey (BitVec.ofNat 16 w) ∧ (s'.tile s.cur).x = s.me.x))

/-- The queues hold 64 entries each, in order: `enq` appends {B, v}, seen from c + 2, or traps on a full queue, `deq` pops the
head and
stands its low word, or stands its high word, or traps on an empty queue, `qstat` stands the count (R372). `ringadv`
advances a ring's expectation; `ringrd` reads a word of the packet at the expectation with its slot's sequence number, and
`headpub` publishes the head word as a release (R371). -/
def Sys2Proof.Claims.ActiveQueues : Prop :=
  ∀ (s : State) (m : TrigMove) (v : Wide) (t : Tile), activeHere s →
    let w := narrowOf v
    let a := (t.latchN 12 0).toNat
    let ring := a % 2 ^ 12
    let r := s.ring ring
    let q := s.queue (w.toNat % 2 ^ 8)
    let p := a / 2 ^ 16 % 2 ^ 7
    (Starts s 0xE03 m v t →
      let k := a % 2 ^ 8
      let held := (s.queue k).length + (s.enqueued.filter fun e => decide (e.2.1 = k)).length
      (held < 64 →
        let e := (s.clk + 2, k, BitVec.ofNat 64 ((t.latchN 12 1).toNat * 2 ^ 32 + w.toNat))
        exec (.qsEnq m) s = .next (({ s with enqueued := s.enqueued ++ [e] } : State).issued m t)) ∧
      (64 ≤ held → exec (.qsEnq m) s = .next (trapped s .qsFull (info6 m 0xE03)))) ∧
    (Starts s 0xE04 m v t →
      (q = [] → exec (.qsDeq m) s = .next (trapped s .qsEmpty (info6 m 0xE04))) ∧
      (∀ x l, q = x :: l →
        (w.getLsbD 8 = true → exec (.qsDeq m) s = .next (s.issued m (t.resultN 12 s.clk 2 (x.extractLsb' 32 32)))) ∧
        (w.getLsbD 8 = false → exec (.qsDeq m) s = .next
          (({ s with queues := tabSet s.queues (w.toNat % 2 ^ 8) l } : State).issued m (t.resultN 12 s.clk 2 (x.extractLsb' 0 32)))))) ∧
    (Starts s 0xE05 m v t → exec (.qsQstat m) s = .next (s.issued m (t.resultN 12 s.clk 2 (BitVec.ofNat 32 q.length)))) ∧
    (Starts s 0xE01 m v t → ∃ s', exec (.qsRingadv m) s = .next s' ∧
      (s'.ring ring).exp = r.exp + BitVec.ofNat 32 (w.toNat % 2 ^ 8) ∧
      (w.toNat % 2 ^ 8 ≠ 0 → (s'.ring ring).presented = false) ∧ ∀ k, k ≠ ring → s'.ring k = s.ring k) ∧
    (Starts s 0xE00 m v t → s.me.fenceWait 15 = false →
      s.me.farLimit { id := 0, kind := .ringrd ring p, dests := [], issuedAt := 0, reg := w.toNat % 2 ^ 6 } = false →
      ∃ s', exec (.qsRingrd m) s = .next s' ∧ ∃ f ∈ (s'.tile s.cur).far, (s'.tile s.cur).far = t.far ++ [f] ∧
        f.kind = .ringrd ring p ∧ f.reg = w.toNat % 2 ^ 6 ∧ f.gs = w.toNat / 2 ^ 12 % 2 ^ 3 ∧ f.look = w.toNat / 2 ^ 8 % 2 ^ 4 ∧
        f.acquire = true ∧ f.cls = 15 ∧ f.scope = 7 ∧
        lane f.data 0 = BitVec.ofNat 32 (r.exp.toNat + p / 32) ∧
        f.dests.map (fun d => d.addr.toNat) =
          [(r.slotAddr (r.seqOf (p / 32)) + 4 * (p % 32)) % 2 ^ 52, r.slotAddr (r.seqOf (p / 32)) % 2 ^ 52]) ∧
    (Starts s 0xE02 m v t → s.me.fenceWait 15 = false →
      ∃ s', exec (.qsHeadpub m) s = .next s' ∧ ∃ f ∈ (s'.tile s.cur).far, (s'.tile s.cur).far = t.far ++ [f] ∧
        f.kind = .headpub ∧ lane f.data 0 = r.exp ∧ f.cc = some (w.toNat % 16) ∧ f.release = true ∧ f.cls = 15 ∧ f.scope = 7 ∧
        f.dests.map (fun d => d.addr.toNat) = [r.head.toNat / 4 % 2 ^ 50 * 4])

/-- The queue socket of the standby complex does not reach the rings and queues: `enq` and `ringadv` change nothing there,
`ringrd` and `headpub` make no access of memory, and what `deq`, `qstat` and `ringrd` give is an open value (R509; entry
79 of the log). -/
def Sys2Proof.Claims.StandbyQueues : Prop :=
  ∀ (s : State) (m : TrigMove) (v : Wide) (t : Tile), crownComplex s.cur ≠ s.fw.act → s.provisional s.cur = false →
    (∀ r ∈ [(Instr.qsEnq m, 0xE03), (.qsRingadv m, 0xE01)], Starts s r.2 m v t → exec r.1 s = .next (s.issued m t)) ∧
    (∀ r ∈ [(Instr.qsDeq m, 0xE04), (.qsQstat m, 0xE05)], Starts s r.2 m v t → ∃ s', exec r.1 s = .next s' ∧
      s'.queues = s.queues ∧ s'.rings = s.rings ∧ ((s'.tile s.cur).sock 12).fly.length = (t.sock 12).fly.length + 1) ∧
    (∀ r ∈ [(Instr.qsRingrd m, 0xE00), (.qsHeadpub m, 0xE02)], Starts s r.2 m v t → s.me.fenceWait 15 = false →
      s.me.farLimit { id := 0, kind := .ringrd 0 0, dests := [], issuedAt := 0, reg := (narrowOf v).toNat % 2 ^ 6 } = false →
      ∃ s', exec r.1 s = .next s' ∧ s'.rings = s.rings ∧ ∃ f, (s'.tile s.cur).far = t.far ++ [f] ∧
        ∃ bs p, f.phase = .performed stOK bs p)

/-- The queue socket of the active complex and of the standby (R371, R372, R509). -/
def Obligations.QueueOperations : Prop := ActiveQueues ∧ StandbyQueues

namespace Sys2Proof.Claims

open Machine

/-- What a tile keeps when only its results and flags move on: registers, latches, pc, memory, matrix and system state. -/
def sameRegs (t t' : Tile) : Prop :=
  t'.x = t.x ∧ t'.v = t.v ∧ t'.g = t.g ∧ t'.latches = t.latches ∧ t'.pc = t.pc ∧ t'.loops = t.loops ∧ t'.depth = t.depth ∧
    t'.tstat = t.tstat ∧ t'.tctl = t.tctl ∧ t'.cc = t.cc ∧ t'.mb = t.mb

/-- A result in flight of order `seq` in a socket's queue gets its value, and nothing else changes there. -/
def filledAs (q q' : SockQ) (seq : Nat) (val : Wide) : Prop :=
  q'.stand = q.stand ∧ q'.fly = q.fly.map fun r => if r.seq = seq then { r with val } else r

end Sys2Proof.Claims

/-- A bundle with nothing but moves between `x` registers issues: every destination takes the value that its source had at
the start of the cycle, every other `x` register keeps its own, and the next bundle follows (R19, R102, R103). A bundle
around one trigger does what the row of that trigger does. -/
def Obligations.BundleIssue : Prop :=
  ∀ (s : State) (b : Bundle),
    (s.canIssue s.cur = true → s.me.bundleTrap (isCrown s.cur) b = none → s.me.windowWait = false → s.me.depth = 0 →
      (∀ x ∈ bundleMoves b, x.2.src.toNat < 64 ∧ 64 ≤ x.2.dst.toNat ∧ x.2.dst.toNat < 128 ∧ x.2.grd = 0) →
      ∃ s', exec (.bundleIssue b) s = .next s' ∧
        (∀ x ∈ bundleMoves b, (s'.tile s.cur).getX (x.2.dst.toNat - 64) = s.me.getX x.2.src.toNat) ∧
        (∀ i < 64, (∀ x ∈ bundleMoves b, x.2.dst.toNat ≠ 64 + i) → (s'.tile s.cur).getX i = s.me.getX i) ∧
        (s'.tile s.cur).pc = s.me.pc + 1 ∧ (s'.tile s.cur).nextAt = s.clk + 1 + b.gap.toNat ∧
        (s'.tile s.cur).v = s.me.v ∧ (s'.tile s.cur).g = s.me.g ∧ (s'.tile s.cur).ls = s.me.ls ∧
        (s.me.sup = false → (s'.tile s.cur).spcnt = if b.s then 0 else s.me.spcnt + 1)) ∧
    (∀ code m i, rowOf code m = some i → codeOf i = some (code, m) → wfTrig code m = true →
      exec (.bundleIssue (moveBundle code m)) s = exec i s)

/-- A bundle that breaks the rules of chapter 3 or 5, or the fetch of one outside the program's part of the local store,
takes its trap instead of issuing, with nothing of the bundle done (R36, R114, Table 3-8). -/
def Obligations.BundleTraps : Prop :=
  ∀ (s : State) (b : Bundle), s.canIssue s.cur = true →
    let t := s.me
    let trap (c : Cause) (info : Nat) : Host.Outcome State Fault Refusal := .next (trapped s c info)
    (3072 ≤ t.pc.toNat → exec (.bundleIssue b) s = trap .lsRange 0) ∧
    (t.pc.toNat < 3072 → t.sup = false → 2944 ≤ t.pc.toNat → exec (.bundleIssue b) s = trap .privilege 0) ∧
    (t.fetchTrap = none → ∀ x, violation (isCrown s.cur) t.streaming b = some x →
      exec (.bundleIssue b) s = trap .illegalBundle x.info) ∧
    (t.fetchTrap = none → violation (isCrown s.cur) t.streaming b = none → t.windowWait = true →
      (t.sup = true ∨ (b.s = false ∧ t.spcnt.toNat < 4095)) → ∃ t', exec (.bundleIssue b) s = .next (s.setTile s.cur t') ∧
        t'.nextAt = s.clk + 1 ∧ sameRegs t t')

/-- A trap in program mode enters the supervisor: SUP, TCAUSE and TINFO, TEPC the bundle that has not issued, GAPREM the idle
cycles still owed, INTP 0, fetch at TVEC, the latches saved and the ports empty; registers and local memory keep their
values. A trap in supervisor mode writes TCAUSE and TINFO and halts the tile, TEPC and TSTAT keeping theirs (R35, R37, R40). -/
def Sys2Proof.Claims.TrapEntry : Prop :=
  ∀ (s : State) (c : Cause) (info : Nat), info < 2 ^ 64 →
    let t := s.me
    let t' := (trapped s c info).tile s.cur
    (t.sup = false → t.mac = none → t.rmws = [] → t.rings = [] → t.maccs = [] →
      t'.sup = true ∧ t'.tcause.toNat = c.code ∧ t'.tinfo.toNat = info ∧ t'.tepc = t.pc ∧ t'.pc = t.tvec ∧ t'.cid = t.cid ∧
      t'.gaprem = min (t.gapEnd - s.clk) 255 ∧ t'.tstat.getLsbD 2 = false ∧
      t'.snap.map (fun sn => sn.latches) = some t.latches ∧ (∀ k < 13, (t'.sock k).stand = [] ∧ (t'.sock k).fly = []) ∧
      t'.nextAt ≤ s.clk + 24 ∧ t'.x = t.x ∧ t'.v = t.v ∧ t'.g = t.g ∧ t'.ls = t.ls ∧ t'.loops = t.loops ∧
      t'.depth = t.depth ∧ t'.m = t.m ∧ t'.cc = t.cc ∧ t'.mb = t.mb) ∧
    (t.sup = true → t'.dead = true ∧ t'.tcause.toNat = c.code ∧ t'.tinfo.toNat = info ∧ t'.tepc = t.tepc ∧ t'.tstat = t.tstat ∧
      t'.pc = t.pc ∧ t'.x = t.x ∧ t'.ls = t.ls)

/-- Results that are due stand, in trigger order behind those that stand in a data-locked socket and in their place in a
free-running one, and set their flags (R39, R104, R105, R186). A pending `op4` accumulates, and stands its value unless an
`acclr` of the same cycle has cleared `ac`, and a `macc` writes its block (R251, R254); a macro operation takes its next step,
or completes (R257); a read-modify-write and a ring operation take effect, each with its result (R282, R287); a stream takes
its next element (R291); the limit of a `waddr` passes (R319). Each completes whenever it is due, and changes its tile alone. -/
def Obligations.TileCompletions : Prop :=
  ∀ (s : State) (k : Nat),
    let t := s.tile k
    (∀ i < 13, t.resultDue i s.clk = true → ∃ t', exec (.resultComplete k i) s = .next (s.setTile k t') ∧
      let now := (t.sock i).fly.filter fun r => decide (r.due ≤ s.clk)
      (t'.sock i).fly = ((t.sock i).fly.filter fun r => decide (s.clk < r.due)) ∧
      (t'.sock i).stand = (if t.locked i then (t.sock i).stand ++ now else now.drop (now.length - 1)) ∧
      t'.vstat = t.vstat ||| (now.foldl (fun f r => f ||| r.flags) (0 : BitVec 6)).setWidth 32 ∧ sameRegs t t' ∧ t'.ls = t.ls) ∧
    ((∃ o ∈ t.op4s, o.stageAt ≤ s.clk) → ∃ t', exec (.op4Stage k) s = .next (s.setTile k t') ∧
      t'.op4s = (t.op4s.filter fun o => decide (s.clk < o.stageAt)) ∧ sameRegs t t' ∧ t'.ls = t.ls ∧
      ∀ o, (t.op4s.filter fun o => decide (o.stageAt ≤ s.clk)) = [o] →
        let new := o.fin.getD (op4Acc o (t.acAt s.clk))
        t'.ac = (if t.acCleared s.clk then t.ac else new) ∧
        filledAs (t.sock 7) (t'.sock 7) o.seq (mkWide fun i => nth 0 new.toList i)) ∧
    ((∃ a ∈ t.maccs, a.cyc < s.clk) → ∃ t', exec (.maccWrite k) s = .next (s.setTile k t') ∧
      t'.maccs = (t.maccs.filter fun a => decide (s.clk ≤ a.cyc)) ∧ sameRegs t t' ∧ t'.ls = t.ls ∧
      ∀ a, (t.maccs.filter fun a => decide (a.cyc < s.clk)) = [a] → a.dst < 4 →
        let sh : Word := vget 0 t.mshape a.dst
        (vget 0 t'.mshape a.dst : Word) = sh ||| 0x400 ∧
        ∀ r < 16, ∀ c < 16, elemGet (vget (Vector.replicate 256 0) t'.m a.dst) r c =
          if r / 4 = a.br ∧ c / 4 = a.bc ∧ elemExists sh r c then nth 0 a.elems (4 * (r % 4) + c % 4)
          else elemGet (vget (Vector.replicate 256 0) t.m a.dst) r c) ∧
    (∀ m, t.mac = some m → m.susp = false → m.done < m.n → m.base + m.done ≤ s.clk →
      ∃ t', exec (.mxMacroStep k) s = .next (s.setTile k t') ∧
        (t'.mac.map fun q => (q.code, q.n, q.done)) = some (m.code, m.n, m.done + 1) ∧ sameRegs t t' ∧ t'.ac = t.ac) ∧
    (∀ m, t.mac = some m → m.susp = false → m.done = m.n → m.base + m.n + 1 ≤ s.clk →
      ∃ t', exec (.mxMacroStep k) s = .next (s.setTile k t') ∧ t'.mac = none ∧ sameRegs t t') ∧
    ((∃ r ∈ t.rmws, r.cyc + 1 < s.clk ∧ r.written = false) → ∃ t', exec (.rmwWrite k) s = .next (s.setTile k t') ∧
      t'.rmws = (t.rmws.map fun r => if r.cyc + 1 < s.clk then { r with written := true } else r) ∧ sameRegs t t' ∧
      ∀ r, (t.rmws.filter fun r => decide (r.cyc + 1 < s.clk) && !r.written) = [r] →
        let old : Word := r.old.elim (BitVec.ofNat 32 (t.mem r.addr 4)) Prod.fst
        filledAs (t.sock 5) (t'.sock 5) r.seq (wideOf old) ∧
        (∀ w, rmwNew r.op old r.d r.n = some w → t'.mem r.addr 4 = w.toNat) ∧
        (∀ a, rmwNew r.op old r.d r.n = none ∨ a < r.addr ∨ r.addr + 4 ≤ a → t'.ls.get a = t.ls.get a)) ∧
    ((∃ r ∈ t.rings, r.cyc < s.clk) → ∃ t', exec (.ringUpdate k) s = .next (s.setTile k t') ∧
      t'.rings = (t.rings.filter fun r => decide (s.clk ≤ r.cyc)) ∧ sameRegs t t' ∧
      ∀ r, (t.rings.filter fun r => decide (r.cyc < s.clk)) = [r] →
        let d := r.words.getD (t.ringWords r.addr)
        let st := if ringOk r.sup d then ringStep r.rel r.k d else (0xFFFFFFFF, none)
        let at_ := r.addr + if r.rel then 12 else 8
        filledAs (t.sock 5) (t'.sock 5) r.seq (wideOf st.1) ∧ (∀ w, st.2 = some w → t'.mem at_ 4 = w.toNat) ∧
        (∀ a, st.2 = none ∨ a < at_ ∨ at_ + 4 ≤ a → t'.ls.get a = t.ls.get a)) ∧
    (∀ i < 8, t.fillDue s.clk = some i → ∃ t', exec (.streamFill k i) s = .next (s.setTile k t') ∧
      t'.fillQ.length + 1 = t.fillQ.length ∧ sameRegs t t' ∧ t'.ls = t.ls ∧
      (t.fillPlace i = none → t'.streams = t.streams) ∧
      ∀ a n, t.fillPlace i = some (a, n) → (vget {} t'.streams i : Stream).buf = (vget {} t.streams i : Stream).buf ++
        [{ val := BitVec.ofNat 512 (t.memAt s.clk a n), poison := t.poisonedAt s.clk a n, filledAt := s.clk }]) ∧
    (∀ d, t.waddrAt = some d → d ≤ s.clk → exec (.waddrTimeout k) s =
      .next (s.setTile k { t with waddrAt := none, waddrOut := true }))

/-- The register i is live at a switch point (R75). -/
def Sys2Proof.Claims.liveX (l : Launch) (q : SwitchKind) (i : Nat) : Bool :=
  match q with
  | .safePoint p => ((l.code.safe.find? fun e => decide (e.index = p.toNat)).map fun e => e.xmask.getLsbD i).getD true
  | _ => true

/-- An interrupt that is due enters the supervisor with its source in TCAUSE and INTP 1, and a switch that is pending at a
switch point enters it for the save with the kind of point in TINFO; the context block then holds the header and the live
registers (R35, R45, R75, R364, R366). -/
def Sys2Proof.Claims.EventEntry : Prop :=
  ∀ (s : State) (k : Nat),
    let t := s.tile k
    let entered (t' : Tile) (cause : Nat) (intp : Bool) : Prop :=
      t'.sup = true ∧ t'.tcause.toNat = cause ∧ t'.tepc = t.pc ∧ t'.pc = t.tvec ∧ t'.tstat.getLsbD 2 = intp ∧
      t'.gaprem = min (t.gapEnd - s.clk) 255 ∧ t'.x = t.x ∧ t'.v = t.v ∧ t'.g = t.g ∧
      t'.snap.map (fun sn => sn.latches) = some t.latches
    (t.interruptDue s.clk = true → ∃ t', exec (.interruptEntry k) s = .next (s.setTile k t') ∧
      entered t' (1 + 256 * lowestSource t.admitted) true ∧ t'.tinfo = 0 ∧ t'.pend = t.pend) ∧
    (∀ q, s.switchDue k = some q → ∃ s', exec (.contextSwitchEntry k) s = .next s' ∧
      entered (s'.tile k) 2 false ∧ (s'.tile k).saved = true ∧ (s'.tile k).switchPend = false ∧ (s'.tile k).mac = none ∧
      (s'.tile k).tinfo.toNat = (match q with | .safePoint i => i.toNat | .arrival => 4096 | .wait => 8192) ∧
      (∀ j, j ≠ k → s'.tile j = s.tile j) ∧
      ∀ id l, t.launch = some id → s.launch? id = some l → s.isTwin k = false → (∃ c ∈ l.ctxs, c.tlin = t.tlin) →
        (s'.ctxBlock id t.tlin).num 0 4 = 0x00010000 ∧ (s'.ctxBlock id t.tlin).num 4 4 = 0x1C000 ∧
        (s'.ctxBlock id t.tlin).num 16 4 = t.cid.toNat ∧
        ∀ i < 64, (s'.ctxBlock id t.tlin).num (0x40 + 4 * i) 4 = if liveX l q i then (vget 0 t.x i : Word).toNat else 0)

/-- The ways into the supervisor: a trap, an interrupt, a context switch (R35, R37, R40, R364, R366). -/
def Obligations.SupervisorEntries : Prop := TrapEntry ∧ EventEntry

namespace Sys2Proof.Claims

open Machine

/-- A landing of k bytes into a counter (R315). -/
def landed (c : Counter) (k : Nat) : Counter :=
  if c.status ≠ 0 then c else if c.count.toNat < k then { count := 0, status := 2 } else { c with count := c.count - BitVec.ofNat 30 k }

/-- A fault of a counter (R315). -/
def faulted (c : Counter) : Counter := if c.status ≠ 0 then c else { c with status := 1 }

/-- Counter i of a tile. -/
def ctr (t : Tile) (i : Nat) : Counter := vget {} t.cc i

/-- Bytes of bank memory from an offset. -/
def bankBytes (s : State) (o n : Nat) : List Byte := (upTo n).map fun i => s.bank.get (o + i)

/-- The request of a number among a tile's outstanding ones. -/
def farOf (t : Tile) (i : Nat) : Option FarReq := t.far.find? fun r => decide (r.id = i)

/-- The phase of a tile's request of a number. -/
def phaseOf (t : Tile) (i : Nat) : Option FarPhase := (farOf t i).map fun r => r.phase

/-- The little-endian word at an offset of a list of bytes (R2). -/
def wordOf (l : List Byte) (o : Nat) : Word := BitVec.ofNat 32 (ofBytes ((l.drop o).take 4))

/-- The constant that an element takes, if it takes one (R327). -/
def constOf : ElemVal → Option Nat
  | .const v => some v
  | .source _ => none

/-- In a DUAL launch the tile and its twin are two tiles (R488). -/
def twoTiles (s : State) (k : Nat) : Prop :=
  ∀ l, (s.tile k).launch.bind s.launch? = some l → l.dual = true → l.twinOf (s.tile k).tlin ≠ k

/-- The tile of a key belongs to no DUAL launch (R488). -/
def single (s : State) (k : Nat) : Prop := s.isDual k = false

/-- A reply that fills one `x` register (R299, R304, R371). -/
def narrow : FarKind → Bool
  | .load n => decide (n ≠ 64)
  | .atomic _ n => decide (n ≠ 8)
  | .ringrd _ _ => true
  | .store _ | .multi | .reduce _ | .headpub => false

/-- A `ringrd`. -/
def isRing : FarKind → Bool
  | .ringrd _ _ => true
  | .load _ | .store _ | .multi | .reduce _ | .atomic _ _ | .headpub => false

/-- What a `ringrd` brings back: the slot's word, and whether its sequence word is the one asked for (R371). -/
def ringReply (r : FarReq) (bs : List (Byte × Bool)) : FarPhase :=
  let got := bs.map Prod.fst
  .performed stOK (got.take 4 ++ [if ofBytes (got.drop 4) = (lane r.data 0).toNat then 1 else 0]) ((bs.take 4).any Prod.snd)

/-- Request `i` of a tile has been performed with a status, its reply or acknowledgement is on its way (R297, R454, R569), and
the escapement has noted it (R309). -/
def performedAs (s s1 : State) (k i : Nat) (r : FarReq) (cached : Bool) (f : FarReq → FarReq) : State :=
  (s1.modFar k i fun q => { f q with replyAt := s.farReplyAt k r cached, doneAt := some s.clk }).escFar (s.tile k).launch r

end Sys2Proof.Claims

/-- A far access that is ready performs at its home, at all of its homes or at none: its bytes and their tags with OK, LINK_FAIL
where its reply cannot come back, the status of the first destination that denies; one that is held at a page waits. In bank memory
the owner rule of R400 decides, and where nothing stands the status is NO_TARGET (R297, R302, R304, R397, R400, R406, R412, R452,
R569). A reply writes its register and guard, or zero with LSTAT and NACK, is held while the supervisor runs, and is discarded for
a halted task; an acknowledgement counts its bytes, or faults its counter (R43, R171, R296, R299, R300, R304, R315, R371). -/
def Obligations.FarCompletions : Prop :=
  ∀ (s : State) (k : Nat) (i : Nat) (ext : ExtReply), ∀ r, farOf (s.tile k) i = some r →
    (s.farReady k r ext.cached = true →
      let done := performedAs s
      (∀ bs s1, s.performAll k r r.kind.size r.op ext 0 r.dests = (.ok bs, s1) →
        (s.replyLost k r = true → exec (.farAccessAtHome k i ext) s =
          .next (done (s1.unholdReq k i) k i r ext.cached fun q => { q with phase := .performed stLinkFail [] false })) ∧
        (s.replyLost k r = false → isRing r.kind = false → exec (.farAccessAtHome k i ext) s =
          .next (done (s1.unholdReq k i) k i r ext.cached fun q =>
            { q with phase := .performed stOK (bs.map Prod.fst) (bs.any Prod.snd) })) ∧
        (s.replyLost k r = false → isRing r.kind = true → exec (.farAccessAtHome k i ext) s =
          .next (done (s1.unholdReq k i) k i r ext.cached fun q => { q with phase := ringReply r bs }))) ∧
      (∀ j st s1, s.performAll k r r.kind.size r.op ext 0 r.dests = (.denied j st, s1) →
        (r.dests.length = 1 → exec (.farAccessAtHome k i ext) s =
          .next (done s1 k i r ext.cached fun q => { q with phase := .performed st [] false, lidx := 0 })) ∧
        (1 < r.dests.length → exec (.farAccessAtHome k i ext) s =
          .next (done ((s.raiseAll (s.multiEvents k r ext)).unholdReq k i) k i r ext.cached fun q =>
            { q with phase := .performed st [] false, lidx := BitVec.ofNat 6 j }))) ∧
      (∀ s1, s.performAll k r r.kind.size r.op ext 0 r.dests = (.later, s1) → exec (.farAccessAtHome k i ext) s =
        .next ((if r.dests.length = 1 then s1 else s.keepMulti s1).modFar k i fun q => { q with phase := .waiting })) ∧
      (∀ d, r.dests = [d] → region d.addr.toNat = .none →
        ∃ s', exec (.farAccessAtHome k i ext) s = .next s' ∧ phaseOf (s'.tile k) i = some (.performed stNoTarget [] false) ∧
          s'.memories = s.memories) ∧
      (∀ d, r.dests = [d] → region d.addr.toNat = .bank → s.rel.evEn = false →
        let o := d.addr.toNat - bankBase
        let owner := s.bankOwnerOf (o / 2 ^ 16)
        let open_ : Prop := r.issuer = 0 ∨ (d.owner = owner ∧ r.issuer = owner)
        (isCrown k = true ∨ (s.pathDown (tileDie k) (o / 2 ^ 26) = false ∧ s.pathDown (o / 2 ^ 26) (tileDie k) = false)) →
        ∀ n ∈ [4, 64],
        (¬ open_ → (r.kind = .load n ∨ r.kind = .store n) → ∃ s', exec (.farAccessAtHome k i ext) s = .next s' ∧ s'.bank = s.bank ∧
          phaseOf (s'.tile k) i = some (.performed stDenied [] false)) ∧
        (open_ → r.kind = .store n → ∃ s', exec (.farAccessAtHome k i ext) s = .next s' ∧
          bankBytes s' o n = (toBytes 64 r.data.toNat).take n ∧ (∀ a, a < o ∨ o + n ≤ a → s'.bank.get a = s.bank.get a) ∧
          phaseOf (s'.tile k) i = some (.performed stOK [] false)) ∧
        (open_ → r.kind = .load n → ∃ s', exec (.farAccessAtHome k i ext) s = .next s' ∧ s'.bank = s.bank ∧
          phaseOf (s'.tile k) i = some (.performed stOK (bankBytes s o n)
            ((upTo n).any fun j => s.bankPoison.contains ((o + j) / 4)))))) ∧
    (∀ st data bad, r.phase = .performed st data bad → r.replyAt ≤ s.clk → s.isTwin k = false → twoTiles s k →
      let t := s.tile k
      (r.replies = true → r.drop = true → ∃ s', exec (.farLoadReply k i) s = .next s' ∧
        let t' := s'.tile k
        farOf t' i = none ∧ t'.x = t.x ∧ t'.v = t.v ∧ t'.g = t.g ∧ t'.ls = t.ls ∧ t'.nack = t.nack) ∧
      (r.replies = true → r.drop = false → (t.sup = false ∨ r.sup = true) → ∃ s', exec (.farLoadReply k i) s = .next s' ∧
        let t' := s'.tile k
        let word (j : Nat) : Word := if st = stOK then wordOf data j else 0
        farOf t' i = none ∧ t'.ls = t.ls ∧ t'.cc = t.cc ∧
        (r.gs ≠ 0 → r.gs < 8 → t'.guard r.gs = (decide (st = stOK) && (!isRing r.kind || decide ((data.drop 4).head? = some 1)))) ∧
        (∀ g < 8, g ≠ r.gs → t'.guard g = t.guard g) ∧
        (narrow r.kind = true → r.reg < 64 →
          t'.getX r.reg = word 0 ∧ (∀ j < 64, j ≠ r.reg → t'.getX j = t.getX j) ∧ t'.v = t.v) ∧
        (r.kind = .load 64 → r.reg < 32 → t'.getV r.reg = (if st = stOK then BitVec.ofNat 512 (ofBytes data) else 0) ∧
          (∀ j < 32, j ≠ r.reg → t'.getV j = t.getV j) ∧ t'.x = t.x) ∧
        (∀ op < 10, r.kind = .atomic op 8 → r.reg < 63 → t'.getX r.reg = word 0 ∧ t'.getX (r.reg + 1) = word 4 ∧
          (∀ j < 64, j ≠ r.reg → j ≠ r.reg + 1 → t'.getX j = t.getX j) ∧ t'.v = t.v) ∧
        (st = stOK → (bad = true → t'.cir.getLsbD 0 = true) ∧ (bad = false → t'.cir = t.cir) ∧ (t'.lstat, t'.nack) = (t.lstat, t.nack)) ∧
        (st ≠ stOK → t'.lstat = st ∧ t'.nack = true)) ∧
      (r.replies = true → r.drop = false → t.sup = true → r.sup = false → ∃ s', exec (.farLoadReply k i) s = .next s' ∧
        phaseOf (s'.tile k) i = some (.held st data bad) ∧ (s'.tile k).x = t.x ∧ (s'.tile k).v = t.v ∧ (s'.tile k).g = t.g) ∧
      (r.replies = false → ∃ s', exec (.farStoreAck k i) s = .next s' ∧
        let t' := s'.tile k
        farOf t' i = none ∧ t'.x = t.x ∧ t'.ls = t.ls ∧
        (st = stOK → (∀ c < 16, ctr t' c = if r.cc = some c then landed (ctr t c) (r.kind.size * r.dests.length) else ctr t c) ∧
          t'.nack = t.nack) ∧
        (st ≠ stOK → (∀ c < 16, ctr t' c = if r.cc = some c then faulted (ctr t c) else ctr t c) ∧
          t'.lstat = st ∧ t'.nack = true ∧ t'.lidx = r.lidx)))

/-- The group of a copy that is due lands at its destination, or is lost on an edge that is down, and the copy goes on to its next
one; the last group of a push counts at its receiver (R246, R307, R308, R452, R492, R493). -/
def Sys2Proof.Claims.CopyLandings : Prop :=
  ∀ (s : State) (k : Nat), ∀ c o bs, (s.tile k).copies.find? (fun e => decide (e.id = c.id)) = some c →
    c.arrived s.clk = some (o, bs) → s.copyDue k c = true →
    let u := s.tile c.dstTile
    let lost := s.pathDown (tileDie k) (tileDie c.dstTile)
    let last := decide (c.landed + bs.length = c.len)
    ∃ s', exec (.copyGroupLand k c.id) s = .next s' ∧
      let u' := s'.tile c.dstTile
      (lost = false → ∀ j < bs.length, u'.ls.get (c.dst + o + j) = (nth (0, false) bs j).1) ∧
      (∀ a, a < c.dst + o ∨ c.dst + o + bs.length ≤ a → u'.ls.get a = u.ls.get a) ∧ (lost = true → u'.ls = u.ls) ∧
      u'.ingressAt = s.clk + 1 ∧ u'.x = u.x ∧
      (∀ side, c.kind = .halo side → (∀ l, (s.tile k).launch.bind s.launch? = some l → l.dual = true →
          l.twinOf (s.tile c.dstTile).tlin ≠ c.dstTile) → ∀ i < 4, (vget 0 u'.mb i : Word) =
        if i = haloMail side ∧ last = true ∧ lost = false then vget 0 u.mb i + 1 else vget 0 u.mb i) ∧
      (s'.tile k).copies = if last then (s.tile k).copies.filter (fun e => decide (e.id ≠ c.id))
        else (s.tile k).copies.map fun e => if e.id = c.id then { c with groups := c.groups.drop 1, landed := c.landed + bs.length } else e

/-- A granule of a transfer that is ready performs at its home; when its reply or acknowledgement is due it fails with its status,
lands at its places and is counted, or is counted (R311, R312, R315, R454, R569). -/
def Sys2Proof.Claims.Granules : Prop :=
  ∀ (s : State) (k g : Nat) (ext : ExtReply), ∀ d, (s.tile k).dmas.find? (fun e => decide (e.id = d.id)) = some d →
    let t := s.tile k
    let ps := d.places k (if isCrown k then none else t.launch.bind s.launch?) g
    let dest := { d.dest with addr := d.dest.addr + BitVec.ofNat 52 (d.gran g).1 }
    let times := s.farTimes k dest ext.cached
    let back := if d.toGlobal then times.2 else (ps.map fun q => (s.farTimes q.1 dest ext.cached).2).foldl min times.2
    let op : AccOp := if d.toGlobal then .write (ps.flatMap fun q => (s.tile q.1).taggedAt s.clk q.2.1 4) else .read
    (d.state g = .waiting → g < granCount d.dest.addr.toNat d.len → t.awaits s.clk d.after = false →
      (s.isDual k = true → t.compared d.msg = true) → d.firstAt + g + times.1 ≤ s.clk → (d.toGlobal = true → s.placesFree ps = true) →
      ∀ st bs s1, s.performAt k (s.granAccess k d g op ext) = (.done st bs, s1) → exec (.dmaGranuleDone k d.id g ext) s =
        .next (s1.putDma k (d.put s.clk g (.performed st bs
          (if region dest.addr.toNat = .reduce then d.firstAt + g + 150 else s.clk + back))))) ∧
    (∀ st bs at_, d.state g = .performed st bs at_ → at_ ≤ s.clk →
      (st ≠ stOK → exec (.dmaGranuleDone k d.id g ext) s = .next (s.putDma k (d.put s.clk g (.failed st)))) ∧
      (st = stOK → (d.toGlobal = true ∨ s.placesFree ps = true) →
        ∃ s', exec (.dmaGranuleDone k d.id g ext) s = .next s' ∧ (d.toGlobal = true → (s'.tile k).ls = t.ls) ∧
        (twoTiles s k → d.verdict = none → ∀ c < 16, ctr (s'.tile k) c = if c = d.cc then landed (ctr t c) (d.gran g).2 else ctr t c) ∧
        ∀ e ∈ (s'.tile k).dmas, e.id = d.id → e.state g = .done))

/-- A layout engine with room admits a waiting tile, round-robin, or the compared command of a DUAL one; an element that may be
written is read, written and counted, or fails its command (R327, R330, R331, R334, R335, R337). -/
def Sys2Proof.Claims.LayoutSteps : Prop :=
  ∀ (s : State) (die eng : Nat),
    let ek := engKey die eng
    let q := s.engine ek
    (q.ready s.clk = true → (∃ w ∈ s.waiters ek, s.waiterReady ek w = true) → ∃ s', exec (.layoutAdmit die eng) s = .next s' ∧
      (s'.engine ek).admitAt = s.clk + 1 ∧ ∃ w ∈ s.waiters ek, (s'.engine ek).lastAdmitted = some w ∧
        (s.comparedCmd w ek = none → (s'.engine ek).grant = some (w, s.clk) ∧ (s'.tile w).layoutWait = none) ∧
        ∀ c, s.comparedCmd w ek = some c → (s'.engine ek).cmds = q.cmds ++ [{ c with admitted := s.clk }]) ∧
    (∀ i c, q.cmds[i]? = some c → ∀ e < c.shp.count, ∀ ext : ExtReply, (c.elem e).unwritten = true →
      (s.tile c.tile).awaits s.clk c.after = false →
      (ext.readOnly = true → ∀ bs s1, s.elemTake c e ext = (some (.ok bs), s1) → exec (.layoutElementWrite die eng i e ext) s =
        .next (s1.putCmd ek i { c with elems := tabSet c.elems e (.read bs) })) ∧
      (ext.readOnly = false → c.admitted + 32 ≤ s.clk → ∀ bs s1, s.elemTake c e ext = (some (.ok bs), s1) →
        ∀ st s2, s1.elemWrite c e bs ext = (some st, s2) →
        let c' := { c with elems := tabSet c.elems e .written }
        (st = stOK → s2.endFree c' = true → exec (.layoutElementWrite die eng i e ext) s =
          .next ((s2.countAt c.tile c.cc c.shp.z).putCmd ek i c')) ∧
        (st ≠ stOK → s2.endFree (c.fail e st true) = true → exec (.layoutElementWrite die eng i e ext) s =
          .next (s2.putCmd ek i (c.fail e st true)))) ∧
      (ext.readOnly = true ∨ c.admitted + 32 ≤ s.clk → ∀ st s1, s.elemTake c e ext = (some (.error st), s1) →
        s1.endFree (c.fail e st false) = true → exec (.layoutElementWrite die eng i e ext) s =
          .next (s1.putCmd ek i (c.fail e st false)))) ∧
    (∀ i c, q.cmds[i]? = some c → ∀ e < c.shp.count, ∀ bs, bs.length = c.shp.z →
      (c.elem e = .read bs ∨ (c.elem e = .waiting ∧ ∃ v, constOf (c.shp.value e) = some v ∧ bs = clean (toBytes c.shp.z v))) →
      c.admitted + 32 ≤ s.clk → single s c.tile → (s.tile c.tile).awaits s.clk c.after = false → c.dst = none → c.fault = none →
      let p := dealPlace c.tile (c.launch.bind s.launch?) c.blk c.p c.x0 c.y0 c.wd c.base (c.shp.dofs e).toNat
      s.pathDown (tileDie c.tile) (tileDie p.1) = false → (s.tile p.1).rmwHolds s.clk p.2 c.shp.z = false →
      (s.tile p.1).storeHeld p.2 c.shp.z = false →
      let c' := { c with elems := tabSet c.elems e .written }
      ∀ ext : ExtReply, ext.readOnly = false → ∃ s', exec (.layoutElementWrite die eng i e ext) s = .next s' ∧
        (s'.tile p.1).ls.read p.2 c.shp.z = bs.map Prod.fst ∧
        (s'.engine ek).cmds = if c'.isOver then q.cmds.eraseIdx i else q.cmds.set i c')

/-- The key engine's operations end: a verification writes its verdict, an extension counts the bytes or faults, and a key reaches
the bridge when its complex is the active one and there is room (R370, R461, R509, R514). -/
def Sys2Proof.Claims.KeyJobs : Prop :=
  ∀ (s : State) (k i : Nat), twoTiles s k → ∀ j, (s.tile k).kyFind i = some j →
    let t := s.tile k
    let ended (s' : State) : Prop := (s'.tile k).kyJobs = t.kyJobs.filter fun e => decide (e.1 ≠ i)
    (∀ st cc, j = .mextend st cc → cc < 16 → ∃ s', exec (.mextendDone k i) s = .next s' ∧ ended s' ∧
      ctr (s'.tile k) cc = (if st = stOK then landed (ctr t cc) 64 else faulted (ctr t cc))) ∧
    (∀ o a cc, j = .keyld o a cc → cc < 16 →
      let key := s.br.loadKey s.clk o (BitVec.ofNat 256 (t.mem a 32))
      ∃ s', exec (.keyldDone k i) s = .next s' ∧ ended s' ∧
        (crownComplex k = s.fw.act → key.1 = true → s'.br = key.2 ∧ ctr (s'.tile k) cc = landed (ctr t cc) 32) ∧
        (crownComplex k = s.fw.act → key.1 = false → ctr (s'.tile k) cc = faulted (ctr t cc)) ∧
        (crownComplex k ≠ s.fw.act → s'.br = s.br ∧ ctr (s'.tile k) cc = landed (ctr t cc) 32)) ∧
    (∀ a sig n msg mlen iss at_ fuse cc, j = .fverify a sig n msg mlen iss at_ fuse cc → cc < 16 → s.landFree k at_ 4 = true →
      let own := decide (ofBytes64 (shake512 (t.lsRead a 1793)) = s.fuseWord 0)
      let put (s1 : State) (v : Nat) : Prop := ∃ s', exec (.fverifyDone k i) s = .next s' ∧ (s'.tile k).mem at_ 4 = v ∧
        (s'.tile k).kyJobs = ((s1.tile k).kyJobs.filter fun e => decide (e.1 ≠ i)) ∧
        ctr (s'.tile k) cc = landed (ctr (s1.tile k) cc) 4
      (fuse = true → own = false → put s 3) ∧
      (fuse = false ∨ own = true →
        (∀ m s1, s.engineRead k i iss msg msg.addr.toNat mlen (mlen / 64 + 2) = (some (stOK, m), s1) → twoTiles s1 k →
          put s1 (min 2 (falconVerify (t.lsRead a 1793) (t.lsRead sig n) m).toNat)) ∧
        (∀ st m s1, s.engineRead k i iss msg msg.addr.toNat mlen (mlen / 64 + 2) = (some (st, m), s1) → st ≠ stOK →
          exec (.fverifyDone k i) s = .next ((s1.faultCounter k cc st).kyEnd k i))))

/-- A spawn request that has reached its target's router is accepted by an idle tile with none accepted before and refused by any
other, of which its tile and in a DUAL launch the twin hear; an accepted spawn starts with its arguments in x0 to x7, everything
else zero, at its entry bundle (R68, R71 to R73, R246, R310, R493). -/
def Sys2Proof.Claims.Spawns : Prop :=
  ∀ (s : State) (k : Nat), twoTiles s k →
    let t := s.tile k
    (∀ q, t.spawns.find? (fun r => s.spawnArrived k r) = some q → s.isTwin k = false →
      let u := s.tile q.target
      let free := decide (u.run = .idle) && u.spawnIn.isNone && !u.dead && !u.fenced
      ∃ s', exec (.spawnAnswer k) s = .next s' ∧
        (s'.tile k).spawns = (t.spawns.map fun r => if r.sup = q.sup then
          { r with answer := some free, answerAt := r.answerAt + (s.clk - q.arriveAt) } else r) ∧
        ((s'.tile q.target).spawnIn.isSome = (u.spawnIn.isSome || free)) ∧ (s'.tile q.target).run = u.run) ∧
    (∀ q, t.spawnIn = some q → ∀ l, t.launch.bind s.launch? = some l → q.answer.isSome = true → q.startAt ≤ s.clk + 1 →
      t.sup = false → (l.state = .running ∨ l.state = .swapping) →
      ∃ s', exec (.spawnTargetStart k) s = .next s' ∧ ∀ j, (j = k ∨ (l.dual = true ∧ j = l.twinOf t.tlin)) →
        let b := s.tile j
        let t' := s'.tile j
        (∀ i < 64, t'.getX i = if i < 8 then nth 0 q.args i else 0) ∧ (∀ i < 32, t'.getV i = 0) ∧ t'.g = 0 ∧
        (∀ i < 13, ∀ p < 4, t'.latch i p = 0) ∧ (∀ i < 13, t'.sock i = {}) ∧ t'.depth = 0 ∧ t'.ac = Vector.replicate 16 0 ∧
        t'.pc.toNat = q.entry.toNat ∧ t'.wid = q.wid ∧ t'.run = .computing ∧ t'.nextAt = s.clk + 1 ∧ t'.ls = b.ls ∧
        t'.spawnIn = none ∧ t'.tctl = b.tctl ∧ t'.cc = b.cc)

/-- What the engines of a tile and of a die complete: copies, transfers, layout commands, key operations, spawns. -/
def Obligations.EngineCompletions : Prop :=
  Claims.CopyLandings ∧ Claims.Granules ∧ Claims.LayoutSteps ∧ Claims.KeyJobs ∧ Claims.Spawns

namespace Sys2Proof.Claims

open Machine

/-- A tile after a release of the escapement (R61, R160, R174): SSTEP counts, and an arrived tile computes. -/
def afterRelease (t : Tile) (clk : Nat) : Tile :=
  let u := { t with sstep := t.sstep + 1 }
  if t.run = .arrived then { u with run := .computing, nextAt := max t.nextAt clk } else u

/-- A tile after the initial release (R55, R175): a started tile issues its first bundle in that cycle. -/
def afterStart (t : Tile) (clk : Nat) : Tile :=
  if t.run = .waitRelease then { t with run := .computing, nextAt := max t.nextAt clk } else t

/-- A sweep's next phase, from the cycle after the release (R347); with a switch pending it stops there instead (R356). -/
def nextPhase (w : Sweep) (clk : Nat) (stop : Bool) : Sweep :=
  { w with stage := if stop then .stopped else .updating, begun := clk + 1, updateAt := clk + 1, stopAsk := false }

/-- The release of the colour barrier falls due for a tile with a sweep in this cycle or before it, of tiles that stand
apart in the grid (R345, R347). -/
def released (s : State) (k : Nat) (l : Launch) (ms : List Nat) : Prop :=
  (s.tile k).launch.bind s.launch? = some l ∧ (s.tile k).bal.sweep.isSome = true ∧
    ms = s.balReached l ((s.tile k).bal.rect l) ∧ ms.Nodup ∧ ∃ r ≤ s.clk, s.balRelease? k l = some r

end Sys2Proof.Claims

/-- The escapement of a running launch releases 2G after the last arrival or landing once every tile is ready, and not
while one is not; the initial release of a placed launch starts its started tiles; both leave every other tile alone (R55,
R61, R174, R175). -/
def Sys2Proof.Claims.Releases : Prop :=
  ∀ (s : State) (id : Nat), ∀ l, s.launch? id = some l → l.allTiles.Nodup →
    (l.state = .running → l.escT + 2 * l.latency ≤ s.clk → (∃ k ∈ l.allTiles, (s.tile k).run = .arrived) →
      (∀ k ∈ l.allTiles, (s.tile k).escReady = true) → ∃ s', exec (.escapementRelease id) s = .next s' ∧
        s'.launches = s.launches ∧ (∀ k ∈ l.allTiles, s'.tile k = afterRelease (s.tile k) s.clk) ∧
        ∀ k, k ∉ l.allTiles → s'.tile k = s.tile k) ∧
    ((∃ k ∈ l.allTiles, (s.tile k).escReady = false) → exec (.escapementRelease id) s = .next s) ∧
    (l.state = .placed → ∀ c, l.releaseAt = some c →
      (s.clk < c → exec (.initialRelease id) s = .next s) ∧
      (c ≤ s.clk → ∃ s', exec (.initialRelease id) s = .next s' ∧
        (∀ k ∈ l.allTiles, s'.tile k = afterStart (s.tile k) s.clk) ∧ (∀ k, k ∉ l.allTiles → s'.tile k = s.tile k) ∧
        s'.launch? id = some { l with state := .running, releaseAt := none, ranSince := s.clk, escT := s.clk }))

/-- At a phase's update cycle the variables of its colour take their new spins together: a bad record keeps its spin, a
clamped one takes CVAL, and any other is drawn against T of its scaled field; a tile with nothing to send arrives at once. A
halo spin changes its one slot of the neighbour, and of its twin, or is lost on an edge that is down. A readout's group is written to the local store (R341, R343, R344, R347,
R352, R452, R491, R493). -/
def Sys2Proof.Claims.BalancePhases : Prop :=
  ∀ (s : State) (k : Nat),
    let t := s.tile k
    (∀ w, t.bal.sweep = some w → ∀ l, t.launch.bind s.launch? = some l → w.stage = .updating → w.updateAt ≤ s.clk →
      w.begun ≤ s.clk → (s.isDual k = true → t.egress.length < 64) → ∃ s', exec (.balPhaseUpdate k) s = .next s' ∧
        let t' := s'.tile k
        t'.x = t.x ∧ t'.ls = t.ls ∧ t'.bal.marg = t.bal.marg ∧ t'.bal.seed = t.bal.seed ∧ t'.bal.swn = t.bal.swn ∧
        t'.bal.halo = t.bal.halo ∧
        (∀ i < 1024, (w.prime = true ∨ t.bal.n ≤ i ∨ (t.varRec i).colour ≠ w.phase) → t'.bal.spin i = t.bal.spin i) ∧
        (∀ i < t.bal.n, t.bal.n ≤ 1024 → w.prime = false → (t.varRec i).colour = w.phase →
          let r := t.varRec i
          let bad := r.bad t.bal.ncol || decide (modeLimit w.sup < t.bal.rbase + 8 * i + 8)
          (bad = true → t'.bal.spin i = t.bal.spin i) ∧ (bad = false → r.clamp = true → t'.bal.spin i = r.cval) ∧
          (bad = false → r.clamp = false → (t.field w r).2.2 = false → t'.bal.spin i =
            let h := max (-128) (min 127 (((w.beta.toNat : Int) * (t.field w r).1) / 256))
            decide (balDraw t.bal.seed.toNat t.bal.swn.toNat t.tlin i < sigmoid h))) ∧
        ((∀ d < 4, (vget {} t.bal.links d : Link).count = 0) → t'.bal.sends = [] ∧
          (t'.bal.sweep.map fun w' => w'.stage) = some (.arrived w.updateAt))) ∧
    (∀ i h, t.bal.sends[i]? = some h → h.landAt ≤ s.clk → (s.isDual k = true → t.compared h.msg = true) →
      ∃ s', exec (.balHaloLand k i) s = .next s' ∧
        let u := s.tile h.dstTile
        let u' := s'.tile h.dstTile
        let lost := s.pathDown (tileDie k) (tileDie h.dstTile)
        (∀ j < 256, u'.bal.halo.getLsbD j = if j = h.slot ∧ lost = false then h.bit else u.bal.halo.getLsbD j) ∧
        u'.bal.spins = u.bal.spins ∧
        u'.ls = u.ls ∧ u'.mb = u.mb ∧ (s'.tile k).bal.sends = t.bal.sends.eraseIdx i ∧
        ∀ l, u.launch.bind s.launch? = some l → l.dual = true → let w := l.twinOf u.tlin
          ∀ j < 256, (s'.tile w).bal.halo.getLsbD j =
            if j = h.slot ∧ lost = false then h.bit else (s.tile w).bal.halo.getLsbD j) ∧
    (∀ c o bs, t.copies.find? (fun e => decide (e.id = c.id) && decide (e.kind = .readout)) = some c →
      c.arrived s.clk = some (o, bs) → t.rmwHolds s.clk (c.dst + o) bs.length = false →
      t.storeHeld (c.dst + o) bs.length = false →
      ∃ t', exec (.balReadoutLand k c.id) s = .next (s.setTile k t') ∧ t'.bal = t.bal ∧
        t'.copies = (if c.groups.length = 1 then t.copies.filter (fun e => decide (e.id ≠ c.id))
          else t.copies.map fun e => if e.id = c.id then { c with groups := c.groups.drop 1, landed := c.landed + bs.length } else e) ∧
        (∀ j < bs.length, t'.ls.get (c.dst + o + j) = (nth (0, false) bs j).1) ∧
        ∀ a, a < c.dst + o ∨ c.dst + o + bs.length ≤ a → t'.ls.get a = t.ls.get a)

/-- The release of a colour barrier passes every tile that it reaches, and stops all of them where a switch is pending for one:
to the next colour; after the last colour to the next sweep, with
SWN and, where asked, the marginal counters; after the last sweep to the result at `bal.r` (R343, R346 to R348, R356). -/
def Sys2Proof.Claims.ColourBarrier : Prop :=
  ∀ (s : State) (k : Nat), ∀ l, (s.tile k).launch.bind s.launch? = some l → ∀ ms, released s k l ms →
    let stop := ms.any fun j => ((s.tile j).bal.sweep.map fun w => w.stopAsk).getD false
    ∃ s', exec (.balBarrierRelease k) s = .next s' ∧ (∀ j, j ∉ ms → s'.tile j = s.tile j) ∧ ∀ j ∈ ms,
      let t := s.tile j
      let b := t.bal
      let t' := s'.tile j
      (b.sweep = none → t' = t) ∧
      (∀ w, b.sweep = some w → (∃ c ≤ s.clk, w.stage = .arrived c) →
        (w.prime = true → w.total ≠ 0 →
          t' = { t with bal := { b with sweep := some (nextPhase { w with prime := false, phase := 0 } s.clk stop) } }) ∧
        (w.prime = false → w.phase + 1 < b.ncol →
          t' = { t with bal := { b with sweep := some (nextPhase { w with phase := w.phase + 1 } s.clk stop) } }) ∧
        (w.prime = false → b.ncol ≤ w.phase + 1 →
          t'.bal.swn = b.swn + 1 ∧ t'.bal.spins = b.spins ∧ t'.x = t.x ∧ t'.ls = t.ls ∧
          (w.marg = false → t'.bal.marg = b.marg ∧ t'.bal.msat = b.msat) ∧
          (w.marg = true → ∀ i < 1024, (vget 0 t'.bal.marg i : Half).toNat =
            if i < b.n ∧ b.spin i = true then min 0xFFFF ((vget 0 b.marg i : Half).toNat + 1) else (vget 0 b.marg i : Half).toNat) ∧
          (1 < w.left → t'.bal.sweep = some (nextPhase { w with phase := 0, left := w.left - 1 } s.clk stop) ∧ t'.socks = t.socks) ∧
          (w.left ≤ 1 → t'.bal.sweep = none ∧ ∀ r, (t.sock 9).fly = [r] → r.seq = w.seq → r.due = openEnd →
            (t'.sock 9).fly = [{ r with val := wideOf (BitVec.ofNat 32 (w.total + 2 ^ 31 * ofBool w.recerr)), due := s.clk + 1 }])))

/-- Releases of the escapement, and the phases and barriers of the Balance. -/
def Obligations.ReleasesAndPhases : Prop := Claims.Releases ∧ Claims.BalancePhases ∧ Claims.ColourBarrier

namespace Sys2Proof.Claims

open Machine

/-- `n` bytes at an address lie in one granule of bank memory, and the owner rule admits the owner (R399, R400). -/
def openBank (s : State) (o : BitVec 16) (a n : Nat) : Prop :=
  bankBase ≤ a ∧ a % 64 + n ≤ 64 ∧ a + n ≤ bankBase + 2 ^ 30 ∧ (o = 0 ∨ o = s.bankOwnerOf ((a - bankBase) / 2 ^ 16))

/-- The little-endian number that bank memory holds at an address. -/
def bankNum (s : State) (a n : Nat) : Nat := ofBytes (bankBytes s (a - bankBase) n)

/-- Two ranges share no byte. -/
def apart (a n b m : Nat) : Prop := a + n ≤ b ∨ b + m ≤ a

/-- The address of a ring's head word (R423). -/
def headAt (r : Ring) : Nat := r.head.toNat % 2 ^ 52 / 4 * 4

/-- The packet's record and its ring's head word lie in bank memory that the ring's owner may write, apart. -/
structure Answers (s : State) (q : Nat) (ws : List Nat) : Prop where
  record : openBank s (s.ring q).owner (pktCaddr ws) 32
  head : openBank s (s.ring q).owner (headAt (s.ring q)) 4
  between : apart (pktCaddr ws) 32 (headAt (s.ring q)) 4

/-- A range of bank memory that the ring's owner may write, apart from the packet's record and head word. -/
structure Free (s : State) (q : Nat) (ws : List Nat) (a n : Nat) : Prop where
  bank : openBank s (s.ring q).owner a n
  record : apart (pktCaddr ws) 32 a n
  head : apart (headAt (s.ring q)) 4 a n

/-- The firmware serves a ring's packet of a type, its words `ws`: the packet heads the queue that is served, whose slice is not
over (R429, R430). -/
structure Turn (s : State) (q kind : Nat) (ws : List Nat) : Prop where
  serves : s.serves = true
  presented : (s.ring q).presented = true
  unblocked : (s.ring q).blocked = none
  words : s.packetWords q = some ws
  type : pktType ws = kind
  slice : s.serveQueue = (s.ring q).queue.toNat
  packets : s.servePkts < s.schQslice.toNat % 2 ^ 8
  time : s.clk < s.serveSince + s.schQslice.toNat / 2 ^ 8 % 2 ^ 16 * 3300
  first : ((s.queue s.serveQueue).head?.map fun d => d.toNat % 2 ^ 12) = some q

/-- The served queue has lost its first packet, which counts against the slice (R430). -/
def taken (s s' : State) : Prop := s'.queue s.serveQueue = (s.queue s.serveQueue).tail ∧ s'.servePkts = s.servePkts + 1

/-- The packet is consumed: the expectation passes its slots, and the head word follows (R421, R423). -/
def consumed (s s' : State) (q : Nat) (ws : List Nat) : Prop :=
  let e := (s.ring q).exp + BitVec.ofNat 32 (pktSlots ws)
  s'.ring q = { s.ring q with exp := e, presented := false, ready := false, blocked := none, headOwed := false } ∧
    bankNum s' (headAt (s.ring q)) 4 = e.toNat ∧ ∀ p < 4096, p ≠ q → s'.ring p = s.ring p

/-- The record at the packet's address: type, status, handle, Dial, no tile, no cause (Table 18-3, R431). -/
def recorded (s s' : State) (ws : List Nat) (st : Byte) : Prop :=
  let f (o n : Nat) : Nat := bankNum s' (pktCaddr ws + o) n
  f 0 1 = st.toNat ∧ f 1 1 = pktType ws ∧ f 2 2 = 0 ∧ f 4 4 = pw ws 4 % 2 ^ 32 ∧ f 8 8 = s.dialNow.toNat ∧ f 16 4 = 0xFFFFFFFF ∧
    f 20 4 = 0 ∧ f 24 8 = 0

/-- The packet has ended with a status. -/
def ended (s s' : State) (q : Nat) (ws : List Nat) (st : Byte) : Prop := consumed s s' q ws ∧ recorded s s' ws st

/-- The packet blocks its ring, and the queue yields its slice at once (R426, R430). -/
def blocks (s s' : State) (q : Nat) (w : RingWait) : Prop :=
  s'.ring q = { s.ring q with blocked := some w } ∧ s'.bank = s.bank ∧ s'.serveQueue = (s.serveQueue + 1) % 256 ∧
    s'.servePkts = 0 ∧ s'.serveSince = s.clk ∧ s'.launches = s.launches

/-- Bytes of the SIGNAL with SIZE and ADD as in word `i` (Table 18-5). -/
def sigLen (ws : List Nat) (i : Nat) : Nat := if pw ws i % 2 = 1 then 8 else 4

/-- What a SIGNAL leaves at its address (R433). -/
def signalled (s s' : State) (a v sz : Nat) : Prop :=
  let n := if sz % 2 = 1 then 8 else 4
  bankNum s' a n = if sz < 2 then v % 2 ^ (8 * n) else (bankNum s a n + v) % 2 ^ (8 * n)

/-- The condition of a WAIT packet holds of the word that bank memory holds (R435). -/
def waitHolds (s : State) (ws : List Nat) : Bool :=
  let n := if pw ws 12 / 8 % 2 = 1 then 8 else 4
  condHolds (8 * n) (pw ws 12 % 8) (bankNum s (pd2 ws 8) n) (pd2 ws 10 % 2 ^ (8 * n))

/-- The bytes that the crown reads for an owner, if it may. -/
def crownBytes (s : State) (o : BitVec 16) (a n : Nat) : List Byte :=
  match s.crownRead o a n with
  | (some x, _) => x.2
  | (none, _) => []

/-- Entry `i` of a time table (R445). -/
def tableEntry (s : State) (o : BitVec 16) (a i : Nat) : List Byte := crownBytes s o (a + 16 * i) 16

/-- The header that entry `i` names. -/
def tableHeader (s : State) (o : BitVec 16) (a i : Nat) : List Byte := crownBytes s o (ofBytes ((tableEntry s o a i).drop 8)) 256

/-- The words of that header. -/
def tableWords (s : State) (o : BitVec 16) (a i : Nat) : List Nat := (upTo 64).map fun j => fileNum (tableHeader s o a i) (4 * j) 4

/-- The front end may read both at once, and the header is aligned. -/
def tableReadable (s : State) (o : BitVec 16) (a i : Nat) : Prop :=
  s.crownRead o (a + 16 * i) 16 = (some (stOK, tableEntry s o a i), s) ∧ ofBytes ((tableEntry s o a i).drop 8) % 64 = 0 ∧
    s.crownRead o (ofBytes ((tableEntry s o a i).drop 8)) 256 = (some (stOK, tableHeader s o a i), s)

/-- A packet ends with a status: its record is written, then it is consumed (R426, R431). -/
def finishes (s : State) (q : Nat) (ws : List Nat) (st : Byte) (s' : State) : Prop :=
  ∃ s1, s.writeRecord q (s.ring q).owner (s.ring q).exp (pktCaddr ws) (pktType ws) (BitVec.ofNat 32 (pw ws 4)) { status := st } =
    (true, s1) ∧ s' = s1.consume q (pktSlots ws)

/-- The timeout of a WAIT that began in a cycle has passed (R435). -/
def waited (s : State) (ws : List Nat) (since : Nat) : Prop := pw ws 13 ≠ 0 ∧ since + pw ws 13 * 3300 ≤ s.clk

/-- The condition of a WAIT packet holds of the bytes read (R435). -/
def condMet (ws : List Nat) (bs : List Byte) : Bool :=
  let n := if pw ws 12 / 8 % 2 = 1 then 8 else 4
  condHolds (8 * n) (pw ws 12 % 8) (ofBytes bs) (pd2 ws 10 % 2 ^ (8 * n))

/-- Every earlier launch of the ring that a LAUNCH packet began has its record (R435, R445). -/
def fenceHolds (s : State) (q : Nat) : Prop :=
  ∀ m ∈ s.launches, m.2.ring = q → m.2.table = false → m.2.state = .ended ∧ m.2.recordOwed = false

/-- The object that a load gives an owner under a handle, if the load succeeds (R444). -/
def objectOf (o : BitVec 16) (h base : Nat) : LoadResult → Option CodeObj
  | .object image entry segt fmtt plandir safe tables =>
    some ⟨o, h, base, BitVec.ofNat 12 entry, image, segt, fmtt, plandir, safe, tables⟩
  | .imageInvalid | .planInvalid => none

end Sys2Proof.Claims

/-- The merge unit reads a ring's expected slots and, where no other ring of its queue stands ready, presents a valid packet with
its descriptor; a doorbell makes it look at once, or when it is on, and outlasts a handover; a slice ends after its packets, its
time or its queue (R421, R424, R428 to R430, R524). Writes to a ring's control and expectation registers (Table 18-8). -/
def Sys2Proof.Claims.RingSteps : Prop :=
  ∀ (s : State) (q : Nat),
    let r := s.ring q
    let k := r.queue.toNat
    let runs (s : State) : Prop := s.feCtrl.getLsbD 0 = true ∧ (s.ring q).en = true ∧ (s.ring q).presented = false ∧
      (s.ring q).blocked = none ∧ s.serves = true
    let lone : Prop := (s.rings.map Prod.fst).Pairwise (· < ·) ∧ ∀ p ∈ s.rings, p.1 ≠ q → p.2.queue = r.queue → p.2.ready = false
    let looks (s : State) : State := (s.slotsRead q).setRing q { s.ring q with ready := (s.packetWords q).isSome }
    let s1 := if r.headOwed then s.publishHead q else s
    (runs s1 → exec (.ringPoll q) s = .next (((looks s1).turnOrder (s1.ring q).queue.toNat).foldl (fun s p => s.present p) (looks s1))) ∧
    (¬ runs s1 → exec (.ringPoll q) s = .next s1) ∧
    (q < 4096 → r.headOwed = false → runs s → lone →
      (s.queue k).length + (s.enqueued.filter fun e => decide (e.2.1 = k)).length < 64 → s.slotsRead q = s →
      (∀ ws, s.packetWords q = some ws → 1 ≤ pktType ws → pktType ws ≤ 8 → ∃ s', exec (.ringPoll q) s = .next s' ∧
        s'.ring q = { r with presented := true, ready := false, slots := pktSlots ws } ∧ s'.bank = s.bank ∧
        ∃ d, s'.queue k = s.queue k ++ [d] ∧
        d.toNat = r.exp.toNat * 2 ^ 32 + (pktSlots ws - 1) * 2 ^ 24 + pktType ws * 2 ^ 16 + q) ∧
      (s.packetWords q = none → ∃ s', exec (.ringPoll q) s = .next s' ∧ s'.ring q = { r with ready := false } ∧
        s'.queues = s.queues)) ∧
    (s.serves = true → s.feCtrl.getLsbD 0 = true → exec (.ringNudge q) s = exec (.ringPoll q) s) ∧
    (s.serves = true → s.feCtrl.getLsbD 0 = false → exec (.ringNudge q) s =
      .next { s with fw := { s.fw with nudged := (s.fw.nudged.filter fun p => decide (p ≠ q)) ++ [q] } }) ∧
    (s.serves = false → exec (.ringNudge q) s = .next (if s.fw.phase = .switched then
      { s with fw := { s.fw with doorbells := s.fw.doorbells ++ [(q, none)] } } else s)) ∧
    exec (.queueSliceExpiry k) s = .next (if s.serveQueue = k ∧ (s.schQslice.toNat % 2 ^ 8 ≤ s.servePkts ∨
        s.serveSince + s.schQslice.toNat / 2 ^ 8 % 2 ^ 16 * 3300 ≤ s.clk ∨ s.queue k = []) then
      { s with serveQueue := (k + 1) % 256, servePkts := 0, serveSince := s.clk } else s) ∧
    (∀ v : Word,
      (r.en = true → exec (.ringCtlWrite q v) s = .next ((s.setRing q (if v.getLsbD 7 then { r with err := false, off := false }
        else { r with en := false, err := false, off := true, ready := false })).dropCrownHolds r.owner)) ∧
      (r.en = false →
        let r' := { r with owner := v.extractLsb' 16 16, queue := v.extractLsb' 8 8, lgn := v.toNat % 32, err := false, off := true }
        let ok := 4 ≤ r'.lgn && r'.lgn ≤ 16 && namesMemory (r.base.toNat % 2 ^ 52 / 128 * 128) && namesMemory (headAt r)
        exec (.ringCtlWrite q v) s = .next (s.setRing q (if v.getLsbD 7 then
          (if ok then { r' with en := true, off := false } else { r' with err := true }) else r'))) ∧
      exec (.ringExpWrite q v) s = .next (if r.en then s else s.setRing q { r with exp := v }))

/-- What each packet does once the firmware takes it, for every memory its addresses may lie in: a malformed one ends with
PACKET_INVALID; a WRITE, SIGNAL or WRITE_SIGNAL ends with the status of its first part that is not OK; a WAIT or FENCE blocks until
its condition holds or its time is over; LOADCODE and TIMETABLE end with their status, a LAUNCH is accepted. A part held at a page
leaves the packet to be tried again (R412, R426, R427, R432 to R437, R444, R445). -/
def Sys2Proof.Claims.PacketEffects : Prop :=
  ∀ (s : State) (q : Nat),
    let begins (kind : Nat) (ws : List Nat) (s1 : State) : Prop := s.takePacket q kind = some (ws, s1)
    let ends (i : Instr) (s2 : State) (ws : List Nat) (st : Byte) : Prop := ∀ s', finishes s2 q ws st s' → exec i s = .next s'
    (∀ ws s1, begins 2 ws s1 →
      (headerBad ws = true → ends (.writePacket q) s1 ws 0x33) ∧
      (headerBad ws = false →
        (∀ st s2, s1.writePart q ws 12 (writeMax (pktSlots ws)) = (some st, s2) → ends (.writePacket q) s2 ws st) ∧
        (∀ s2, s1.writePart q ws 12 (writeMax (pktSlots ws)) = (none, s2) → exec (.writePacket q) s = .next (s.keepHolds s2)))) ∧
    (∀ ws s1, begins 3 ws s1 →
      let bad := headerBad ws || !signalOk (pd2 ws 8) (pw ws 12)
      (bad = true → ends (.signalPacket q) s1 ws 0x33) ∧
      (bad = false →
        (∀ st s2, s1.signalPart q (pd2 ws 8) (pd2 ws 10) (pw ws 12) = (some st, s2) → ends (.signalPacket q) s2 ws st) ∧
        (∀ s2, s1.signalPart q (pd2 ws 8) (pd2 ws 10) (pw ws 12) = (none, s2) →
          exec (.signalPacket q) s = .next (s.keepHolds s2)))) ∧
    (∀ ws s1, begins 4 ws s1 →
      let bad : Prop := headerBad ws = true ∨ pw ws 17 ≠ 0 ∨ pw ws 18 ≠ 0 ∨ pw ws 19 ≠ 0 ∨ signalOk (pd2 ws 12) (pw ws 16) = false
      (bad → ends (.writeSignalPacket q) s1 ws 0x33) ∧
      (¬ bad →
        (∀ st s2, s1.writePart q ws 20 (writeMax (pktSlots ws) - 32) = (some st, s2) → st ≠ stOK →
          ends (.writeSignalPacket q) s2 ws st) ∧
        (∀ s2, s1.writePart q ws 20 (writeMax (pktSlots ws) - 32) = (some stOK, s2) →
          (∀ st s3, s2.signalPart q (pd2 ws 12) (pd2 ws 14) (pw ws 16) = (some st, s3) → ends (.writeSignalPacket q) s3 ws st) ∧
          (∀ s3, s2.signalPart q (pd2 ws 12) (pd2 ws 14) (pw ws 16) = (none, s3) →
            exec (.writeSignalPacket q) s = .next (s.keepHolds s3))) ∧
        (∀ s2, s1.writePart q ws 20 (writeMax (pktSlots ws) - 32) = (none, s2) →
          exec (.writeSignalPacket q) s = .next (s.keepHolds s2)))) ∧
    (∀ ws s1, begins 5 ws s1 →
      let bad : Prop := headerBad ws = true ∨ pd2 ws 8 % 8 ≠ 0 ∨ pw ws 12 % 8 = 7
      let n := if pw ws 12 / 8 % 2 = 1 then 8 else 4
      let b := s1.setRing q { s1.ring q with blocked := some (.wait s.clk none) }
      (bad → ends (.waitPacket q) s1 ws 0x33) ∧
      (¬ bad → s1.serves = true → b.packetWords q = some ws → s1.clk = s.clk →
        (∀ bs s2, b.crownRead (s1.ring q).owner (pd2 ws 8) n = (some (stOK, bs), s2) →
          (condMet ws bs = true → ∀ s', finishes s2 q ws stOK s' → exec (.waitPacket q) s = .next (s'.yieldIfBlocked q)) ∧
          (condMet ws bs = false → exec (.waitPacket q) s = .next (s2.yieldIfBlocked q))) ∧
        (∀ st bs s2, st ≠ stOK → b.crownRead (s1.ring q).owner (pd2 ws 8) n = (some (st, bs), s2) →
          ∀ s', finishes s2 q ws st s' → exec (.waitPacket q) s = .next (s'.yieldIfBlocked q)) ∧
        (∀ s2, b.crownRead (s1.ring q).owner (pd2 ws 8) n = (none, s2) → exec (.waitPacket q) s = .next (s2.yieldIfBlocked q)))) ∧
    (∀ ws, s.packetWords q = some ws → s.serves = true → ∀ since, (s.ring q).blocked = some (.wait since none) →
      let n := if pw ws 12 / 8 % 2 = 1 then 8 else 4
      (waited s ws since → ends (.waitPoll q) s ws 0x34 ∧ ends (.waitTimeout q) s ws 0x34) ∧
      (¬ waited s ws since → exec (.waitTimeout q) s = .next s ∧
        (∀ bs s2, s.crownRead (s.ring q).owner (pd2 ws 8) n = (some (stOK, bs), s2) →
          (condMet ws bs = true → ends (.waitPoll q) s2 ws stOK) ∧ (condMet ws bs = false → exec (.waitPoll q) s = .next s2)) ∧
        (∀ st bs s2, st ≠ stOK → s.crownRead (s.ring q).owner (pd2 ws 8) n = (some (st, bs), s2) → ends (.waitPoll q) s2 ws st) ∧
        (∀ s2, s.crownRead (s.ring q).owner (pd2 ws 8) n = (none, s2) → exec (.waitPoll q) s = .next s2))) ∧
    (∀ ws, s.packetWords q = some ws → s.serves = true → ∀ since st, (s.ring q).blocked = some (.wait since (some st)) →
      ends (.waitPoll q) s ws st) ∧
    (∀ ws s1, begins 6 ws s1 →
      let o := (s1.ring q).owner
      let h := pw ws 11 % 2 ^ 16
      let rest := s1.objects.filter fun c => !(decide (c.owner = o) && decide (c.handle = h))
      let busy : Prop := ∃ m ∈ s1.launches, m.2.owner = o ∧ m.2.code.handle = h ∧ m.2.state ≠ .ended
      let read := s1.crownRead o (pd2 ws 8) (pw ws 10)
      let end_ (s2 : State) (st : Byte) : Prop := ends (.loadcodePacket q) s2 ws st
      (headerBad ws = true ∨ 1024 ≤ h → end_ s1 0x33) ∧
      (headerBad ws = false → h < 1024 → (busy → end_ s1 0x35) ∧
        (¬ busy → pw ws 10 = 0 → end_ { s1 with objects := rest } stOK) ∧
        (¬ busy → pw ws 10 ≠ 0 →
          (∀ s2, read = (none, s2) → exec (.loadcodePacket q) s = .next (s.keepHolds s2)) ∧
          (∀ st f s2, read = (some (st, f), s2) → st ≠ stOK → end_ s2 st) ∧
          (∀ f s2, read = (some (stOK, f), s2) →
            (fileNum f 8 4 / 2 % 2 = 1 ∨ loadObject f (pw ws 12) = .imageInvalid → end_ s2 0x30) ∧
            (fileNum f 8 4 / 2 % 2 = 0 → loadObject f (pw ws 12) = .planInvalid → end_ s2 0x31) ∧
            (fileNum f 8 4 / 2 % 2 = 0 → ∀ c, objectOf o h (pw ws 12) (loadObject f (pw ws 12)) = some c →
              end_ { s2 with objects := rest ++ [c] } stOK))))) ∧
    (∀ ws s1, begins 7 ws s1 →
      let b := s1.setRing q { s1.ring q with blocked := some (.fence false) }
      (headerBad ws = true → ends (.fencePacket q) s1 ws 0x33) ∧
      (headerBad ws = false → s1.serves = true → b.packetWords q = some ws →
        (fenceHolds b q → ∀ s', finishes b q ws stOK s' → exec (.fencePacket q) s = .next (s'.yieldIfBlocked q)) ∧
        (¬ fenceHolds b q → exec (.fencePacket q) s = .next (b.yieldIfBlocked q)))) ∧
    (∀ ws, s.packetWords q = some ws → s.serves = true → ∀ x, (s.ring q).blocked = some (.fence x) →
      (fenceHolds s q → ends (.fencePacketDone q) s ws stOK) ∧ (¬ fenceHolds s q → exec (.fencePacketDone q) s = .next s)) ∧
    (∀ ws s1, begins 1 ws s1 →
      let b := s1.setRing q { s1.ring q with blocked := some .room }
      (headerBad ws = true → ends (.launchPacket q) s1 ws 0x33) ∧
      (headerBad ws = false → 16384 ≤ s1.pending → exec (.launchPacket q) s = .next (b.yieldIfBlocked q)) ∧
      (headerBad ws = false → s1.pending < 16384 →
        (∀ s2, s1.accept q ws (pd2 ws 12) = (true, s2) → exec (.launchPacket q) s = .next (s2.consume q 2)) ∧
        (∀ s2, s1.accept q ws (pd2 ws 12) = (false, s2) → exec (.launchPacket q) s = .next (s.keepHolds s2)))) ∧
    (∀ ws s1, begins 8 ws s1 →
      let n := pw ws 10
      let bad : Prop := headerBad ws = true ∨ n = 0 ∨ 256 < n ∨ pd2 ws 8 % 16 ≠ 0
      let b := s1.setRing q { s1.ring q with blocked := some .room }
      (bad → ends (.timetablePacket q) s1 ws 0x33) ∧
      (¬ bad → 16384 < s1.pending + n → exec (.timetablePacket q) s = .next (b.yieldIfBlocked q)) ∧
      (¬ bad → s1.pending + n ≤ 16384 →
        (∀ st s2, s1.acceptTable q (pd2 ws 8) n = (some st, s2) → ends (.timetablePacket q) s2 ws st) ∧
        (∀ s2, s1.acceptTable q (pd2 ws 8) n = (none, s2) → exec (.timetablePacket q) s = .next (s.keepHolds s2))))

/-- WRITE, SIGNAL and WRITE_SIGNAL: a malformed one changes nothing else; a well-formed one writes its data, then its signal; a
denied write leaves the signal out; mail lands in the tile's local store and counts (R426, R427, R431 to R434). -/
def Sys2Proof.Claims.WritePackets : Prop :=
  ∀ (s : State) (q : Nat), q < 4096 → ∀ ws, s.packetWords q = some ws → Answers s q ws →
    let o := (s.ring q).owner
    let a := pd2 ws 8
    let n := pw ws 10
    let mail := pw ws 1 / 2 ^ 10 % 2 = 1
    let lenBad := n = 0 ∨ n % 4 ≠ 0
    let sigBad (sa sz : Nat) : Prop := 4 ≤ sz ∨ sa % (if sz % 2 = 1 then 8 else 4) ≠ 0 ∨
      (2 ≤ sz ∧ region sa ∉ [Region.paged, .bank, .reduce])
    let denied := bankBase ≤ a ∧ a % 64 + n ≤ 64 ∧ a + n ≤ bankBase + 2 ^ 30 ∧ ¬ (o = 0 ∨ o = s.bankOwnerOf ((a - bankBase) / 2 ^ 16))
    (Turn s q 2 ws →
      (headerBad ws = true ∨ lenBad ∨ 80 + 124 * (pktSlots ws - 1) < n ∨ (¬ mail ∧ (a % 4 ≠ 0 ∨ pw ws 11 ≠ 0)) →
        ∃ s', exec (.writePacket q) s = .next s' ∧ ended s s' q ws 0x33 ∧ taken s s' ∧ s'.tiles = s.tiles) ∧
      (headerBad ws = false → ¬ lenBad → n ≤ 64 → ¬ mail → a % 4 = 0 → pw ws 11 = 0 →
        (Free s q ws a n → ∃ s', exec (.writePacket q) s = .next s' ∧ ended s s' q ws stOK ∧ taken s s' ∧ s'.tiles = s.tiles ∧
          ∀ j < n / 4, bankNum s' (a + 4 * j) 4 = pw ws (12 + j) % 2 ^ 32) ∧
        (denied → s.rel.evEn = false → ∃ s', exec (.writePacket q) s = .next s' ∧ ended s s' q ws stDenied ∧
          ∀ b, apart (pktCaddr ws) 32 b 1 → apart (headAt (s.ring q)) 4 b 1 → bankBase ≤ b → bankNum s' b 1 = bankNum s b 1)) ∧
      (headerBad ws = false → ¬ lenBad → n ≤ 80 → mail →
        let off := pw ws 9 % 2 ^ 17
        let c := pw ws 9 / 2 ^ 18 % 4
        off % 4 = 0 → off + n ≤ supBase → ∀ l, s.mailTarget o (BitVec.ofNat 32 (pw ws 11)) = some l → pw ws 8 < l.w * l.h →
        s.fenceReason l.id = none → l.state = .running → l.dual = false → s.landFree (l.tileOf (pw ws 8)) off n = true →
        ∃ s', exec (.writePacket q) s = .next s' ∧
        ended s s' q ws stOK ∧
        let k := l.tileOf (pw ws 8)
        let t := s.tile k
        let t' := s'.tile k
        t'.x = t.x ∧ t'.run = t.run ∧ (∀ i < 4, vget 0 t'.mb i = if i = c then vget 0 t.mb i + 1 else vget 0 t.mb i) ∧
        (∀ j < n / 4, t'.mem (off + 4 * j) 4 = pw ws (12 + j) % 2 ^ 32) ∧
        ∀ b, b < off ∨ off + n ≤ b → t'.ls.get b = t.ls.get b)) ∧
    (Turn s q 3 ws →
      (headerBad ws = true ∨ sigBad a (pw ws 12) → ∃ s', exec (.signalPacket q) s = .next s' ∧ ended s s' q ws 0x33 ∧
        taken s s') ∧
      (headerBad ws = false → ¬ sigBad a (pw ws 12) → Free s q ws a (sigLen ws 12) →
        ∃ s', exec (.signalPacket q) s = .next s' ∧ ended s s' q ws stOK ∧ taken s s' ∧ signalled s s' a (pd2 ws 10) (pw ws 12))) ∧
    (Turn s q 4 ws →
      let sa := pd2 ws 12
      (headerBad ws = true ∨ sigBad sa (pw ws 16) ∨ pw ws 17 ≠ 0 ∨ pw ws 18 ≠ 0 ∨ pw ws 19 ≠ 0 →
        ∃ s', exec (.writeSignalPacket q) s = .next s' ∧ ended s s' q ws 0x33 ∧ taken s s') ∧
      (headerBad ws = false → ¬ sigBad sa (pw ws 16) → pw ws 17 = 0 → pw ws 18 = 0 → pw ws 19 = 0 → ¬ mail → ¬ lenBad → n ≤ 48 →
        a % 4 = 0 → pw ws 11 = 0 →
        (Free s q ws a n → Free s q ws sa (sigLen ws 16) → apart a n sa (sigLen ws 16) →
          ∃ s', exec (.writeSignalPacket q) s = .next s' ∧ ended s s' q ws stOK ∧ taken s s' ∧
          signalled s s' sa (pd2 ws 14) (pw ws 16) ∧
          ∀ j < n / 4, bankNum s' (a + 4 * j) 4 = pw ws ((if 20 + j < 32 then 20 else 21) + j) % 2 ^ 32) ∧
        (denied → s.rel.evEn = false → ∃ s', exec (.writeSignalPacket q) s = .next s' ∧ ended s s' q ws stDenied ∧
          ∀ b, apart (pktCaddr ws) 32 b 1 → apart (headAt (s.ring q)) 4 b 1 → bankBase ≤ b → bankNum s' b 1 = bankNum s b 1)))

/-- WAIT and FENCE: one whose condition holds ends OK at once; another blocks and its queue yields, until its condition holds, its
timeout passes, or every earlier packet has its record (R430, R435). -/
def Sys2Proof.Claims.BlockingPackets : Prop :=
  ∀ (s : State) (q : Nat), q < 4096 → ∀ ws, s.packetWords q = some ws → Answers s q ws →
    let r := s.ring q
    let open_ : Prop := openBank s r.owner (pd2 ws 8) (if pw ws 12 / 8 % 2 = 1 then 8 else 4)
    let met : Prop := fenceHolds s q
    (Turn s q 5 ws →
      (headerBad ws = true ∨ pd2 ws 8 % 8 ≠ 0 ∨ pw ws 12 % 8 = 7 → ∃ s', exec (.waitPacket q) s = .next s' ∧
        ended s s' q ws 0x33 ∧ taken s s') ∧
      (headerBad ws = false → pd2 ws 8 % 8 = 0 → pw ws 12 % 8 ≠ 7 → open_ →
        (waitHolds s ws = true → ∃ s', exec (.waitPacket q) s = .next s' ∧ ended s s' q ws stOK ∧ taken s s') ∧
        (waitHolds s ws = false → ∃ s', exec (.waitPacket q) s = .next s' ∧ blocks s s' q (.wait s.clk none)))) ∧
    (Turn s q 7 ws →
      (headerBad ws = true → ∃ s', exec (.fencePacket q) s = .next s' ∧ ended s s' q ws 0x33 ∧ taken s s') ∧
      (headerBad ws = false → met → ∃ s', exec (.fencePacket q) s = .next s' ∧ ended s s' q ws stOK ∧ taken s s') ∧
      (headerBad ws = false → ¬ met → ∃ s', exec (.fencePacket q) s = .next s' ∧ blocks s s' q (.fence false))) ∧
    (s.serves = true → ∀ since, r.blocked = some (.wait since none) →
      (open_ → ¬ waited s ws since → waitHolds s ws = true → ∃ s', exec (.waitPoll q) s = .next s' ∧ ended s s' q ws stOK) ∧
      (open_ → ¬ waited s ws since → waitHolds s ws = false → exec (.waitPoll q) s = .next s) ∧
      (waited s ws since → (∃ s', exec (.waitPoll q) s = .next s' ∧ ended s s' q ws 0x34) ∧
        ∃ s', exec (.waitTimeout q) s = .next s' ∧ ended s s' q ws 0x34) ∧
      (¬ waited s ws since → exec (.waitTimeout q) s = .next s)) ∧
    (s.serves = true → r.blocked = some (.fence false) →
      (met → ∃ s', exec (.fencePacketDone q) s = .next s' ∧ ended s s' q ws stOK) ∧
      (¬ met → exec (.fencePacketDone q) s = .next s))

/-- LOADCODE: a handle out of range or in use, an empty load, a file that fails its checks, and one that becomes the owner's object
(R444, R131, R66). -/
def Sys2Proof.Claims.CodePackets : Prop :=
  ∀ (s : State) (q : Nat), q < 4096 → ∀ ws, s.packetWords q = some ws → Answers s q ws → Turn s q 6 ws →
    let o := (s.ring q).owner
    let h := pw ws 11 % 2 ^ 16
    let rest := s.objects.filter fun c => !(decide (c.owner = o) && decide (c.handle = h))
    let free : Prop := headerBad ws = false ∧ h < 1024 ∧
      ∀ m ∈ s.launches, m.2.owner = o → m.2.code.handle = h → m.2.state = .ended
    let result (s' : State) (st : Byte) (objs : List CodeObj) : Prop := ended s s' q ws st ∧ taken s s' ∧ s'.objects = objs
    (headerBad ws = true ∨ 1024 ≤ h → ∃ s', exec (.loadcodePacket q) s = .next s' ∧ result s' 0x33 s.objects) ∧
    (headerBad ws = false → h < 1024 → (∃ m ∈ s.launches, m.2.owner = o ∧ m.2.code.handle = h ∧ m.2.state ≠ .ended) →
      ∃ s', exec (.loadcodePacket q) s = .next s' ∧ result s' 0x35 s.objects) ∧
    (free → pw ws 10 = 0 → ∃ s', exec (.loadcodePacket q) s = .next s' ∧ result s' stOK rest) ∧
    (free → pw ws 10 ≠ 0 → ∀ x, s.crownRead o (pd2 ws 8) (pw ws 10) = (some x, s) →
      (x.1 ≠ stOK → ∃ s', exec (.loadcodePacket q) s = .next s' ∧ result s' x.1 s.objects) ∧
      (x.1 = stOK → fileNum x.2 8 4 / 2 % 2 = 1 → ∃ s', exec (.loadcodePacket q) s = .next s' ∧ result s' 0x30 s.objects) ∧
      (x.1 = stOK → fileNum x.2 8 4 / 2 % 2 = 0 →
        let res := loadObject x.2 (pw ws 12)
        (res = .imageInvalid → ∃ s', exec (.loadcodePacket q) s = .next s' ∧ result s' 0x30 s.objects) ∧
        (res = .planInvalid → ∃ s', exec (.loadcodePacket q) s = .next s' ∧ result s' 0x31 s.objects) ∧
          ∀ c, objectOf o h (pw ws 12) res = some c → ∃ s', exec (.loadcodePacket q) s = .next s' ∧
            result s' stOK (rest ++ [c])))

/-- LAUNCH and TIMETABLE: a full pending set blocks the ring; a header that fails ends the launch with HEADER_INVALID, an unknown
object with its own status; an accepted launch is QUEUED under the next number; a table is taken entry by entry, up to an unreadable
one. LAUNCH_ABORT by handle (R426, R436, R437, R445, R447). -/
def Sys2Proof.Claims.LaunchPackets : Prop :=
  ∀ (s : State) (q : Nat), q < 4096 → ∀ ws, s.packetWords q = some ws → Answers s q ws →
    let o := (s.ring q).owner
    let obj := s.object? o (pw ws 8 % 2 ^ 16)
    let id := s.accepted
    let refused (s' : State) (st : Byte) : Prop := ended s s' q ws st ∧ s'.accepted = id + 1 ∧
      ((s'.launch? id).map fun l => (l.state, l.record.map fun i => i.status)) = some (.ended, some st)
    (Turn s q 1 ws →
      (headerBad ws = true → ∃ s', exec (.launchPacket q) s = .next s' ∧ ended s s' q ws 0x33 ∧ s'.accepted = s.accepted) ∧
      (headerBad ws = false → 16384 ≤ s.pending → ∃ s', exec (.launchPacket q) s = .next s' ∧ blocks s s' q .room) ∧
      (headerBad ws = false → s.pending < 16384 → s.fw.notices = [] →
        (launchHeaderBad ws = true → ∃ s', exec (.launchPacket q) s = .next s' ∧ refused s' 0x20) ∧
        (launchHeaderBad ws = false → obj = none → ∃ s', exec (.launchPacket q) s = .next s' ∧ refused s' 0x21) ∧
        (launchHeaderBad ws = false → pw ws 28 = 0 → pw ws 29 = 0 → pw ws 24 = noVal → pw ws 26 = noVal → ∀ c, obj = some c →
          c.segt = 0xFFFFFFFF → itemsOf (pd2 ws 16) ((upTo 6).map fun i => pw ws (18 + i)) ≠ 0 →
          ∃ s', exec (.launchPacket q) s = .next s' ∧ consumed s s' q ws ∧ taken s s' ∧ s'.accepted = id + 1 ∧
          ∃ l, s'.launch? id = some l ∧ l.state = .queued ∧ l.owner = o ∧ l.code = c ∧ l.handle = BitVec.ofNat 32 (pw ws 4) ∧
          l.w = pw ws 9 % 2 ^ 10 ∧ l.h = pw ws 9 / 2 ^ 16 % 2 ^ 9 ∧ l.prio = pw ws 11 % 8 ∧ l.srows = pw ws 10 % 2 ^ 9 ∧
          l.tstart.toNat = pd2 ws 12 % 2 ^ 64 ∧ l.preemptible = decide (pw ws 8 / 2 ^ 18 % 2 = 1) ∧
          l.dual = decide (pw ws 8 / 2 ^ 16 % 2 = 1) ∧ l.widf.toNat = pd2 ws 16 % 2 ^ 64))) ∧
    (Turn s q 8 ws →
      (headerBad ws = true ∨ pw ws 10 = 0 ∨ 256 < pw ws 10 ∨ pd2 ws 8 % 16 ≠ 0 → ∃ s', exec (.timetablePacket q) s = .next s' ∧
        ended s s' q ws 0x33 ∧ s'.accepted = s.accepted) ∧
      (headerBad ws = false → 0 < pw ws 10 → pw ws 10 ≤ 256 → pd2 ws 8 % 16 = 0 →
        (16384 < s.pending + pw ws 10 → ∃ s', exec (.timetablePacket q) s = .next s' ∧ blocks s s' q .room) ∧
        (s.pending + pw ws 10 ≤ 16384 → s.crownRead o (pd2 ws 8) 16 = (some (stDenied, []), s) → pw ws 10 = 1 →
          ∃ s', exec (.timetablePacket q) s = .next s' ∧ ended s s' q ws stDenied ∧ s'.accepted = s.accepted) ∧
        (s.pending + pw ws 10 ≤ 16384 → s.fw.notices = [] →
          let h := tableWords s o (pd2 ws 8)
          let bad (w : List Nat) : Bool := headerBad w || launchHeaderBad w
          let plain (w : List Nat) : Prop := pw w 28 = 0 ∧ pw w 29 = 0 ∧ pw w 24 = noVal ∧ pw w 26 = noVal ∧
            itemsOf (pd2 w 16) ((upTo 6).map fun i => pw w (18 + i)) ≠ 0 ∧
            ((s.object? o (pw w 8 % 2 ^ 16)).map fun c => c.segt) = some 0xFFFFFFFF
          (∀ i < pw ws 10, tableReadable s o (pd2 ws 8) i ∧ pktCaddr (h i) = 0 ∧ (bad (h i) = true ∨ plain (h i))) →
          ∃ s', exec (.timetablePacket q) s = .next s' ∧ ended s s' q ws stOK ∧ s'.accepted = id + pw ws 10 ∧
          ∀ i < pw ws 10, ∃ l, s'.launch? (id + i) = some l ∧
            l.tstart.toNat = fileNum (tableEntry s o (pd2 ws 8) i) 0 8 ∧
            (bad (h i) = true → l.state = .ended ∧ (l.record.map fun r => r.status) = some 0x20) ∧
            (bad (h i) = false → l.state = .queued))))

/-- A handle written to a ring's ABORT word ends that launch with ABORTED: at once while it waits, by a fence while it holds a
rectangle, after its swap; during a handover the write is kept (R447, R524). -/
def Sys2Proof.Claims.Aborts : Prop :=
  ∀ (s : State) (q : Nat) (l : Launch), s.launch? l.id = some l → l.ring = q → l.owner = (s.ring q).owner →
    let named (h : Word) (m : Nat × Launch) : Prop := m.2.ring = q ∧ m.2.owner = l.owner ∧ m.2.handle = h ∧ m.2.state ≠ .ended
    (∀ h, exec (.launchAbort q h) s = .next (if s.serves = true then s.abort q h else if s.fw.phase = .switched then
      { s with fw := { s.fw with doorbells := s.fw.doorbells ++ [(q, some h)] } } else s)) ∧
    (s.serves = true → (s.launches.map Prod.fst).Pairwise (· < ·) → (∀ m ∈ s.launches, named l.handle m → m.1 = l.id) →
      (l.state = .swapping → exec (.launchAbort q l.handle) s = .next (s.setLaunch l.id { l with abortWanted := true })) ∧
      (l.state = .queued ∨ l.state = .swapped → ∃ s', exec (.launchAbort q l.handle) s = .next s' ∧
        ((s'.launch? l.id).map fun x => (x.state, x.record.map fun i => i.status)) = some (.ended, some 0x28)) ∧
      (l.state = .running ∨ l.state = .placed → s.fenceReason l.id = none → (∀ w ∈ s.rel.wishes, w.launch ≠ l.id) →
        ∃ s', exec (.launchAbort q l.handle) s = .next s' ∧ s'.launches = s.launches ∧ ∃ w, s'.rel.wishes = s.rel.wishes ++ [w] ∧
        w.launch = l.id ∧ w.reason = 0x14 ∧ w.info.status = 0x28) ∧
      (l.state = .ended → exec (.launchAbort q l.handle) s = .next s) ∧
      (∀ h, (∀ m ∈ s.launches, ¬ named h m) → exec (.launchAbort q h) s = .next s))

/-- Rings, packets and aborts of the crown front end. -/
def Obligations.Packets : Prop :=
  Claims.RingSteps ∧ Claims.PacketEffects ∧ Claims.WritePackets ∧ Claims.BlockingPackets ∧ Claims.CodePackets ∧ Claims.LaunchPackets ∧ Claims.Aborts

namespace Sys2Proof.Claims

open Machine

/-- A launch has ended with a status in its record, and its tiles are free (R63, R431). -/
def endedWith (s' : State) (id : Nat) (l : Launch) (st : Byte) : Prop :=
  ((s'.launch? id).map fun x => (x.state, x.record.map fun i => i.status)) = some (.ended, some st) ∧
    (l.holds = true → ∀ k ∈ l.allTiles, (s'.tile k).launch = none ∧ (s'.tile k).run = .unplaced)

/-- A fence of the launch is asked for, with the status of its record (R571). -/
def wished (s s' : State) (id : Nat) (st : Byte) : Prop :=
  ∃ w, s'.rel.wishes = s.rel.wishes ++ [w] ∧ w.launch = id ∧ w.reason = 0x14 ∧ w.info.status = st

/-- No fence of the launch is asked for or in progress. -/
def alone (s : State) (id : Nat) : Prop := (∀ w ∈ s.rel.wishes, w.launch ≠ id) ∧ s.fenceReason id = none

/-- A waiting launch ends at once; one that holds its rectangle ends by a fence (R439, R441, R571). -/
def fails (s s' : State) (id : Nat) (l : Launch) (st : Byte) : Prop :=
  (l.state = .queued → endedWith s' id l st) ∧ (l.state = .placed → wished s s' id st ∧ s'.launches = s.launches)

/-- What a dependence's record says: the launch it names, in its first two words (Table 18-3). -/
def recordOpen (s : State) (l : Launch) (x : Dep) : Prop := openBank s l.owner x.addr.toNat 8

/-- The record is not written yet, or is another launch's (R438). -/
def unfinished (s : State) (x : Dep) : Prop :=
  bankNum s x.addr.toNat 4 = 0xFFFFFFFF ∨ bankNum s (x.addr.toNat + 4) 4 ≠ x.handle.toNat

/-- The cycle of an initial release sent now (R175). -/
def releaseCycle (s : State) (l : Launch) : Nat := max (s.clk + 1) (s.bu.tickAt + l.latency + 4)

/-- A tile at its placement: Table 2-2. -/
def placedTile (l : Launch) (k : Nat) (t : Tile) : Prop :=
  let worker := k < l.w * (l.h - l.srows)
  t.launch = some l.id ∧ t.tlin = k ∧ t.pc = l.code.entry.setWidth 32 ∧ t.widf = l.widf ∧ t.tctl = 0x00020000 ∧
    t.fmtt = (if l.fmtt = 0xFFFFFFFF then 0 else l.fmtt) ∧ t.g = 0 ∧ (∀ i < 64, t.getX i = 0) ∧ (∀ i < 32, t.getV i = 0) ∧
    t.depth = 0 ∧ t.sstep = 0 ∧ t.cid ≠ 0 ∧ t.cid ≠ 0xFFFF ∧ t.sup = false ∧ t.isSpawn = decide (¬ worker) ∧
    t.run = (if worker ∧ k < l.items then .waitRelease else if worker then .notStarted else .idle) ∧
    t.wid = (if worker ∧ k < l.items then BitVec.ofNat 64 (itemToWid l.widf.toNat l.count k) else 0) ∧
    (l.segt = 0xFFFFFFFF → l.code.base + l.code.image.length ≤ supBase → ∀ a < supBase, t.ls.get a =
      if l.code.base ≤ a then nth 0 l.code.image (a - l.code.base) else 0)

/-- The launch waits for a rectangle and may have one now (R440, R442, R525). -/
def eligible (s : State) (l : Launch) : Prop :=
  s.feCtrl.getLsbD 1 = true ∧ s.bu.ready.getLsbD 26 = true ∧ s.fw.hang = false ∧ l.waits = true ∧
    (l.state = .swapped ∨ s.mayPlace l = true)

/-- Victims whose slices have expired, of a launch (R443). -/
def expired (s : State) (l : Launch) : List Launch := s.candidates fun v => decide (s.effPrio v ≤ s.effPrio l) && s.sliceOver v

/-- A pending launch that cannot fit, and that victims whose slices have expired make fit (R443). -/
def able (s : State) (l : Launch) : Prop :=
  l.waits = true ∧ (l.state = .swapped ∨ s.mayPlace l = true) ∧ l.heldTiles = [] ∧ s.fits l (.these []) = none ∧
    s.victims l (expired s l) [] ≠ none

/-- A swapped launch has taken a rectangle, in which its contexts are to be written back (R80). -/
def rectTaken (s : State) (id : Nat) (l : Launch) (o : Nat × Nat × Nat × Nat) : State :=
  let l := s.takeRect l o .restoring
  (upTo (l.w * l.h)).foldl (fun s k => (l.tileOf k :: if l.dual then [l.twinOf k] else []).foldl (fun s t =>
    s.modTile t fun t => { t with launch := some id, tlin := k, run := RunState.unplaced }) s)
    { s.setLaunch id l with placeCount := s.placeCount + 1 }

/-- The tiles that hold logical tile `i` of a launch with its rectangles at an origin (R49, R488). -/
def tilesAt (l : Launch) (o : Nat × Nat × Nat × Nat) (i : Nat) : List Nat :=
  tileAt (o.1 + i % l.w) (o.2.1 + i / l.w) :: if l.dual then [tileAt (o.2.2.1 + i % l.w) (o.2.2.2 + i / l.w)] else []

end Sys2Proof.Claims

/-- A dependence is read: not written yet, or another launch's, it changes nothing; OK satisfies it; any other status ends
the launch with DEPENDENCE_FAILED. At its start tick the records are read; a launch with a STRICT dependence unfinished then ends
DEPENDENCE_LATE, one placed too late ends START_LATE, and a placed one whose dependences hold is released (R438 to R441, R446, R175). -/
def Sys2Proof.Claims.StartChecks : Prop :=
  ∀ (s : State) (id : Nat), ∀ l, s.launch? id = some l → alone s id →
    let dial := s.dialNow.toNat
    let asked (x : Dep) : Prop := x ∈ l.deps ∧ x.satisfied = false
    let inTime : Prop := l.late = 0 ∨ dial ≤ l.tstart.toNat + l.late.toNat
    (∀ d x, l.deps[d]? = some x → x.satisfied = false → l.state ≠ .ended →
      ∀ w s1, s.crownWordDo l.owner x.addr.toNat = (w, s1) → ∀ h s2, s1.crownWordDo l.owner (x.addr.toNat + 4) = (h, s2) →
      (w = none ∨ h = none ∨ w = some 0xFFFFFFFF ∨ h ≠ some x.handle → exec (.dependencePoll id d) s = .next s2) ∧
      (∀ v, w = some v → v ≠ 0xFFFFFFFF → h = some x.handle →
        (v.toNat % 2 ^ 8 = 0 → exec (.dependencePoll id d) s = .next ((s2.modLaunch id fun l =>
          { l with deps := l.deps.modify d fun x => { x with satisfied := true } }).zeroWork id)) ∧
        (v.toNat % 2 ^ 8 ≠ 0 → exec (.dependencePoll id d) s = .next (s2.wish id 0x14 { status := 0x23 })))) ∧
    (∀ d < 4, ∀ x, l.deps[d]? = some x → x.satisfied = false → l.state ≠ .ended → recordOpen s l x →
      let w := bankNum s x.addr.toNat 4
      (unfinished s x → exec (.dependencePoll id d) s = .next s) ∧
      (¬ unfinished s x →
        (w % 2 ^ 8 = 0 → l.items ≠ 0 → exec (.dependencePoll id d) s =
          .next (s.setLaunch id { l with deps := l.deps.set d { x with satisfied := true } })) ∧
        (w % 2 ^ 8 ≠ 0 → ∃ s', exec (.dependencePoll id d) s = .next s' ∧ fails s s' id l 0x23))) ∧
    (l.tstart ≠ 0 → l.tstart.toNat ≤ dial → l.items ≠ 0 → l.state = .queued ∨ l.state = .placed →
      ∀ s1, s1 = (if l.checked then s else s.dependenceCheck id) → s1.ending id = false → ∀ l1, s1.launch? id = some l1 →
      l1.state ≠ .ended →
      let s2 := s1.setLaunch id { l1 with checked := true }
      let strict : Prop := l1.checked = false ∧ ∃ x ∈ l1.deps, x.strict = true ∧ x.satisfied = false
      (strict → exec (.startTickCheck id) s = .next (s1.wish id 0x14 { status := 0x22 })) ∧
      (¬ strict → l1.state = .placed → l1.depsOk = true → l1.releaseAt = none →
        (l1.late ≠ 0 → l1.tstart.toNat + l1.late.toNat < s2.dialNow.toNat →
          exec (.startTickCheck id) s = .next (s2.wish id 0x14 { status := 0x24 })) ∧
        (l1.late = 0 ∨ s2.dialNow.toNat ≤ l1.tstart.toNat + l1.late.toNat →
          exec (.startTickCheck id) s = .next (s2.sendRelease id))) ∧
      (¬ strict → l1.state ≠ .placed ∨ l1.depsOk = false ∨ l1.releaseAt ≠ none → exec (.startTickCheck id) s = .next s2)) ∧
    (l.tstart = 0 ∨ dial < l.tstart.toNat → exec (.startTickCheck id) s = .next s) ∧
    (l.tstart ≠ 0 → l.tstart.toNat ≤ dial → l.items = 0 → l.state = .queued → l.depsOk = true →
      ∃ s', exec (.startTickCheck id) s = .next s' ∧ endedWith s' id l stOK) ∧
    (l.tstart ≠ 0 → l.tstart.toNat ≤ dial → l.items ≠ 0 → l.state = .queued ∨ l.state = .placed →
      (l.checked = false → (∀ x, asked x → recordOpen s l x ∧ unfinished s x) →
        ((∃ x, asked x ∧ x.strict = true) → ∃ s', exec (.startTickCheck id) s = .next s' ∧ fails s s' id l 0x22) ∧
        ((∃ x, asked x) → (∀ x, asked x → x.strict = false) →
          exec (.startTickCheck id) s = .next (s.setLaunch id { l with checked := true }))) ∧
      (l.state = .placed → l.releaseAt = none → (l.depsOk = true ∨
          (l.checked = false ∧ ∀ x, asked x → recordOpen s l x ∧ ¬ unfinished s x ∧ bankNum s x.addr.toNat 4 % 2 ^ 8 = 0)) →
        (¬ inTime → ∃ s', exec (.startTickCheck id) s = .next s' ∧ wished s s' id 0x24) ∧
        (inTime → exec (.startTickCheck id) s = .next (s.setLaunch id { l with
          deps := l.deps.map fun x => { x with satisfied := true }, checked := true, releaseAt := some (releaseCycle s l) }))))

/-- Placement: a launch that could never fit ends PLACEMENT_IMPOSSIBLE; one whose turn it is takes the first rectangle that
fits, of free tiles within the grid, and its tiles are loaded as Table 2-2 gives; without a start tick its release is sent at
once (R49, R54, R55, R175, R442). -/
def Sys2Proof.Claims.Placement : Prop :=
  ∀ (s : State) (id : Nat), ∀ l, s.launch? id = some l → l.id = id → l.state = .queued → l.items ≠ 0 → s.feCtrl.getLsbD 1 = true →
    s.bu.ready.getLsbD 26 = true → s.fw.hang = false →
    (s.fits l .all = none → ∃ s', exec (.launchPlace id) s = .next s' ∧ endedWith s' id l 0x25) ∧
    (s.fits l .all ≠ none → s.turnOf l = false → exec (.launchPlace id) s = .next s) ∧
    (s.fits l .all ≠ none → s.turnOf l = true → ∀ o, s.fits l (.these []) = some o → 0 < l.w → 0 < l.h →
      ∃ s', exec (.launchPlace id) s = .next s' ∧ o.1 + l.w ≤ 512 ∧ o.2.1 + l.h ≤ 320 ∧
        (l.dual = true → o.2.2.1 + l.w ≤ 512 ∧ o.2.2.2 + l.h ≤ 320 ∧ rectsTouch o.1 o.2.1 o.2.2.1 o.2.2.2 l.w l.h = false) ∧
        (∃ l', s'.launch? id = some l' ∧ l'.state = .placed ∧ l'.ox = o.1 ∧ l'.oy = o.2.1 ∧ l'.placeNo = s.placeCount ∧
          (l.dual = true → l'.tox = o.2.2.1 ∧ l'.toy = o.2.2.2) ∧ (l.dual = false → l'.latency = treeG o.1 o.2.1 l.w l.h) ∧
          l'.releaseAt = if l.tstart = 0 then some (max (s.clk + 1) (s.bu.tickAt + l'.latency + 4)) else l.releaseAt) ∧
        (∀ i < l.w * l.h, ∀ k ∈ tilesAt l o i, (s.tile k).launch = none ∧ (s'.tile k).cid ≠ (s.tile k).mxCid ∧
          k ∉ s.rel.retired ∧ placedTile l i (s'.tile k)) ∧
        ∀ k, k ∉ rectTiles o.1 o.2.1 l.w l.h → (l.dual = true → k ∉ rectTiles o.2.2.1 o.2.2.2 l.w l.h) → s'.tile k = s.tile k)

/-- The victims that the engine chose are being swapped out, every tile of them with a switch pending, and their tiles are held
for the launch (R79, R443). -/
def Sys2Proof.Claims.preempted (s s' : State) (l : Launch) (ids : List Nat) : Prop :=
  (s'.launch? l.id).map (fun x => x.heldTiles) =
      some (ids.flatMap fun i => ((s.launch? i).map fun v => v.allTiles).getD []) ∧
    ∀ i ∈ ids, ∀ v, s.launch? i = some v → s'.launch? i = some { v with state := .swapping } ∧
      ∀ k ∈ v.allTiles, (s'.tile k).switchPend = true ∧ (s'.tile k).saved = false ∧ (s'.tile k).x = (s.tile k).x

/-- Pre-emption: a launch that has waited long enough at effective priority 7 without fitting is reserved, and where no other is
reserved its victims are swapped out; the first pending launch that victims whose slices have expired make fit has them swapped
out and their tiles held. Where one running PREEMPTIBLE launch alone can be a victim, and its contexts can be held, it is the victim
(R79, R443). -/
def Sys2Proof.Claims.Preemption : Prop :=
  ∀ (s : State) (id : Nat), ∀ l, s.launch? id = some l → l.id = id → eligible s l → s.fits l (.these []) = none →
    (∀ t, s.ticksAt7 l = some t → s.schReserve.toNat * 1000 < t → s.reservedOne = none →
      s.candidates (fun v => decide (s.effPrio v < s.effPrio l)) = [] →
      ∃ s', exec (.launchReservation id) s = .next s' ∧ s'.launch? id = some { l with reserved := true } ∧ s'.tiles = s.tiles) ∧
    (∀ t, s.ticksAt7 l = some t → s.schReserve.toNat * 1000 < t → s.reservedOne = none → l.heldTiles = [] →
      ∀ ids, s.victims l (s.candidates fun v => decide (s.effPrio v < s.effPrio l)) [] = some ids → ids.Nodup → id ∉ ids →
      ∃ s', exec (.launchReservation id) s = .next s' ∧ preempted s s' l ids ∧
        (s'.launch? id).map (fun x => x.reserved) = some true) ∧
    (∀ t, s.ticksAt7 l = some t → s.schReserve.toNat * 1000 < t →
      let s1 := s.setLaunch id { l with reserved := true }
      ∀ r, s1.reservedOne = some r →
        let cands := s1.candidates fun v => decide (s1.effPrio v < s1.effPrio r)
        (r.id ≠ id ∨ r.heldTiles ≠ [] ∨ s1.victims r cands [] = none → exec (.launchReservation id) s = .next s1) ∧
        (r.id = id → r.heldTiles = [] → ∀ ids, s1.victims r cands [] = some ids →
          exec (.launchReservation id) s = .next (s1.preempt r ids))) ∧
    ((∀ t, s.ticksAt7 l = some t → t ≤ s.schReserve.toNat * 1000) → exec (.launchReservation id) s = .next s) ∧
    (s.schSlice ≠ 0 → l.heldTiles = [] → s.reservedOne = none → (∀ m ∈ s.launches, s.before m.2 l = true → ¬ able s m.2) →
      (∀ ids, s.victims l (expired s l) [] = some ids → exec (.slicePreempt id) s = .next (s.preempt l ids) ∧
        (ids.Nodup → id ∉ ids → preempted s (s.preempt l ids) l ids)) ∧
      (s.victims l (expired s l) [] = none → exec (.slicePreempt id) s = .next s) ∧
      ∀ v ∈ s.launches, v.1 = v.2.id → v.1 ≠ id → (s.launches.map Prod.fst).Pairwise (· < ·) → v.2.state = .running →
        v.2.preemptible = true → alone s v.1 → (∀ m ∈ s.launches, m.2.state = .running → m.2.preemptible = true → m.1 = v.1) →
        s.effPrio v.2 ≤ s.effPrio l → v.2.allTiles.Nodup → s.fits l (.these [v.1]) ≠ none → s.areaHolds v.2.owner [v.1] = true →
        (v.2.ranSince + s.schSlice.toNat * 3300 ≤ s.clk → ∃ s', exec (.slicePreempt id) s = .next s' ∧
          s'.launch? id = some { l with heldTiles := v.2.allTiles } ∧ s'.launch? v.1 = some { v.2 with state := .swapping } ∧
          ∀ k ∈ v.2.allTiles, s'.tile k = { s.tile k with switchPend := true, saved := false }) ∧
        (s.clk < v.2.ranSince + s.schSlice.toNat * 3300 → exec (.slicePreempt id) s = .next s))

/-- A context block after the save: the scratchpad, the mailboxes, CIR and the completion counters as the tile
has them then; and, of a tile that never entered the supervisor for the switch, its header and registers (R45, R47, Table 1-7). -/
def Sys2Proof.Claims.savedBlock (c : SavedCtx) (t : Tile) : Prop :=
  let b := c.block
  (∀ a < supBase, b.get (0x5000 + a) = t.ls.get a) ∧ b.num 0xA40 8 = t.cir.toNat ∧
    (∀ i < 4, b.num (0x3400 + 4 * i) 4 = (vget (0 : Word) t.mb i).toNat) ∧
    (∀ i < 16, b.num (0x3300 + 16 * i) 4 = (vget ({} : Counter) t.cc i).count.toNat + 2 ^ 30 * (vget ({} : Counter) t.cc i).status.toNat) ∧
    (t.saved = false → c.run = t.run ∧ b.num 0 4 = 0x00010000 ∧ b.num 4 4 = 0x1C000 ∧ b.num 16 4 = t.cid.toNat ∧ b.num 0x940 1 = (t.g &&& 0xFE).toNat ∧
      b.num 0xA60 8 = t.wid.toNat ∧ (∀ i < 64, b.num (0x40 + 4 * i) 4 = (t.getX i).toNat) ∧
      ∀ i < 32, b.num (0x140 + 64 * i) 64 = (t.getV i).toNat)

/-- A tile restored from a context block (R80, R41, Table 1-7). -/
def Sys2Proof.Claims.restored (c : SavedCtx) (t : Tile) : Prop :=
  let b := c.block
  t.run = c.run ∧ t.tlin = c.tlin ∧ t.sup = false ∧ t.cid ≠ 0 ∧ t.cid ≠ 0xFFFF ∧ t.pc = c.tepc ∧ t.wid.toNat = b.num 0xA60 8 ∧
    (∀ i < 64, (t.getX i).toNat = b.num (0x40 + 4 * i) 4) ∧ (∀ i < 32, (t.getV i).toNat = b.num (0x140 + 64 * i) 64) ∧
    (∀ i < 4, (vget (0 : Word) t.mb i).toNat = b.num (0x3400 + 4 * i) 4) ∧
    (∀ i < 16, (vget ({} : Counter) t.cc i).count.toNat = b.num (0x3300 + 16 * i) 4 % 2 ^ 30) ∧
    (c.segtSet = false → ∀ a < supBase, t.ls.get a = b.get (0x5000 + a))

/-- A swap-out completes when every tile has stopped and nothing of the launch is under way: its tiles' contexts are saved and the
rectangle is freed; an abort that waited ends the launch. A restore takes a rectangle and writes every context back, once no
tile holds the launch's tile registers; a context that is not valid ends it, and one that could never fit ends PLACEMENT_IMPOSSIBLE.
A running launch whose tiles have all ended is COMPLETED, or CIR_SET with the lowest tile and every CIR, or DIVERGED where the CIR
of a DUAL pair differ (R45, R48, R63, R79, R80, R268, R447, R487, R490, R531). -/
def Sys2Proof.Claims.SwapsAndEnds : Prop :=
  ∀ (s : State) (id : Nat), ∀ l, s.launch? id = some l → l.id = id →
    let stopped : Prop := ∀ k ∈ l.allTiles, (s.tile k).stopped = true ∧ (s.tile k).quiet = true ∧ (s.tile k).settled = true ∧
      (s.tile k).bal.paused = true
    let ends : Prop := ∀ k ∈ l.allTiles, (s.tile k).ended = true
    let cir (i : Nat) : Word := (s.tile (l.tileOf i)).cir
    let twin (i : Nat) : Word := (s.tile (l.twinOf i)).cir
    let agree : Prop := l.dual = true → ∀ i < l.w * l.h, cir i = twin i
    (l.state = .swapping → s.layoutBusy id = false → alone s id →
      let s1 := s.modTiles l.allTiles fun t => t.macroStop s.clk
      (stopped → ∀ i, s1.pairSplit l = some i → exec (.swapOutComplete id) s = .next (s1.divergence l i 1 false)) ∧
      (stopped → s1.pairSplit l = none → l.allTiles.Nodup → ∃ s', exec (.swapOutComplete id) s = .next s' ∧
        (∀ k ∈ l.allTiles, (s'.tile k).launch = none ∧ (s'.tile k).run = .unplaced) ∧
        (l.abortWanted = true → endedWith s' id { l with state := .swapped } 0x28) ∧
        (l.abortWanted = false → ∃ l', s'.launch? id = some l' ∧ l'.state = .swapped ∧
          (l'.ctxs.map fun c => c.tlin) = (l.ctxs.map fun c => c.tlin) ∧
          ∀ c ∈ l'.ctxs, c.tlin < l.w * l.h → savedBlock c ((s.tile (l.tileOf c.tlin)).macroStop s.clk))) ∧
      (¬ stopped → exec (.swapOutComplete id) s = .next s)) ∧
    (l.state = .swapped → s.feCtrl.getLsbD 1 = true → s.bu.ready.getLsbD 26 = true → s.fw.hang = false → s.fits l .all = none →
      ∃ s', exec (.launchRestore id) s = .next s' ∧ endedWith s' id l 0x25) ∧
    (let back (s1 : State) (l1 : Launch) : Prop :=
       ((∃ c ∈ l1.ctxs, c.ok = false) → exec (.launchRestore id) s = .next (s1.wish id 0x14 { status := 0x26 })) ∧
       ((∀ c ∈ l1.ctxs, c.ok = true) →
         (s1.holders id = [] → exec (.launchRestore id) s = .next (s1.restoreAll l1)) ∧
         (s1.holders id ≠ [] → exec (.launchRestore id) s =
           .next (s1.modTiles (s1.holders id) fun t => { t with pend := t.pend ||| 2 })))
     (l.state = .restoring → alone s id → back s l) ∧
     (l.state = .swapped → s.turnOf l = true → s.fits l .all ≠ none → alone s id → ∀ o, s.fits l (.these []) = some o →
       back (rectTaken s id l o) (s.takeRect l o .restoring))) ∧
    (l.state = .swapped → s.turnOf l = true → s.fits l .all ≠ none → alone s id → ∀ o, s.fits l (.these []) = some o →
      0 < l.w → 0 < l.h → l.ctxs.length = l.w * l.h → (∀ i < l.w * l.h, (l.ctxs[i]?.map fun c => c.tlin) = some i) →
      ((∃ c ∈ l.ctxs, c.ok = false) → ∃ s', exec (.launchRestore id) s = .next s' ∧ wished s s' id 0x26) ∧
      ((∀ c ∈ l.ctxs, c.ok = true) → s.holders id = [] → l.mail = [] → ∃ s', exec (.launchRestore id) s = .next s' ∧
        (∃ l', s'.launch? id = some l' ∧ l'.state = .running ∧ l'.ox = o.1 ∧ l'.oy = o.2.1 ∧
          (l'.ctxs.map fun c => c.tlin) = (l.ctxs.map fun c => c.tlin)) ∧
        ∀ i < l.w * l.h, ∀ c, l.ctxs[i]? = some c → ∀ k ∈ tilesAt l o i,
          (s'.tile k).launch = some id ∧ restored c (s'.tile k))) ∧
    (l.state = .running → s.layoutBusy id = false → alone s id → l.allTiles.Nodup →
      (ends → l.dual = true → ∀ i < l.w * l.h, cir i ≠ twin i → (∀ j < i, cir j = twin j) →
        ∃ s', exec (.launchComplete id) s = .next s' ∧ s'.launches = s.launches ∧
        ∃ w, s'.rel.wishes = s.rel.wishes ++ [w] ∧ w.launch = id ∧ w.reason = 0x10 ∧ w.info.status = 0x10 ∧ w.info.tlin.toNat = i) ∧
      (ends → agree → (∀ i < l.w * l.h, cir i = 0) → ∃ s', exec (.launchComplete id) s = .next s' ∧ endedWith s' id l stOK) ∧
      (ends → agree → ∀ i < l.w * l.h, cir i ≠ 0 → (∀ j < i, cir j = 0) → ∃ s', exec (.launchComplete id) s = .next s' ∧
        endedWith s' id l 0x15 ∧ ∃ x, s'.launch? id = some x ∧ (x.record.map fun r => r.tlin) = some (BitVec.ofNat 32 i)) ∧
      (¬ ends → exec (.launchComplete id) s = .next s))

/-- Launches from their dependences and start ticks to placement, pre-emption, swaps and their end. -/
def Obligations.Scheduling : Prop := Claims.StartChecks ∧ Claims.Placement ∧ Claims.Preemption ∧ Claims.SwapsAndEnds

namespace Sys2Proof.Claims

open Machine

/-- The state with only the translation registers changed. -/
def withXl (s : State) (f : Xl → Xl) : State := { s with xl := f s.xl }

/-- A command to the generation registers, taken at once or after the raise in progress (R415). -/
def genBegun (x : Xl) (asid : BitVec 16) : Xl :=
  let g := tabGet 0 x.gens asid.toNat + 1
  { x with gens := tabSet x.gens asid.toNat g, genBusy := some asid, genLast := g
           cache := if g = 0 then x.cache.filter fun c => decide (c.asid ≠ asid) else x.cache }

/-- An address's entry as the shard holds it (R410): its die, offset and fields. -/
def entryAt (s : State) (asid : BitVec 16) (vpn : BitVec 35) (die off : Nat) (p : Pte) : Prop :=
  s.lookupPage (vpn.toNat * 2 ^ 16) asid.toNat = .entry die off p ∧ die < 16

/-- The 16 bytes of an entry in a die's HBM half. -/
def pteNum (s : State) (die off : Nat) : Nat := (s.hbmOf die).num off 16

/-- The offsets of a page's entries: a 2 MiB page has 32 alike in the tree (R409, R413). -/
def pteOffs (s : State) (off : Nat) (p : Pte) : List Nat :=
  if s.xl.tree = true ∧ p.large = true then (upTo 32).map fun i => off / 512 * 512 + 16 * i else [off]

/-- The page's entries have changed and nothing else of any HBM half. -/
def onlyPte (s s' : State) (die off : Nat) (p : Pte) : Prop :=
  ∀ d < 16, ∀ a, (d ≠ die ∨ ∀ o ∈ pteOffs s off p, a < o ∨ o + 16 ≤ a) → (s'.hbmOf d).get a = (s.hbmOf d).get a

/-- The page's entries have the bits of a field replaced. -/
def pteSet (s s' : State) (die off : Nat) (p : Pte) (hi lo v : Nat) : Prop :=
  ∀ o ∈ pteOffs s off p, ∀ i < 128,
    bit (pteNum s' die o) i = if lo ≤ i ∧ i ≤ hi then bit v (i - lo) else bit (pteNum s die o) i

/-- The exactly-once record is one of the page that moves (R418). -/
def ofPage (m : Migration) (r : Applied) : Prop :=
  let v := m.vpn.toNat * 2 ^ 16
  r.die = m.oldDie ∧ r.asid = some m.asid ∧ v ≤ r.addr ∧ r.addr < v + if m.large then 2 ^ 21 else 2 ^ 16

end Sys2Proof.Claims

/-- The translation registers: the live set until its lock; a raise of a generation, a flush, and the commands that wait for
a raise in progress; the end of a raise, which drops the older translations; the retirement of a DEMAND notice (R391, R415,
R419, R532). -/
def Sys2Proof.Claims.TranslationRegisters : Prop :=
  ∀ (s : State) (v : Word) (asid : BitVec 16),
    let x := s.xl
    (x.lock = true → exec (.xlLiveWrite v) s = .next s) ∧
    (x.lock = false → exec (.xlLiveWrite v) s = .next (withXl s fun x => { x with live := v.setWidth 16, lock := v.getLsbD 31 })) ∧
    (x.genBusy = none → exec (.xlGenerationRaise asid) s = .next (withXl s fun x => genBegun x asid) ∧
      exec .xlCacheFlush s = .next (withXl s fun x => { x with cache := [] }) ∧ exec .generationRaiseDone s = .next s) ∧
    (∀ a, x.genBusy = some a →
      exec (.xlGenerationRaise asid) s = .next (withXl s fun x => { x with genQueue := x.genQueue ++ [asid.setWidth 32] }) ∧
      exec .xlCacheFlush s = .next (withXl s fun x => { x with genQueue := x.genQueue ++ [0x80000000] }) ∧
      let left : Xl := { x with genBusy := none, genQueue := []
                                cache := x.cache.filter fun c => decide (c.asid ≠ a) || decide (c.gen = tabGet 0 x.gens a.toNat) }
      (x.genQueue = [] → exec .generationRaiseDone s = .next (withXl s fun _ => left)) ∧
      (∀ rest, x.genQueue = asid.setWidth 32 :: rest →
        exec .generationRaiseDone s = .next (withXl s fun _ => { genBegun left asid with genQueue := rest })) ∧
      (x.genQueue = [0x80000000] → exec .generationRaiseDone s = .next (withXl s fun _ => { left with cache := [] })) ∧
      (∀ rest, x.genQueue = 0x80000000 :: asid.setWidth 32 :: rest → exec .generationRaiseDone s =
        .next (withXl s fun _ => { genBegun { left with cache := [] } asid with genQueue := rest }))) ∧
    exec .demandAck s = .next (withXl s fun x => { x with demand := x.demand.tail })

/-- A DEMAND page that the firmware resolves becomes ACTIVE or loses its VALID bit; a ZEROING page's frame reads zero without
tags and its entry becomes ACTIVE; another state is left alone (R390, R412, R416). -/
def Sys2Proof.Claims.PageStates : Prop :=
  ∀ (s : State) (asid : BitVec 16) (vpn : BitVec 35) (die off : Nat), ∀ p, entryAt s asid vpn die off p →
    (p.state = 3 → ∃ s', exec (.demandResolved asid vpn true) s = .next s' ∧ onlyPte s s' die off p ∧ pteSet s s' die off p 61 60 0) ∧
    (p.state = 3 → ∃ s', exec (.demandResolved asid vpn false) s = .next s' ∧ onlyPte s s' die off p ∧ pteSet s s' die off p 63 63 0) ∧
    (p.state ≠ 3 → ∀ b, exec (.demandResolved asid vpn b) s = .next s) ∧
    (p.state = 1 → p.kind = 0 → p.home < 16 →
      let a := p.frame * 2 ^ 16
      (p.home ≠ die ∨ ∀ o ∈ pteOffs s off p, o + 16 ≤ a ∨ a + p.size ≤ o) →
      ∃ s', exec (.zeroingDone asid vpn) s = .next s' ∧ pteSet s s' die off p 61 60 0 ∧
        (∀ b, a ≤ b → b < a + p.size → (s'.hbmOf p.home).get b = 0 ∧ s'.hbmBad p.home b = false) ∧
        (∀ d < 16, ∀ b, (d ≠ p.home ∨ b < a ∨ a + p.size ≤ b) → (d ≠ die ∨ ∀ o ∈ pteOffs s off p, b < o ∨ o + 16 ≤ b) →
          (s'.hbmOf d).get b = (s.hbmOf d).get b)) ∧
    (p.state ≠ 1 → exec (.zeroingDone asid vpn) s = .next s)

/-- A migration: GO names an ACTIVE page of HBM and another die, or sets ERR; the frame and the exactly-once records move to
the new home; the shard's entry then names the new home and frame and the generation is raised; the migration ends with that
raise (R417, R418). -/
def Sys2Proof.Claims.Migrations : Prop :=
  ∀ (s : State) (v : DWord) (die off : Nat),
    let x := s.xl
    let asid : BitVec 16 := x.miga.extractLsb' 48 16
    let vpn : BitVec 35 := x.miga.setWidth 35
    let new := v.toNat / 2 ^ 20 % 16
    let kept : DWord := v &&& 0x8000000000F7FFFF
    (x.mig.isSome = true ∨ v.getLsbD 63 = false → exec (.migrationGo v) s = .next (withXl s fun x => { x with migb := kept })) ∧
    (x.mig = none → v.getLsbD 63 = true → ∀ p, entryAt s asid vpn die off p →
      (p.state = 0 → p.kind = 0 → p.home ≠ new → exec (.migrationGo v) s = .next (withXl s fun x => { x with
        migb := kept, migPhase := 1
        mig := some { asid, vpn := BitVec.ofNat 35 (p.page (vpn.toNat * 2 ^ 16)), oldDie := p.home, oldFrame := p.frame, newDie := new
                      newFrame := v.toNat % 2 ^ 19, large := p.large, phase := 1 } })) ∧
      (p.state ≠ 0 ∨ p.kind ≠ 0 ∨ p.home = new →
        exec (.migrationGo v) s = .next (withXl s fun x => { x with migb := kept, migErr := true }))) ∧
    (∀ m, x.mig = some m →
      let n := if m.large then 2 ^ 21 else 2 ^ 16
      let a := m.oldFrame * 2 ^ 16
      let b := m.newFrame * 2 ^ 16
      (m.phase = 1 → m.newDie < 16 → m.oldDie ≠ m.newDie → ∃ s', exec .migrationCopy s = .next s' ∧
        s'.xl.mig = some { m with phase := 2 } ∧ s'.xl.migPhase = 2 ∧
        (∀ j < n, (s'.hbmOf m.newDie).get (b + j) = (s.hbmOf m.oldDie).get (a + j)) ∧
        (∀ d < 16, ∀ j, (d ≠ m.newDie ∨ j < b ∨ b + n ≤ j) → (s'.hbmOf d).get j = (s.hbmOf d).get j) ∧
        (∀ j < n, s'.hbmBad m.newDie (b + j) = s.hbmBad m.oldDie (a + j)) ∧
        (∀ (i : Nat) (r : Applied), s.xl.applied[i]? = some r →
          (ofPage m r → s'.xl.applied[i]? = some { r with die := m.newDie }) ∧ (¬ ofPage m r → s'.xl.applied[i]? = some r))) ∧
      (m.phase = 2 → x.genBusy = none → ∀ p, die < 16 →
        s.entryWhere (m.vpn.toNat * 2 ^ 16) m.asid.toNat (fun p => decide (p.large = m.large)) = some (die, off, p) →
        ∃ s', exec .migrationForward s = .next s' ∧
        onlyPte s s' die off p ∧ (∀ o ∈ pteOffs s off p, bits (pteNum s' die o) 120 116 = m.newDie % 32 ∧
          bits (pteNum s' die o) 111 74 = m.newFrame % 2 ^ 38 ∧ bits (pteNum s' die o) 61 60 = 0 ∧
          bits (pteNum s' die o) 55 0 = bits (pteNum s die o) 55 0) ∧
        s'.xl.mig = some { m with phase := 3 } ∧ s'.xl.genBusy = some m.asid ∧ s'.xl.migPhase = 3) ∧
      (m.phase = 3 → x.genBusy ≠ some m.asid → m.asid.setWidth 32 ∉ x.genQueue →
        exec .migrationDone s = .next (withXl s fun x => { x with mig := none, migPhase := 4 })) ∧
      (m.phase = 3 → x.genBusy = some m.asid → exec .migrationDone s = .next s))

/-- Translation: its registers, the states of a page, and migration. -/
def Obligations.Translation : Prop := Claims.TranslationRegisters ∧ Claims.PageStates ∧ Claims.Migrations

namespace Sys2Proof.Claims

open Machine

/-- The state with only the bring-up, Dial and power registers changed. -/
def withBu (s : State) (f : Bu → Bu) : State := { s with bu := f s.bu }

/-- A word with bit `n` set, bit by bit. -/
def oneMore (w w' : Word) (n : Nat) : Prop := ∀ i < 32, w'.getLsbD i = (w.getLsbD i || decide (i = n))

/-- A word with bit `n` clear, bit by bit. -/
def oneLess (w w' : Word) (n : Nat) : Prop := ∀ i < 32, w'.getLsbD i = (w.getLsbD i && decide (i ≠ n))

/-- PPS_OUT rises between two values of the Dial (R537). -/
def ppsRises (a b : DWord) : Nat := if a.toNat / 10 ^ 9 = b.toNat / 10 ^ 9 then 0 else 1

/-- Tile `n` of a die, and no other, is named `d * 2 ^ 14 + n` (R9). -/
def dieTile (d n : Nat) : Nat := d * 2 ^ 14 + n

/-- The launch holds a tile of the die. -/
def onDie (l : Launch) (d : Nat) : Prop := ∃ k ∈ l.allTiles, tileDie k = d

/-- A fence is asked for, with the reason, of each launch that holds its rectangle, has none asked for or in progress and
is hit; of no other; and the fences asked for before stay so (R571). -/
def fencesAsked (s s' : State) (hit : Nat → Launch → Prop) (reason : Byte) : Prop :=
  s'.rel.wishes.take s.rel.wishes.length = s.rel.wishes ∧
    ∀ m ∈ s.launches, s.launch? m.1 = some m.2 → m.2.holds = true → alone s m.1 →
      (hit m.1 m.2 → ∃ w ∈ s'.rel.wishes, w.launch = m.1 ∧ w.reason = reason) ∧
      (¬ hit m.1 m.2 → ∀ w ∈ s'.rel.wishes, w.launch ≠ m.1)

/-- A die has failed: no longer ready, REPLACE set with reason 3 unless it was set before, every tile of it has stopped, and
each launch that has a tile there is to be fenced (R485, R507, R535). -/
def dieFailed (s s' : State) (d : Nat) : Prop :=
  oneMore s.bu.failed s'.bu.failed d ∧ oneLess s.bu.ready s'.bu.ready d ∧ s'.rel.replace = true ∧
    s'.rel.reason = (if s.rel.replace then s.rel.reason else 3) ∧
    (∀ n < 10240, let t' := s'.tile (dieTile d n)
      t'.dead = true ∧ (∀ i < 13, (t'.sock i).fly = []) ∧ t'.x = (s.tile (dieTile d n)).x) ∧
    fencesAsked s s' (fun id _ => ∃ n < 10240, (s.tile (dieTile d n)).launch = some id) 0x12

end Sys2Proof.Claims

/-- A module reset returns every part to its reset state, and nothing of the fuses; a check that passes makes its function
ready, one that fails makes it failed, and no check counts twice (R527 to R530). -/
def Sys2Proof.Claims.Bringup : Prop :=
  ∀ (s : State) (n : Nat),
    (∃ s', exec .moduleReset s = .next s' ∧ s'.tiles = [] ∧ s'.launches = [] ∧ s'.objects = [] ∧ s'.engines = [] ∧ s'.bank = [] ∧
      s'.csram = [] ∧ s'.rsram = [] ∧ (∀ d < 16, s'.hbmOf d = []) ∧ s'.bankOwner = [] ∧ s'.rings = [] ∧ s'.queues = [] ∧
      s'.feCtrl = 0 ∧ s'.rel = {} ∧ s'.xl = {} ∧ s'.br = {} ∧
      s'.fw = { State.reset.fw with arb := s.fw.arb, blocks := resetBlocks s.fw.arb } ∧ s'.bu = { ({} : Bu) with tickAt := s.clk } ∧ s'.host = s.host ∧
      s'.pod = s.pod) ∧
    (n < 26 → s.bu.ready.getLsbD n = false → s.bu.failed.getLsbD n = false → s.bu.heldInReset = false →
      (∃ s', exec (.bringupCheckDone n true) s = .next s' ∧ oneMore s.bu.ready s'.bu.ready n ∧
        s' = withBu s fun b => { b with ready := s'.bu.ready }) ∧
      (∃ s', exec (.bringupCheckDone n false) s = .next s' ∧ oneMore s.bu.failed s'.bu.failed n ∧
        oneLess s.bu.ready s'.bu.ready n ∧ s'.tiles = s.tiles ∧ s'.rel.replace = (s.rel.replace || decide (n < 24)))) ∧
    (s.bu.ready.getLsbD 26 = false → s.bu.failed.getLsbD 26 = false → s.bu.heldInReset = false →
      (∃ s', exec (.bringupCheckDone 26 false) s = .next s' ∧ s'.fw.recovery = true ∧ oneMore s.bu.failed s'.bu.failed 26 ∧
        s'.tiles = s.tiles ∧ s'.bu.ready = s.bu.ready) ∧
      (∀ r, s.imageCheck Config.flashImage = some r → ∃ s', exec (.bringupCheckDone 26 true) s = .next s' ∧
        s'.fw.recovery = true ∧ s'.fw.sbReason = r ∧ oneMore s.bu.failed s'.bu.failed 26 ∧ s'.tiles = s.tiles) ∧
      (s.imageCheck Config.flashImage = none → ∃ s', exec (.bringupCheckDone 26 true) s = .next s' ∧
        oneMore s.bu.ready s'.bu.ready 26 ∧ s'.tiles = (s.loadImage 0 Config.flashImage).tiles ∧ s'.fw.recovery = s.fw.recovery)) ∧
    (26 < n ∨ s.bu.ready.getLsbD n = true ∨ s.bu.failed.getLsbD n = true ∨ s.bu.heldInReset = true →
      ∀ pass, exec (.bringupCheckDone n pass) s = .next s)

/-- The Dial: one tick each 33 × 10^9 phase units, when the rate last written takes effect; an edge captures it as this
cycle reads it; a rate
outside ±500,000 and a step with bit 63 set are ignored; a crossing of a multiple of 10^9 raises PPS_OUT (R536 to R538). -/
def Sys2Proof.Claims.Dial : Prop :=
  ∀ (s : State) (v : Word) (n : DWord),
    let b := s.bu
    (33 * 10 ^ 9 ≤ b.dialAcc → exec .dialTick s = .next (withBu s fun b =>
      { b with dial := b.dial + 1, dialAcc := b.dialAcc - 33 * 10 ^ 9, tickAt := s.clk, rate := b.adj
               ppsOut := b.ppsOut + ppsRises b.dial (b.dial + 1) })) ∧
    (b.dialAcc < 33 * 10 ^ 9 → exec .dialTick s = .next s) ∧
    exec .ppsInEdge s = .next (withBu s fun b => { b with cap := s.dialNow }) ∧
    (-500000 ≤ v.toInt ∧ v.toInt ≤ 500000 → exec (.dialAdjWrite v) s = .next (withBu s fun b => { b with adj := v })) ∧
    (v.toInt < -500000 ∨ 500000 < v.toInt → exec (.dialAdjWrite v) s = .next s) ∧
    (n.getLsbD 63 = false → exec (.dialStep n) s = .next (withBu s fun b =>
      { b with dial := b.dial + n, dialWas := some s.dialNow, tickAt := if n = 0 then b.tickAt else s.clk
               ppsOut := b.ppsOut + ppsRises b.dial (b.dial + n) })) ∧
    (n.getLsbD 63 = true → exec (.dialStep n) s = .next s)

/-- A compute die whose PLL loses lock, or that reaches 115 °C, fails; the crown's PLL holds the module in reset. At TTRIP a
die's launches are fenced and vector 1 is raised, once until the temperature falls below TTRIP − 10 °C (R535, R541). -/
def Sys2Proof.Claims.Temperatures : Prop :=
  ∀ (s : State) (d : Nat) (v : Byte),
    let heat (s : State) : State := withBu s fun b => { b with temps := vset b.temps d v }
    let cold : Prop := 16 ≤ d ∨ v.toNat < 115 ∨ d ∈ s.bu.unpowered
    let calm : Prop := 16 ≤ d ∨ v.toNat < s.bu.ttrip.toNat ∨ d ∈ s.bu.tripped
    let quiet : Prop := s.rel.evEn = false ∧ (s.launches.map Prod.fst).Pairwise (· < ·)
    let down (s : State) : State := (withBu ((dieTiles d).foldl (fun s k => s.parityError k) s) fun b =>
      { b with failed := b.failed ||| (1 : Word) <<< d, ready := b.ready &&& ~~~((1 : Word) <<< d) }).setReplace 3
    (d < 16 → exec (.pllLockLoss d) s = .next (down s) ∧ (quiet → dieFailed s (down s) d)) ∧
    (16 ≤ d → ∃ s', exec (.pllLockLoss d) s = .next s' ∧ s'.bu.heldInReset = true ∧ s'.tiles = [] ∧ s'.launches = [] ∧
      (s.agenda = [] → step s' = .fault .heldInReset)) ∧
    (¬ calm → ∃ s', exec (.thermalTrip d v) s = .next s' ∧
      s' = (s.launches.filter fun m => m.2.holds && m.2.allTiles.any fun k => decide (tileDie k = d)).foldl
        (fun s m => s.wish m.1 0x14 { status := 0x14 })
        (withBu (heat s) fun b => { b with msix1 := b.msix1 + 1, tripped := insertNat d b.tripped }) ∧
      (∀ i, i ∈ insertNat d s.bu.tripped ↔ i = d ∨ i ∈ s.bu.tripped) ∧
      (quiet → s'.bu.msix1 = s.bu.msix1 + 1 ∧ s'.tiles = s.tiles ∧ fencesAsked s s' (fun _ l => onDie l d) 0x14)) ∧
    (calm → exec (.thermalTrip d v) s = .next (heat s)) ∧
    (v.toNat + 10 < s.bu.ttrip.toNat → exec (.thermalTripClear d v) s =
      .next (withBu (heat s) fun b => { b with tripped := b.tripped.filter (· ≠ d) })) ∧
    (s.bu.ttrip.toNat ≤ v.toNat + 10 → exec (.thermalTripClear d v) s = .next (heat s)) ∧
    (let s1 := withBu (heat s) fun b => { b with unpowered := insertNat d b.unpowered }
     ¬ cold → d ∈ s1.bu.unpowered ∧
      exec (.overtempPowerOff d v) s = .next (down s1) ∧ (quiet → dieFailed s (down s1) d)) ∧
    (cold → exec (.overtempPowerOff d v) s = .next (heat s))

/-- Bring-up, the Dial and power. -/
def Obligations.PackageEvents : Prop := Claims.Bringup ∧ Claims.Dial ∧ Claims.Temperatures

namespace Sys2Proof.Claims

open Machine

/-- The state with only the bridge changed. -/
def withBr (s : State) (f : Bridge → Bridge) : State := { s with br := f s.br }

/-- A flit sent on a port (R455, R460). -/
def sentOn (s : State) (f : Flit) : State := withBr s fun b => { b with sent := b.sent ++ [f] }

/-- A NACK to a device on a port (R460). -/
def nacked (s : State) (p dev : Nat) : State := sentOn s { port := p, dev, reply := some 0xFF }

/-- Port p. -/
def portOf (s : State) (p : Nat) : UalPort := vget {} s.br.ports p

/-- Port p replaced. -/
def setPort (s : State) (p : Nat) (q : UalPort) : State := withBr s fun b => { b with ports := vset b.ports p q }

/-- The tag of a request verifies under the key that its issuer and phase bit select (R460, R461). -/
def tagOk (s : State) (r : UalReq) : Prop :=
  ∃ k ∈ s.br.key r.issuer, ∃ key ∈ k.forPhase s.clk r.phase,
    kmac key (r.header ++ toBytes 2 r.issuer.toNat ++ toBytes 2 r.target.toNat ++ r.payload) = r.tag

/-- The access has an answer. -/
def answers : AccOut → Bool
  | .done _ _ => true
  | _ => false

/-- Window w. -/
def win (s : State) (w : Nat) : Window := tabGet {} s.br.windows w

/-- Window w replaced. -/
def setWin (s : State) (w : Nat) (x : Window) : State := withBr s fun b => { b with windows := tabSet b.windows w x }

/-- Command page of an owner. -/
def cmdPage (s : State) (o : Nat) : CmdPage := tabGet {} s.br.pages o

/-- The page of an owner has ended its command with a window and a code (Table 19-3). -/
def pageEnded (s : State) (o w code : Nat) : Prop :=
  (cmdPage s o).busy = false ∧ (cmdPage s o).status.toNat = 2 ^ 31 + w * 2 ^ 16 + code

/-- Bytes that an HDM decoder maps (Table 19-6). -/
def hdmBytes (h : Hdm) : Nat := h.size.toNat * 2 ^ 28

/-- The collective of a rank's submission: the group's next one, accepted (R468, R469). -/
def nextSub (s : State) (q r : Nat) : Option Submission :=
  (s.br.subs.filter fun b => decide (b.group = q) && b.accepted && decide (b.seqNo = (tabGet {} s.br.groups q : Group).next)).find?
    fun b => decide (b.rank = r)

/-- The group's home is this device (R467). -/
def homeHere (s : State) (q : Nat) : Prop := s.groupHome (tabGet {} s.br.groups q) = s.br.id.toNat

/-- The ranks whose submissions this device waits for: all at the group's home, its own elsewhere (R467, R469). -/
def here (s : State) (q : Nat) : List Nat :=
  let g : Group := tabGet {} s.br.groups q
  let all := upTo g.ranks
  if s.groupHome g = s.br.id.toNat then all else all.filter fun r => decide ((s.member g r).1 = s.br.id.toNat)

/-- Those submissions, by rank. -/
def ready (s : State) (q : Nat) : List Submission := (here s q).filterMap (nextSub s q)

/-- The submissions of a group's next collective are gone (R468). -/
def dropped (s s' : State) (q : Nat) : Prop :=
  s'.br.subs = s.br.subs.filter fun b =>
    !(decide (b.group = q) && b.accepted && decide (b.seqNo = (tabGet {} s.br.groups q : Group).next))

/-- Group q. -/
def grp (s : State) (q : Nat) : Group := tabGet {} s.br.groups q

end Sys2Proof.Claims

/-- Keys and UALink: a phase expires; a request is dropped with a NACK when its tag fails; for another device it is forwarded as
it came, or refused; it is answered NO_TARGET outside the paged region or in a shape R455 does not name, and otherwise it is
performed and answered with its bytes, or held with its order kept; an answer leaves under its issuer owner's key in force; a
port's training and failure; the clears (R412, R455 to R461, R502, R529, Table 19-6). -/
def Sys2Proof.Claims.LinksAndKeys : Prop :=
  ∀ (s : State) (p : Nat) (r : UalReq) (o : BitVec 16),
    let up (i : Nat) : Prop := (portOf s i).state = 2
    let other : Prop := r.dev ≠ s.br.id
    exec (.keyPhaseExpiry o) s = .next (withBr s fun b => { b with keys := b.keys.map fun k =>
      if k.owner = o ∧ (∃ q ∈ k.prev, q.2 ≤ s.clk) then { k with prev := none } else k }) ∧
    (s.br.lock = false ∨ ¬ up p → exec (.ualinkRequestIn p r) s = .next s) ∧
    (∀ k, s.br.key r.issuer = some k → ∀ st d, s.ualReply p r st d = sentOn s
      { port := p, dev := r.src, reply := some st, issuer := r.issuer, target := r.target, phase := k.phase, payload := d,
        header := Config.ualReplyHeader r.src r.seq.toNat st,
        tag := kmac k.key (Config.ualReplyHeader r.src r.seq.toNat st ++ toBytes 2 r.issuer.toNat ++ toBytes 2 r.target.toNat ++ d) }) ∧
    (s.br.lock = true → up p →
      (¬ tagOk s r → exec (.ualinkRequestIn p r) s = .next (nacked s p r.src)) ∧
      (tagOk s r → other → s.br.fwd = true → r.outPort ≠ p → (tabGet 0 s.br.routes r.dev.toNat).getLsbD r.outPort = true →
        up r.outPort → exec (.ualinkRequestIn p r) s = .next (sentOn s
          { port := r.outPort, dev := r.dev.toNat, issuer := r.issuer, target := r.target, phase := r.phase, tag := r.tag,
            header := r.header, payload := r.payload })) ∧
      (tagOk s r → other → s.br.fwd = false ∨ r.outPort = p ∨ ¬ up r.outPort →
        exec (.ualinkRequestIn p r) s = .next (s.ualReply p r stLinkFail [])) ∧
      (tagOk s r → ¬ other → region r.addr.toNat ≠ .paged ∨ ualOk r = false →
        exec (.ualinkRequestIn p r) s = .next (s.ualReply p r stNoTarget [])) ∧
      (tagOk s r → ¬ other → region r.addr.toNat = .paged → ualOk r = true →
        let held (s : State) : State := withBr s fun b => { b with ualHeld := b.ualHeld ++ [(p, r)] }
        ((∃ h ∈ s.br.ualHeld, h.2.src = r.src) → exec (.ualinkRequestIn p r) s = .next (held s)) ∧
        ((∀ h ∈ s.br.ualHeld, h.2.src ≠ r.src) →
          (∀ d s2, s.accessSpan (ualAccess r) 5 = (.ok d, s2) →
            exec (.ualinkRequestIn p r) s = .next (s2.ualReply p r stOK (d.map Prod.fst))) ∧
          (∀ st s2, s.accessSpan (ualAccess r) 5 = (.error (some st), s2) →
            exec (.ualinkRequestIn p r) s = .next (s2.ualReply p r st [])) ∧
          (∀ s2, s.accessSpan (ualAccess r) 5 = (.error none, s2) →
            exec (.ualinkRequestIn p r) s = .next (held (s.keepHolds s2)))))) ∧
    (∀ b, (portOf s p).state = 1 → s.bu.ready.getLsbD 24 = true → exec (.ualinkPortTrainingDone p b) s =
      .next (setPort s p { portOf s p with state := if b = true then 2 else 3 })) ∧
    (∀ b, (portOf s p).state ≠ 1 ∨ s.bu.ready.getLsbD 24 = false → exec (.ualinkPortTrainingDone p b) s = .next s) ∧
    (up p → exec (.ualinkPortFailure p) s = .next (setPort s p { portOf s p with state := 3 })) ∧
    (¬ up p → exec (.ualinkPortFailure p) s = .next s) ∧
    exec (.brPortRetryClear p) s = .next (setPort s p { portOf s p with retries := 0 }) ∧
    exec .grperrClear s = .next (withBr s fun b => { b with grperr := 0 })

/-- Exported windows: activation, the start of a revocation, its application at each of the eighteen homes, its completion
once all have applied it, which ends the REVOKE that asked for it, and the freeing; the commands of an owner's page (R462 to
R465, Table 19-3). -/
def Sys2Proof.Claims.ExportedWindows : Prop :=
  ∀ (s : State) (w : Nat) (o : BitVec 16),
    let x := win s w
    let p := cmdPage s o.toNat
    let mine (cmd : Nat) : Prop := s.serves = true ∧ p.busy = true ∧ p.revoking = none ∧ p.cmd.toNat % 2 ^ 8 = cmd ∧
      ∀ q ∈ s.br.pages, q.2.busy = true → q.2.revoking = none → p.order ≤ q.2.order
    exec (.windowActivate w) s = .next (if x.state = 0 then setWin s w { x with state := 1 } else s) ∧
    exec (.windowRevokeStart w) s = .next (if x.state = 1 then setWin s w { x with state := 2, applied := [] } else s) ∧
    (∀ h, (x.state = 2 → h < 18 → ∃ l, exec (.revocationApply w h) s = .next (setWin s w { x with applied := l }) ∧
        ∀ i, i ∈ l ↔ i = h ∨ i ∈ x.applied) ∧
      (x.state ≠ 2 ∨ 18 ≤ h → exec (.revocationApply w h) s = .next s)) ∧
    (x.state = 2 → (∀ h < 18, h ∈ x.applied) → ∃ s', exec (.revocationComplete w) s = .next s' ∧
      win s' w = { x with state := 3 } ∧ (∀ v, v ≠ w → win s' v = win s v) ∧
      (p.busy = true → p.revoking = some w → w < 4096 → pageEnded s' o.toNat w 0)) ∧
    (x.state ≠ 2 ∨ (∃ h < 18, h ∉ x.applied) → exec (.revocationComplete w) s = .next s) ∧
    exec (.windowFree w) s = .next (if x.state = 3 then setWin s w { x with state := 0 } else s) ∧
    (mine 1 →
      let g := p.gbase.toNat
      let n := p.len.toNat
      let range : Prop := n ≠ 0 ∧ n < 2 ^ 48 ∧ n % 2 ^ 16 = 0 ∧ g % 2 ^ 16 = 0 ∧ g + n ≤ lsWinBase
      let mapped : Prop := s.allMapped o.toNat g n = true
      (¬ range → ∃ s', exec (.windowExportCmd o) s = .next s' ∧ pageEnded s' o.toNat 0 1 ∧ s'.br.windows = s.br.windows) ∧
      (range → ¬ mapped → ∃ s', exec (.windowExportCmd o) s = .next s' ∧ pageEnded s' o.toNat 0 1 ∧ s'.br.windows = s.br.windows) ∧
      (range → mapped → w < 4096 → x.state = 0 → (∀ v < w, (win s v).state ≠ 0) → ∃ s', exec (.windowExportCmd o) s = .next s' ∧
        pageEnded s' o.toNat w 0 ∧ win s' w = { state := 1, perm := (p.arg.extractLsb' 16 3).setWidth 4, importer := p.arg.setWidth 16
                                                exporter := o, len := BitVec.ofNat 48 n, gbase := BitVec.ofNat 52 g } ∧
        ∀ v, v ≠ w → win s' v = win s v) ∧
      (range → mapped → (∀ v < 4096, (win s v).state ≠ 0) → ∃ s', exec (.windowExportCmd o) s = .next s' ∧
        pageEnded s' o.toNat 0 2 ∧ s'.br.windows = s.br.windows)) ∧
    (mine 2 → p.cmd.toNat / 2 ^ 16 % 2 ^ 12 = w →
      (x.exporter ≠ o ∨ x.state ≠ 1 → ∃ s', exec (.windowRevokeCmd o) s = .next s' ∧ pageEnded s' o.toNat w 1 ∧ win s' w = x) ∧
      (x.exporter = o → x.state = 1 → ∃ s', exec (.windowRevokeCmd o) s = .next s' ∧
        win s' w = { x with state := 2, applied := [] } ∧ cmdPage s' o.toNat = { p with revoking := some w }))

/-- The host's memory: a decoder that overlaps or leaves the paged region stays disabled; an access outside every enabled
decoder does nothing; one inside performs at its home, waits while it is held or behind another to its line, and one that fails returns poison to a read and
raises an error event; a line that the host gives up may be written again (R412, R475, R476, Table 19-6). -/
def Sys2Proof.Claims.HostMemory : Prop :=
  ∀ (s : State) (k hpa line : Nat) (v : Word) (ext : ExtReply),
    let h : Hdm := vget {} s.br.hdm k
    let h1 : Hdm := { h with size := v.extractLsb' 16 15, owner := v.setWidth 16, en := false }
    let bad : Prop := (∃ j < 8, j ≠ k ∧ (vget {} s.br.hdm j : Hdm).en = true ∧
        h1.hbase.toNat < (vget {} s.br.hdm j : Hdm).hbase.toNat + hdmBytes (vget {} s.br.hdm j) ∧
        (vget {} s.br.hdm j : Hdm).hbase.toNat < h1.hbase.toNat + hdmBytes h1) ∨
      lsWinBase < h1.gbase.toNat + hdmBytes h1 ∨ h1.size = 0 ∨ 2048 < h1.size.toNat
    let a := h.gbase.toNat + (hpa - h.hbase.toNat)
    let inside : Prop := h.en = true ∧ h.hbase.toNat ≤ hpa ∧ hpa < h.hbase.toNat + hdmBytes h ∧ hpa % 64 = 0
    let acc (op : AccOp) : AccOut × State := s.access { addr := a, n := 64, op, issuer := h.owner, target := h.owner, crown := true
                                                        agent := .host, src := k, req := hpa / 64, ext }
    let free : Prop := ∀ g ∈ s.br.hostHeld, g.2.1 ≠ hpa
    let held (s : State) (wr : Option (List Byte)) : State := withBr s fun b => { b with hostHeld := b.hostHeld ++ [(k, hpa, wr, ext)] }
    (bad → exec (.hdmCtlWrite k v) s = .next (withBr s fun b => { b with hdm := vset b.hdm k h1 })) ∧
    (¬ bad → exec (.hdmCtlWrite k v) s = .next (withBr s fun b => { b with hdm := vset b.hdm k { h1 with en := v.getLsbD 31 } })) ∧
    (¬ inside → ∀ wr, exec (.hostCxlMemAccess k hpa wr ext) s = .next s) ∧
    (inside → ¬ free → ∀ wr, exec (.hostCxlMemAccess k hpa wr ext) s = .next (held s wr)) ∧
    (inside → free → ∀ o s2, answers o = false →
      (acc .read = (o, s2) → exec (.hostCxlMemAccess k hpa none ext) s = .next (held s2 none)) ∧
      ∀ bs, acc (.write (clean (bs.take 64))) = (o, s2) →
        exec (.hostCxlMemAccess k hpa (some bs) ext) s = .next (held s2 (some bs))) ∧
    (inside → free → ∀ bs d s2, acc (.write (clean (bs.take 64))) = (.done stOK d, s2) →
      exec (.hostCxlMemAccess k hpa (some bs) ext) s = .next (s2.hostAnswer hpa d)) ∧
    (inside → free → ∀ d s2, acc .read = (.done stOK d, s2) → ∃ s', exec (.hostCxlMemAccess k hpa none ext) s = .next s' ∧
      s'.hbm = s2.hbm ∧ s'.br.hostAnswers = s2.br.hostAnswers ++ [{ hpa, data := d }] ∧
      ∀ die off p, s2.lookupPage a h.owner.toNat = .entry die off p →
        ((p.kind = 0 → ∀ i, i ∈ s'.br.snoopLines ↔ i = p.home * 2 ^ 29 + (p.frame * 2 ^ 16 + a % p.size) / 64 ∨ i ∈ s2.br.snoopLines) ∧
          (p.kind ≠ 0 → s' = s2.hostAnswer hpa d))) ∧
    (inside → free → ∀ st d s2, st ≠ stOK →
      (acc .read = (.done st d, s2) → exec (.hostCxlMemAccess k hpa none ext) s =
        .next ((s2.raiseEvent 26 2 noId noId (a % 2 ^ 32)).hostAnswer hpa (List.replicate 64 (0, true)))) ∧
      ∀ bs, acc (.write (clean (bs.take 64))) = (.done st d, s2) → exec (.hostCxlMemAccess k hpa (some bs) ext) s =
        .next ((s2.raiseEvent 26 2 noId noId (a % 2 ^ 32)).hostAnswer hpa [])) ∧
    exec (.hostSnoopResponse line) s = .next (withBr s fun b => { b with
      snoopLines := b.snoopLines.filter (fun i => decide (i ≠ line)), snoopWait := b.snoopWait.filter fun i => decide (i ≠ line) })

/-- Collectives: a group is written disabled, refused with its error, or enabled with every rank expecting 0; an arrived
submission is accepted at its rank's expectation, and told to the group's home, is held up to fifteen ahead of it, or faults with
NO_TARGET; when every rank's has been accepted the collective begins at the home with the result of its sources, and at another
device sends its sources to the home; it faults when they disagree, CRN_BR_GRPERR naming the lowest rank that does, or cannot be
read; a chunk lands at its rank's destination and counts, or leaves for the rank's device, and the last one ends it (R467 to R472,
Table 19-6). That a reduce-scatter's LEN names rank 0 is the model's choice (log 61). -/
def Sys2Proof.Claims.Collectives : Prop :=
  ∀ (s : State) (q : Nat), q < 4096 →
    let g := grp s q
    (∀ v : BitVec 128,
      let rm1 := v.toNat / 2 ^ 16 % 2 ^ 10
      let ml := v.toNat / 2 ^ 32 % 2 ^ 20
      let off : Group := { rm1 := BitVec.ofNat 10 rm1, owner := BitVec.ofNat 16 v.toNat, mlist := BitVec.ofNat 20 ml }
      let put (g : Group) (b : Bridge) : Bridge := { b with groups := tabSet b.groups q g }
      (v.getLsbD 31 = false → exec (.brGroupWrite q v) s = .next (withBr s (put off))) ∧
      (v.getLsbD 31 = true → rm1 = 0 ∨ 2 ^ 24 < ml * 16 + 16 * (rm1 + 1) → exec (.brGroupWrite q v) s =
        .next (withBr s fun b => { put off b with grperr := BitVec.ofNat 64 (2 ^ 63 + q * 2 ^ 48) })) ∧
      (v.getLsbD 31 = true → rm1 ≠ 0 → ml * 16 + 16 * (rm1 + 1) ≤ 2 ^ 24 → exec (.brGroupWrite q v) s =
        .next (withBr s (put { off with en := true, exps := List.replicate (rm1 + 1) 0 })))) ∧
    (s.br.cen = false → exec (.collBegin q) s = .next s) ∧
    (s.br.cen = true → g.stopped = none →
      ∀ b ∈ s.br.subs, b.group = q → b.accepted = false → b.held = false → b.dev = none → b.arriveAt ≤ s.clk → s.br.subs.Nodup →
      (∀ c ∈ s.br.subs, c.group = q → c = b ∨ c.accepted = true ∨ s.clk < c.arriveAt) →
      (∀ e ∈ (s.tile b.tile).egress, b.msg < e.k) → (s.tile b.tile).anyOpen b.after = false → twoTiles s b.tile →
      (∃ r ∈ here s q, r ≠ b.rank ∧ nextSub s q r = none) → ∀ l, (s.tile b.tile).launch.bind s.launch? = some l →
      let others := s.br.subs.filter fun c => decide (c ≠ b)
      let valid : Prop := g.en = true ∧ b.rank < g.ranks ∧ l.owner = g.owner ∧
        s.member g b.rank = (s.br.id.toNat, l.handle, (s.tile b.tile).tlin)
      let ahead := (b.seqNo + 2 ^ 32 - nth 0 g.exps b.rank) % 2 ^ 32
      (¬ valid ∨ 15 < ahead → b.cc < 16 → ∃ s', exec (.collBegin q) s = .next s' ∧ s'.br.subs = others ∧
        ctr (s'.tile b.tile) b.cc = faulted (ctr (s.tile b.tile) b.cc) ∧ (s'.tile b.tile).lstat = stNoTarget) ∧
      (valid → 0 < ahead → ahead ≤ 15 → ∃ s', exec (.collBegin q) s = .next s' ∧
        s'.br.subs = (s.br.subs.map fun c => if c = b then { c with held := true } else c) ∧ s'.tiles = s.tiles) ∧
      (valid → ahead = 0 → ∃ s', exec (.collBegin q) s = .next s' ∧ s'.br.subs = others ++ [{ b with accepted := true }] ∧
        (grp s' q).exps = g.exps.modify b.rank (fun e => (e + 1) % 2 ^ 32) ∧ s'.br.colls = s.br.colls ∧
        (homeHere s q → s'.br.collOut = s.br.collOut) ∧
        (¬ homeHere s q → s'.br.collOut = s.br.collOut ++
          [(s.groupHome g, q, .submit b.rank b.seqNo b.kind b.rop b.len)]))) ∧
    (s.br.cen = true → g.en = true → (∀ c ∈ s.br.colls, c.group ≠ q) → (ready s q).length = (here s q).length →
      (∀ b ∈ s.br.subs, b.group = q → b.accepted = true ∨ s.clk < b.arriveAt) →
      let rs := ready s q
      ∀ b0, rs.head? = some b0 →
      let agree (b : Submission) : Prop := (b.kind, b.rop, b.len) = (b0.kind, b0.rop, b0.len)
      let fits : Prop := b0.kind = 1 → b0.len % (64 * g.ranks) = 0
      let next : Nat := (g.next + 1) % 2 ^ 32
      let begun (s2 : State) (r : List (Byte × Bool)) : State := withBr s2 fun x => { x with
        groups := tabSet x.groups q { tabGet {} x.groups q with next }
        colls := x.colls ++ [⟨q, g.next, b0.kind, r, [], []⟩] }
      let wrong (r : Nat) : Prop := ∃ s', exec (.collBegin q) s = .next s' ∧
        s' = ((s.collFail q g.next stNoTarget).groupError q r g.next).collNext q ∧ dropped s s' q ∧ s'.br.colls = s.br.colls ∧
        (grp s' q).next = next ∧ s'.br.grperr = BitVec.ofNat 64 (2 ^ 63 + q * 2 ^ 48 + r * 2 ^ 32 + g.next)
      (∀ b ∈ rs, homeHere s q → ¬ agree b → (∀ c ∈ rs, c.rank < b.rank → agree c) → wrong b.rank) ∧
      ((∀ b ∈ rs, agree b) → homeHere s q → ¬ fits → wrong 0) ∧
      (((∀ b ∈ rs, agree b) ∧ fits) ∨ ¬ homeHere s q →
        (∀ d s2, s.readSources rs = (.ok d, s2) →
          (homeHere s q → s2.br = s.br → exec (.collBegin q) s = .next (begun s2 (collResult b0.kind b0.rop d))) ∧
          (¬ homeHere s q → ∀ s3, s3 = (rs.zip d).foldl (fun s b => s.contribute (s.groupHome g) q b.1 b.2) s2 →
            exec (.collBegin q) s = .next (s3.collStart q b0.kind g.next []))) ∧
        (∀ st s2, s.readSources rs = (.error (some st), s2) →
          exec (.collBegin q) s = .next ((s2.collFail q g.next st).collNext q)) ∧
        (∀ s2, s.readSources rs = (.error none, s2) → exec (.collBegin q) s = .next (s.keepHolds s2)))) ∧
    (∀ (ext : ExtReply) (i r : Nat), ∀ c, (s.br.colls.find? fun c => decide (c.group = q)) = some c →
      ∀ b, (s.br.subs.find? fun b => decide (b.group = q) && decide (b.rank = r) && b.accepted && decide (b.seqNo = c.seqNo)) = some b →
      let sl := collSlice c.kind b.len g.ranks r
      let tgt := b.dst.addr.toNat + 64 * i
      let mine (x : Submission) : Bool := decide (x.group = q) && x.accepted && decide (x.seqNo = c.seqNo)
      let now := (r, i) :: c.landed
      let all : Prop := ∀ x ∈ s.br.subs, mine x = true → ∀ k < (collSlice c.kind x.len g.ranks x.rank).2 / 64, (x.rank, k) ∈ now
      (64 * i < sl.2 → (r, i) ∉ c.landed → ∀ bytes, s.chunkBytes c b g i ext = some bytes →
        (homeHere s q → bytes = (c.result.drop (sl.1 + 64 * i)).take 64) ∧
        (∀ d, b.dev = some d → exec (.collChunkLand q r i ext) s =
          .next ((s.collSend d q (.result r c.seqNo i bytes)).chunkLanded q c r i)) ∧
        (b.dev = none →
          let put := s.accessSpan (b.access b.dst b.dissuer (64 * i) 64 (.write bytes) ext) 2
          (∀ d s2, put = (.ok d, s2) → exec (.collChunkLand q r i ext) s = .next ((s2.countAt b.tile b.cc 64).chunkLanded q c r i)) ∧
          (∀ st s2, put = (.error (some st), s2) → exec (.collChunkLand q r i ext) s = .next (s2.collFail q c.seqNo st)) ∧
          (∀ s2, put = (.error none, s2) → exec (.collChunkLand q r i ext) s = .next (s.keepHolds s2)) ∧
          (b.dst.owner = b.dissuer → openBank s b.dissuer tgt 64 → b.cc < 16 → bytes.length = 64 → twoTiles s b.tile →
            ∃ s', exec (.collChunkLand q r i ext) s = .next s' ∧ bankBytes s' (tgt - bankBase) 64 = bytes.map Prod.fst ∧
            ctr (s'.tile b.tile) b.cc = landed (ctr (s.tile b.tile) b.cc) 64 ∧
            (¬ all → s'.br.colls = (s.br.colls.map fun x => if x.group = q then { c with landed := now } else x) ∧ s'.br.subs = s.br.subs) ∧
            (all → s'.br.colls = (s.br.colls.filter fun x => decide (x.group ≠ q)) ∧
              s'.br.subs = (s.br.subs.filter fun x => !mine x) ∧
              ((∀ x ∈ s.br.subs, mine x = true → x.tile = b.tile → x = b) → s.br.subs.Nodup →
                (s'.tile b.tile).colls = (s.tile b.tile).colls - 1))))) ∧
      (sl.2 ≤ 64 * i ∨ (r, i) ∈ c.landed → exec (.collChunkLand q r i ext) s = .next s))

/-- The bridge: links and keys, exported windows, the host's memory, collectives. -/
def Obligations.BridgeAndHost : Prop :=
  Claims.LinksAndKeys ∧ Claims.ExportedWindows ∧ Claims.HostMemory ∧ Claims.Collectives

namespace Sys2Proof.Claims

open Machine

/-- Fence unit f. -/
def fenceOf (s : State) (f : Nat) : Fence := vget {} s.rel.fences f

/-- The rectangle of a fence register: x0, y0, width, height (Table 20-7). -/
def boxOf (r : DWord) : Nat × Nat × Nat × Nat :=
  (r.toNat % 2 ^ 9, r.toNat / 2 ^ 16 % 2 ^ 9, r.toNat / 2 ^ 32 % 2 ^ 10, r.toNat / 2 ^ 48 % 2 ^ 9)

/-- The rectangle is empty or leaves the grid. -/
def boxBad (b : Nat × Nat × Nat × Nat) : Prop := b.2.2.1 = 0 ∨ b.2.2.2 = 0 ∨ 512 < b.1 + b.2.2.1 ∨ 320 < b.2.1 + b.2.2.2

/-- A far access has left its tile: sent before this cycle, with nothing before it still to perform and, in a DUAL launch, its
message compared; it travels, or waits at its home (R378, R491, R499). -/
def hasLeft (s : State) (dual : Bool) (t : Tile) (r : FarReq) : Bool :=
  decide (r.issuedAt < s.clk) && (decide (r.phase = .sent) || decide (r.phase = .waiting)) && !t.anyOpen r.after &&
    !(dual && !t.compared r.msg)

/-- A tile at its fence point: nothing of it goes on, and a request that had not left is never applied (R498, R499). -/
def stoppedAt (s : State) (dual : Bool) (t t' : Tile) : Prop :=
  t'.fenced = true ∧ t'.copies = [] ∧ t'.dmas = [] ∧ t'.spawns = [] ∧ t'.spawnIn = none ∧ t'.egress = [] ∧
    t'.far = t.far.filter (hasLeft s dual t) ∧ t'.x = t.x ∧ t'.ls = t.ls

/-- A tile that a fence does not touch. -/
def untouched (t t' : Tile) : Prop := t'.fenced = t.fenced ∧ t'.far = t.far ∧ t'.x = t.x ∧ t'.ls = t.ls ∧ t'.run = t.run

/-- Nothing of the launch is left in any layout engine (R337). -/
def noLayout (s' : State) (id : Nat) : Prop :=
  ∀ e ∈ s'.engines, (∀ c ∈ e.2.cmds, c.launch ≠ some id) ∧ ∀ c ∈ e.2.dualQ, c.launch ≠ some id

/-- The launches that hold all their tiles inside a list of tiles. -/
def inside (s : State) (tiles : List Nat) : List (Nat × Launch) :=
  s.launches.filter fun m => m.2.holds && m.2.allTiles.all fun k => tiles.contains k

/-- The tables of launches and of tiles as they are kept, and each launch holds tiles of its own (R49). -/
def keptTables (s : State) : Prop :=
  (s.launches.map Prod.fst).Pairwise (· < ·) ∧ (∀ m ∈ s.launches, m.1 = m.2.id ∧ (m.2.holds = true → m.2.allTiles ≠ [])) ∧
    ((s.launches.filter fun m => m.2.holds).flatMap fun m => m.2.allTiles).Nodup

/-- A tile after the reset of R500: every register, latch and counter zero, the local store zero below the supervisor region, no
tile register configured, nothing of its requests left. -/
def wiped (t : Tile) : Prop :=
  (∀ i < 64, t.getX i = 0) ∧ (∀ i < 32, t.getV i = 0) ∧ t.g = 0 ∧ (∀ i < 13, ∀ p < 4, t.latch i p = 0) ∧
    (∀ i < 13, t.sock i = {}) ∧ (∀ i < 16, ctr t i = {}) ∧ t.depth = 0 ∧ t.mxown = 0 ∧ (∀ i < 4, vget 0 t.mshape i = 0) ∧
    t.bal = {} ∧ t.far = [] ∧ ∀ a < supBase, t.ls.get a = 0

/-- The unit stands in progress for some launches. -/
def inProgress (s' : State) (f : Nat) (ids : List Nat) (reason : Byte) : Prop :=
  (fenceOf s' f).busy = true ∧ (fenceOf s' f).err = false ∧ (fenceOf s' f).stage = 2 ∧ (fenceOf s' f).reason = reason ∧
    (fenceOf s' f).launches = ids

/-- Retirement marks of the map (R505, R506). -/
def retired (s : State) (k : Nat) : Prop := k ∈ s.rel.retired

end Sys2Proof.Claims

/-- A GO write: an empty or outlying rectangle, a REASON outside its range or part of a launch sets ERR; a unit in progress or
an overlapping one delays it; otherwise every tile of the launches inside stops at its fence point, and their layout commands are
cancelled. Once what had left the tiles has been performed the tiles are reset and the self-tests begin; once those have ended the
records are written and the rectangle is freed. An automatic fence takes the launch's rectangle (R337, R498 to R501, R571). -/
def Sys2Proof.Claims.Fences : Prop :=
  ∀ (s : State) (f id : Nat), f < 16 → keptTables s →
    let x := fenceOf s f
    let b := boxOf x.rect
    let tiles := rectTiles b.1 b.2.1 b.2.2.1 b.2.2.2
    let others : Prop := ∃ g < 16, g ≠ f ∧ (fenceOf s g).busy = true ∧ 2 ≤ (fenceOf s g).stage ∧
      boxesMeet (boxOf (fenceOf s g).rect) b = true
    let cut : Prop := ∃ m ∈ s.launches, m.2.holds = true ∧ (∃ k ∈ m.2.allTiles, k ∈ tiles) ∧ ∃ k ∈ m.2.allTiles, k ∉ tiles
    (∀ reason : Byte,
      let ok : Prop := ¬ boxBad b ∧ 0x10 ≤ reason.toNat ∧ reason.toNat ≤ 0x14
      (x.busy = true → exec (.fenceGo f reason) s = .next s) ∧
      (x.busy = false → ¬ ok ∨ cut → ∃ s', exec (.fenceGo f reason) s = .next s' ∧ (fenceOf s' f).err = true ∧
        (fenceOf s' f).busy = false ∧ s'.tiles = s.tiles) ∧
      (x.busy = false → ok → ¬ cut →
        (others → ∃ s', exec (.fenceGo f reason) s = .next s' ∧ (fenceOf s' f).busy = true ∧ (fenceOf s' f).stage = 1 ∧
          s'.tiles = s.tiles) ∧
        (¬ others → ∃ s', exec (.fenceGo f reason) s = .next s' ∧ inProgress s' f ((inside s tiles).map Prod.fst) reason ∧
          (∀ m ∈ inside s tiles, noLayout s' m.1 ∧ ∀ k ∈ m.2.allTiles, stoppedAt s m.2.dual (s.tile k) (s'.tile k)) ∧
          ∀ k, (∀ m ∈ inside s tiles, k ∉ m.2.allTiles) → untouched (s.tile k) (s'.tile k)))) ∧
    (let tested : Prop := ∀ k ∈ x.tests, k ∉ s.rel.testing
     let home : Prop := ∀ i ∈ x.launches, ∀ l, s.launch? i = some l → ∀ k ∈ l.tiles, ∀ r ∈ (s.tile k).far, r.phase ≠ .sent
     let closed (s' : State) : Prop := (fenceOf s' f).busy = false ∧ (fenceOf s' f).launches = [] ∧
       ∀ i ∈ x.launches, ∀ l, s.launch? i = some l → l.holds = true →
         endedWith s' i l x.info.status ∧ ∀ k ∈ l.allTiles, (s'.tile k).launch = none
     let clear : Prop := s.br.subs = [] ∧ ∀ g < 16, (fenceOf s g).stage ≠ 1
     (x.busy = true → x.stage = 2 → home →
        (x.tests = [] → exec (.fenceComplete f) s = .next ((s.fenceReset f).fenceEnd f) ∧
          (clear → closed ((s.fenceReset f).fenceEnd f) ∧
            ∀ i ∈ x.launches, ∀ l, s.launch? i = some l → l.holds = true → ∀ k ∈ l.allTiles,
              wiped (((s.fenceReset f).fenceEnd f).tile k))) ∧
        (x.tests ≠ [] → exec (.fenceComplete f) s = .next (s.fenceReset f)) ∧
        (fenceOf (s.fenceReset f) f).stage = 3 ∧ (s.fenceReset f).rel.testing = s.rel.testing ++ x.tests ∧
        (s.fenceReset f).launches = s.launches ∧
        ∀ i ∈ x.launches, ∀ l, s.launch? i = some l → l.holds = true → ∀ k ∈ l.allTiles, wiped ((s.fenceReset f).tile k)) ∧
     (x.busy = true → x.stage = 3 → tested → exec (.fenceComplete f) s = .next (s.fenceEnd f) ∧ (clear → closed (s.fenceEnd f))) ∧
     (x.busy = false ∨ x.stage < 2 ∨ (x.stage = 2 ∧ ¬ home) ∨ (x.stage = 3 ∧ ¬ tested) → exec (.fenceComplete f) s = .next s)) ∧
    (∀ l, s.launch? id = some l → x.busy = false → ∀ w, (s.rel.wishes.find? fun w => decide (w.launch = id)) = some w →
      let rest := s.rel.wishes.filter fun w => decide (w.launch ≠ id)
      (l.holds = true → ∃ s', exec (.autoFence id f) s = .next s' ∧ inProgress s' f [id] w.reason ∧ s'.rel.wishes = rest ∧
        (fenceOf s' f).rect = BitVec.ofNat 64 (l.ox + l.oy * 2 ^ 16 + l.w * 2 ^ 32 + l.h * 2 ^ 48) ∧
        (fenceOf s' f).info = w.info ∧ noLayout s' id ∧ ∀ k ∈ l.allTiles, stoppedAt s l.dual (s.tile k) (s'.tile k)) ∧
      (l.state = .queued ∨ l.state = .swapped → ∃ s', exec (.autoFence id f) s = .next s' ∧ s'.rel.wishes = rest ∧
        endedWith s' id l w.info.status)) ∧
    ((∀ w ∈ s.rel.wishes, w.launch ≠ id) → exec (.autoFence id f) s = .next s)

/-- Errors: an event takes its place in the host's ring with its source's sequence number; a parity error stops the tile,
discards what it has in flight and asks for a fence; a scrub read corrects, or tags a granule once; an edge goes down and the
launches across it are fenced; retries are reported; a self-test that fails and a map retire a tile, at once or when its launch
ends (R481 to R485, R497, R502 to R507). -/
def Sys2Proof.Claims.ErrorReports : Prop :=
  ∀ (s : State) (k a : Nat),
    let t := s.tile k
    let base := s.rel.evBase.toNat % 2 ^ 52 / 32 * 32
    let slot := base + s.rel.evSeq.toNat % 2 ^ s.rel.evLgn * 32
    let cons := s.rel.evCons.toNat % 2 ^ 52 / 4 * 4
    let ssn : Word := tabGet 0 s.rel.ssns 26
    let tag (o : Nat) : Bool := decide (o / 4 ∈ s.bankPoison)
    exec .cxlLinkFail s = .next (s.raiseEvent 26 4 noId noId 0) ∧
    (s.rel.owed = [] → s.rel.evEn = true → openBank s 0 slot 32 → openBank s 0 cons 4 →
      (s.rel.evSeq - BitVec.ofNat 32 (bankNum s cons 4)).toNat < 2 ^ s.rel.evLgn → ∃ s', exec .cxlLinkFail s = .next s' ∧
        bankNum s' slot 4 = s.rel.evSeq.toNat ∧ bankNum s' (slot + 4) 1 = 26 ∧ bankNum s' (slot + 5) 1 = 4 ∧
        bankNum s' (slot + 6) 2 = (if 26 ∈ s.rel.lostOf then 1 else 0) ∧ bankNum s' (slot + 8) 4 = ssn.toNat ∧
        bankNum s' (slot + 12) 8 = s.dialNow.toNat ∧ bankNum s' (slot + 20) 4 = 0xFFFFFFFF ∧
        bankNum s' (slot + 24) 4 = 0xFFFFFFFF ∧ bankNum s' (slot + 28) 4 = 0 ∧ s'.rel.evSeq = s.rel.evSeq + 1 ∧
        tabGet 0 s'.rel.ssns 26 = ssn + 1 ∧ s'.bu.msix0 = (if s.rel.msix0At ≤ s.clk then s.bu.msix0 + 1 else s.bu.msix0)) ∧
    (s.rel.owed = [] → s.rel.evEn = true → openBank s 0 cons 4 →
      2 ^ s.rel.evLgn ≤ (s.rel.evSeq - BitVec.ofNat 32 (bankNum s cons 4)).toNat → ∃ s', exec .cxlLinkFail s = .next s' ∧
        s'.bank = s.bank ∧ s'.rel.evLost = s.rel.evLost + 1 ∧ tabGet 0 s'.rel.ssns 26 = ssn + 1) ∧
    (∀ s1, s1 = (s.setTile k t.fail).raiseEvent (tileSource k).1 7 (tileSource k).2 (s.handleOf k) 0 →
      (t.launch = none → exec (.tileParityError k) s = .next s1) ∧
      (∀ id, t.launch = some id → exec (.tileParityError k) s =
        .next (s1.wish id 0x12 { status := 0x12, tlin := BitVec.ofNat 32 t.tlin }))) ∧
    (t.fail.dead = true ∧ (∀ i < 13, (t.fail.sock i).fly = []) ∧ t.fail.rmws = [] ∧ t.fail.copies = [] ∧ t.fail.op4s = [] ∧
      t.fail.maccs = [] ∧ t.fail.mac = none ∧ t.fail.bal.sweep = none ∧ t.fail.x = t.x ∧ t.fail.v = t.v ∧ t.fail.ls = t.ls) ∧
    (k < 0x40000 → s.rel.evEn = false → ∀ l, t.launch.bind s.launch? = some l → ∀ id, t.launch = some id → alone s id → l.state = .running →
      ∃ s', exec (.tileParityError k) s = .next s' ∧ (s'.tile k).dead = true ∧ (∀ i < 13, ((s'.tile k).sock i).fly = []) ∧
        (s'.tile k).x = t.x ∧ ∃ w, s'.rel.wishes = s.rel.wishes ++ [w] ∧ w.launch = id ∧ w.reason = 0x12 ∧
        w.info.status = 0x12 ∧ w.info.tlin = BitVec.ofNat 32 t.tlin) ∧
    exec (.scrubRead k a .clean) s = .next s ∧
    (let mem := scrubMem k
     let named : Option Nat := if k < 0x80000 ∧ isCrown k = false then some k else none
     (s.tagAt mem a = true → ∀ e, exec (.scrubRead k a e) s = .next s) ∧
     (s.tagAt mem a = false →
       exec (.scrubRead k a .correctable) s = .next (s.corrected (mem.source a).1 named) ∧
       exec (.scrubRead k a .uncorrectable) s = .next ((s.setTag mem a).raiseEvent (mem.source a).1 2 (named.getD noId) noId
         (a / (mem.source a).2 * (mem.source a).2 % 2 ^ 32)))) ∧
    (tag a = false → s.rel.evEn = false → ∃ s', exec (.scrubRead 0x80000 a .uncorrectable) s = .next s' ∧ s'.bank = s.bank ∧
      ∀ i, i ∈ s'.bankPoison ↔ i = a / 4 ∨ i ∈ s.bankPoison) ∧
    (k < 0x40000 → s.rel.evEn = false → (a / 4 * 4) ∉ t.lsPoison → t.launch = none → ¬ retired s k →
      ∃ s', exec (.scrubRead k a .correctable) s = .next s' ∧ s'.tile k = t ∧
        (retired s' k ↔ s.rel.cethr.toNat < (s.rel.ceTile.filter fun e => decide (e.1 = k ∧ s.clk < e.2 + dayClk)).length + 1)) ∧
    (a < 24 → s.rel.edges.getLsbD a = false →
      let across (x y : Nat) (l : Launch) : Bool :=
        (rectDies x y l.w l.h).contains (edgeDies a).1 && (rectDies x y l.w l.h).contains (edgeDies a).2
      let hit := s.launches.filter fun m => m.2.holds && (across m.2.ox m.2.oy m.2 || (m.2.dual && across m.2.tox m.2.toy m.2))
      let down : State := { s with rel := { s.rel with edges := s.rel.edges ||| BitVec.ofNat 24 (2 ^ a) } }
      exec (.edgeDown a) s = .next ((hit.foldl (fun s m => s.wish m.1 0x13 { status := 0x13 })
        (down.raiseEvent (edgeDies a).1 4 noId noId a)).setReplace 2) ∧
      (s.rel.evEn = false → ∃ s', exec (.edgeDown a) s = .next s' ∧
      (∀ i < 24, s'.rel.edges.getLsbD i = (s.rel.edges.getLsbD i || decide (i = a))) ∧ s'.rel.replace = true ∧
      s'.rel.reason = (if s.rel.replace then s.rel.reason else 2) ∧
      ((s.launches.map Prod.fst).Pairwise (· < ·) → fencesAsked s s' (fun _ l =>
        let across (x y : Nat) : Prop := (edgeDies a).1 ∈ rectDies x y l.w l.h ∧ (edgeDies a).2 ∈ rectDies x y l.w l.h
        across l.ox l.oy ∨ (l.dual = true ∧ across l.tox l.toy)) 0x13))) ∧
    (24 ≤ a ∨ s.rel.edges.getLsbD a = true → exec (.edgeDown a) s = .next s) ∧
    (∀ n < 65536, a < 24 → ∃ s', exec (.linkRetryReport 16 a n) s = .next s' ∧
      s' = (let s1 := setPort s a { portOf s a with retries := (portOf s a).retries + BitVec.ofNat 16 n }
            if n = 0 then s1 else s1.raiseEvent 16 3 0xFFFFFFFF 0xFFFFFFFF (a + n * 2 ^ 16))) ∧
    (∀ n < 65536, ∀ src, src ≠ 16 → a < 65536 → ∃ s', exec (.linkRetryReport src a n) s = .next s' ∧
      s' = if n = 0 then s else s.raiseEvent src 3 0xFFFFFFFF 0xFFFFFFFF (a + n * 2 ^ 16)) ∧
    (k ∈ s.rel.testing →
      let ended : State := { s with rel := { s.rel with testing := s.rel.testing.filter fun i => decide (i ≠ k) } }
      let mine (p : Nat × Nat) : Bool := decide (p.1 = k) || decide (p.2 = k)
      (∀ s1, s1 = ended.raiseEvent 17 9 k noId 0 → exec (.selftestDone k false) s = .next
        (({ s1 with rel := { s1.rel with diverged := s1.rel.diverged.filter fun p => !mine p } } : State).chooseRetire k)) ∧
      (∀ s1, s1 = ended.raiseEvent 17 9 k noId 1 →
        (s1.rel.diverged.find? mine = none → exec (.selftestDone k true) s = .next s1) ∧
        (∀ p, s1.rel.diverged.find? mine = some p →
          (p.1 ∈ s1.rel.testing ∨ p.2 ∈ s1.rel.testing → exec (.selftestDone k true) s = .next s1) ∧
          (p.1 ∉ s1.rel.testing → p.2 ∉ s1.rel.testing → exec (.selftestDone k true) s = .next
            ((({ s1 with rel := { s1.rel with diverged := s1.rel.diverged.filter fun q => decide (q ≠ p) } } :
              State).countDivergence p.1).countDivergence p.2))))) ∧
    (k ∈ s.rel.testing → s.rel.evEn = false → ¬ retired s k → ∃ s', exec (.selftestDone k false) s = .next s' ∧
      k ∉ s'.rel.testing ∧ (t.launch = none → retired s' k) ∧ (t.launch ≠ none → k ∈ s'.rel.retirePend)) ∧
    (k ∉ s.rel.testing → ∀ p, exec (.selftestDone k p) s = .next s) ∧
    (∀ ns : List Nat, a < 16 → exec (.retirementMapWrite a ns) s =
      .next ((ns.filter fun n => decide (n < 10240)).foldl (fun s n => s.chooseRetire (a * 16384 + n)) s)) ∧
    (∀ n < 10240, a < 16 → s.rel.evEn = false →
      let u := a * 16384 + n
      ((s.tile u).launch = none → ∃ s', exec (.retirementMapWrite a [n]) s = .next s' ∧
        ∀ i, retired s' i ↔ i = u ∨ retired s i) ∧
      (∀ id, (s.tile u).launch = some id → ∀ l, s.launch? id = some l → ¬ retired s u → u ∉ s.rel.retirePend → l.allTiles.Nodup →
        ∃ s', exec (.retirementMapWrite a [n]) s = .next s' ∧ s'.rel.retired = s.rel.retired ∧ u ∈ s'.rel.retirePend ∧
        ∀ j ∈ l.allTiles, (s'.tile j).pend = if (s.tile j).run = .notStarted ∨ (s.tile j).run = .idle then (s.tile j).pend
          else (s.tile j).pend ||| 8)) ∧
    (s.rel.unread = true → s.rel.evEn = true → ∀ w s1, s.crownWordDo 0 cons = (w, s1) →
      (w = some s.rel.evSeq →
        exec .msixVector0Repeat s = .next { s1 with rel := { s1.rel with unread := false } }) ∧
      (w ≠ some s.rel.evSeq → s1.rel.msix0At ≤ s1.clk → exec .msixVector0Repeat s =
        .next { s1 with bu := { s1.bu with msix0 := s1.bu.msix0 + 1 }, rel := { s1.rel with msix0At := s1.clk + 3300 } }) ∧
      (w ≠ some s.rel.evSeq → s1.clk < s1.rel.msix0At → exec .msixVector0Repeat s = .next s1)) ∧
    (s.rel.unread = false ∨ s.rel.evEn = false → exec .msixVector0Repeat s = .next s)

/-- Dual dispatch: the oldest messages of a pair are forwarded two cycles after the later of them when their hashes agree, and
otherwise the launch is fenced as DIVERGED; so it is when HOLD passes with one of them missing, or passed before the second came
(R490, R491, R493, R494). -/
def Sys2Proof.Claims.TwinMessages : Prop :=
  ∀ (s : State) (k : Nat), ∀ id, (s.tile k).launch = some id → ∀ l, s.launch? id = some l → l.id = id → l.dual = true →
    l.tileOf (s.tile k).tlin = k → l.twinOf (s.tile k).tlin ≠ k → (s.tile k).diverged = false → (s.tile k).fenced = false →
    let t := s.tile k
    let tk := l.twinOf t.tlin
    let u := s.tile tk
    let hold := s.rel.dual.toNat % 2 ^ 16 * 3300
    let crc (e : Egress) : Nat := crc64 (e.kind :: e.words)
    let both (i : Instr) (st : State) : Prop := exec i s = .next st ∧
      (alone s id → l.state = .running → s.rel.evEn = false → ∃ w, st.rel.wishes = s.rel.wishes ++ [w] ∧ w.launch = id ∧
        w.reason = 0x10 ∧ (st.tile k).diverged = true ∧ (st.tile tk).diverged = true ∧ (st.tile k).egress = t.egress ∧
        w.info.status = 0x10 ∧ w.info.tlin = BitVec.ofNat 32 t.tlin)
    let diverges (i : Instr) (e : Egress) (timeout : Bool) : Prop := both i (s.divergenceAt l t.tlin e.k e.kind timeout) ∧
      (alone s id → l.state = .running → s.rel.evEn = false →
        ∀ w ∈ (s.divergenceAt l t.tlin e.k e.kind timeout).rel.wishes, w.launch = id →
          w.info.tinfo = BitVec.ofNat 64 (e.k % 2 ^ 32 + e.kind % 256 * 2 ^ 32 + ofBool timeout * 2 ^ 40))
    (∀ a, t.egress.head? = some a → ∀ b, u.egress.head? = some b →
      let late := max a.since b.since
      (min a.since b.since + hold < late → diverges (.twinCompare k) a true ∧ diverges (.twinHoldTimeout k) a true) ∧
      (late ≤ min a.since b.since + hold →
        (s.clk < late + 2 → exec (.twinCompare k) s = .next s) ∧
        (late + 2 ≤ s.clk → crc a = crc b → ∃ s', exec (.twinCompare k) s = .next s' ∧
          s'.tile k = { t with egress := t.egress.tail } ∧ s'.tile tk = { u with egress := u.egress.tail } ∧
          s'.launch? id = some { l with escT := max l.escT s.clk }) ∧
        (late + 2 ≤ s.clk → crc a ≠ crc b → diverges (.twinCompare k) a false) ∧
        exec (.twinHoldTimeout k) s = .next s)) ∧
    (∀ a, t.egress.head? = some a → u.egress = [] →
      (s.clk < a.since + hold → exec (.twinHoldTimeout k) s = .next s ∧ exec (.twinCompare k) s = .next s) ∧
      (a.since + hold ≤ s.clk → diverges (.twinHoldTimeout k) a true)) ∧
    (t.egress = [] → ∀ b, u.egress.head? = some b → b.since + hold ≤ s.clk → diverges (.twinHoldTimeout k) b true)

/-- Reliability: fences, error reports, dual dispatch. -/
def Obligations.Reliability : Prop := Claims.Fences ∧ Claims.ErrorReports ∧ Claims.TwinMessages

namespace Sys2Proof.Claims

open Machine

/-- The state with only the firmware registers changed. -/
def withFw (s : State) (f : Fw → Fw) : State := { s with fw := f s.fw }

/-- The tiles of a complex hold nothing, and no other tile has changed. -/
def tilesReset (s s' : State) (c : Nat) : Prop :=
  ∀ k, s'.tile k = if 0x40000 + 32 * c ≤ k ∧ k < 0x40020 + 32 * c then {} else s.tile k

/-- A complex is back in reset: its tiles hold nothing, its eight measurement blocks are zero (Table 21-3), and no other
tile or block has changed. -/
def complexReset (s s' : State) (c : Nat) : Prop :=
  tilesReset s s' c ∧ ∀ i < 32, vget 0 s'.fw.blocks i = if i / 8 = c + 1 then 0 else vget 0 s.fw.blocks i

/-- What waited for the outcome of a handover is served: end notices, then doorbells (R524). -/
def servesAll (s s' : State) : Prop := s' = s.serveWaiting ∧ (s.fw.notices = [] → s.fw.doorbells = [] → s' = s)

/-- STATUS of the mailbox is written with its code, and vector 1 is raised (R521). -/
def answered (s s' : State) (code : Nat) : Prop :=
  s'.fw.mbBusy = false ∧ s'.fw.mbStatus.toNat = 2 ^ 31 + s'.fw.sbReason.toNat * 2 ^ 8 + code ∧ s'.bu.msix1 = s.bu.msix1 + 1

/-- A mailbox command that waits for this is answered; another is not. -/
def answeredIf (s s' : State) (cmd : Byte) (code : Nat) : Prop :=
  (s.fw.mbBusy = true ∧ s.fw.mbCmd = cmd → answered s s' code) ∧
    (¬ (s.fw.mbBusy = true ∧ s.fw.mbCmd = cmd) → s'.fw.mbBusy = s.fw.mbBusy ∧ s'.fw.mbStatus = s.fw.mbStatus ∧
      s'.bu.msix1 = s.bu.msix1)

/-- The header of an image is one that check 1 of R511 refuses (Table 21-1). -/
def headerWrong (f : List Byte) : Prop :=
  let w (a : Nat) := fileNum f a 4
  w 0 ≠ 0x4E575243 ∨ w 4 ≠ 0x00010000 ∨ 63 < w 12 ∨ fileNum f 22 2 ≠ 0 ∨ w 24 % 8 ≠ 0 ∨ w 28 = 0 ∨ 1280 < w 28 ∨
    4 * 2 ^ 20 < w 24 + w 28 ∨ w 32 = 0 ∨ 64 < w 32 ∨ (∃ i < 28, fileNum f (36 + i) 1 ≠ 0) ∨
    (∃ i < 63, fileNum f (1857 + i) 1 ≠ 0) ∨ ∃ i < w 32, w (1920 + 16 * i) / 2 ^ 13 ≠ 0

/-- Section `i` of an image is one that check 5 of R511 refuses (Table 21-2). -/
def sectionWrong (f : List Byte) (i : Nat) : Prop :=
  let w (a : Nat) := fileNum f (1920 + 16 * i + a) 4
  w 8 % 32 ≠ 0 ∨ fileNum f 24 4 < w 8 + w 12 ∨ (w 0 % 2 ^ 8 ≠ 1 ∧ w 0 % 2 ^ 8 ≠ 2) ∨
    (w 0 % 2 ^ 8 = 1 ∧ (w 4 ≠ 0 ∨ ∀ im e a b c d t, loadObject ((f.drop (w 8)).take (w 12)) 0 ≠ .object im e a b c d t)) ∨
    (w 0 % 2 ^ 8 = 2 ∧ 2 ^ 24 < w 4 + w 12)

/-- The boot ROM's verdict on an image: the reason of the first check that fails, 0 when all pass (R511). -/
def verdict (s : State) (f : List Byte) (r : Nat) : Prop :=
  let keyOk := shake512 ((f.drop 64).take 1793) = toBytes64 (s.fuseWord 0)
  let sigOk := falconVerify ((f.drop 64).take 1793) ((f.drop (fileNum f 24 4)).take (fileNum f 28 4)) (f.take (fileNum f 24 4)) = 0
  let newOk := s.arbOf.toNat ≤ fileNum f 12 4
  let someWrong := ∃ i < fileNum f 32 4, sectionWrong f i
  (r = 1 ∧ headerWrong f) ∨ (¬ headerWrong f ∧ ((r = 2 ∧ ¬ keyOk) ∨ (keyOk ∧ ((r = 3 ∧ ¬ sigOk) ∨ (sigOk ∧
    ((r = 4 ∧ ¬ newOk) ∨ (newOk ∧ ((r = 5 ∧ someWrong) ∨ (r = 0 ∧ ¬ someWrong)))))))))

/-- The sections of an image are loaded into complex `c`: said for a section that no other one overlaps (R511). -/
def sectionsLoaded (s' : State) (c : Nat) (f : List Byte) : Prop :=
  let w (i a : Nat) := fileNum f (1920 + 16 * i + a) 4
  ∀ i < fileNum f 32 4,
    (w i 0 % 2 ^ 8 = 1 → (∀ j < fileNum f 32 4, j ≠ i → w j 0 ≠ w i 0) → ∀ im entry segt fmtt plan safe tables,
      loadObject ((f.drop (w i 8)).take (w i 12)) 0 = .object im entry segt fmtt plan safe tables →
      let t := s'.tile (0x40000 + 32 * c + w i 0 / 2 ^ 8)
      t.pc.toNat = entry ∧ t.run = .computing ∧ t.sup = true ∧ t.cid = 0xFFFF ∧ (∀ a, t.ls.get a = nth 0 im a) ∧
        t.fmtt = (if fmtt = 0xFFFFFFFF then 0 else fmtt) ∧ (∀ k < 64, t.getX k = 0) ∧ ∀ k < 32, t.getV k = 0) ∧
    (w i 0 % 2 ^ 8 = 2 → (∀ j < fileNum f 32 4, j ≠ i → w j 0 % 2 ^ 8 = 1) → ∀ j < w i 12, s'.csram.get (w i 4 + j) = nth 0 f (w i 8 + j))

/-- What a passing image leaves in its complex: its sections, its measurement in block B + 0, its versions (R511, R513). -/
def imageLoaded (s s' : State) (c : Nat) (f : List Byte) : Prop :=
  sectionsLoaded s' c f ∧ vget (0, 0, 0) s'.fw.versions c = (BitVec.ofNat 16 (fileNum f 8 2), BitVec.ofNat 16 (fileNum f 10 2), BitVec.ofNat 32 (fileNum f 12 4)) ∧
    vget 0 s'.fw.imMaj c = BitVec.ofNat 16 (fileNum f 20 2) ∧
    vget (0, 0) s'.fw.exVer c = (BitVec.ofNat 16 (fileNum f 16 2), BitVec.ofNat 16 (fileNum f 18 2)) ∧
    toBytes64 (vget 0 s'.fw.imgM c) = shake512 (f.take (fileNum f 24 4)) ∧
    ∀ i < 32, vget 0 s'.fw.blocks i =
      if i = 8 + 8 * c then extendBlock (vget 0 s.fw.blocks i) (shake512 (f.take (fileNum f 24 4))) else vget 0 s.fw.blocks i

/-- A command to the mailbox is served at once: the firmware serves, or Crown A's boot ROM in recovery, and no command before it
is in progress or waits (R521, R530). -/
def mbIdle (s : State) : Prop :=
  ((s.serves = true ∧ s.fw.recovery = false) ∨ (s.bu.ready.getLsbD 26 = false ∧ s.fw.recovery = true)) ∧ s.fw.mbBusy = false ∧ s.fw.mbQueue = []

/-- A command to the mailbox waits: one before it is in progress, or the firmware does not serve now (R521, R523). -/
def mbWaits (s : State) : Prop :=
  (s.bu.ready.getLsbD 26 = true ∨ s.fw.recovery = true) ∧ (s.fw.mbBusy = true ∨ (s.serves = false ∧ s.fw.recovery = false))

/-- The command waits behind those written before it. -/
def mbPut (s : State) (cmd : Nat) (arg : List Byte) : State := withFw s fun f => { f with mbQueue := f.mbQueue ++ [(cmd, arg)] }

/-- The importer refuses a state table in crown SRAM (R519, R520, Table 21-4): its magic, its length or its count; its digest; its
MAJ against the importer's; an entry outside the table, one REQUIRED and not known; two entries that overlap. -/
def tableWrong (m : Memory) (a : Nat) (maj : Half) : Prop :=
  let n := m.num (a + 8) 4
  let k := m.num (a + 12) 4
  let e (i o w : Nat) : Nat := m.num (a + 128 + 16 * i + o) w
  m.num a 4 ≠ 0x54535743 ∨ n < 128 ∨ 2 ^ 23 < n ∨ 2 ^ 24 < a + n ∨ k = 0 ∨ 64 < k ∨ n < 128 + 16 * k ∨
    m.read (a + 64) 64 ≠ shake512 (m.read a 64 ++ List.replicate 64 0 ++ m.read (a + 128) (n - 128)) ∨
    m.num (a + 4) 2 ≠ maj.toNat ∨
    (∃ i < k, n < e i 8 4 + e i 12 4 ∨ (e i 2 2 % 2 = 1 ∧ Config.knownSection (e i 0 2) = false)) ∨
    ∃ j < k, ∃ i < j, e i 8 4 < e j 8 4 + e j 12 4 ∧ e j 8 4 < e i 8 4 + e i 12 4

/-- A handover rolls back: the new complex is in reset and the old one is active again (Table 21-5). -/
def rolled (s : State) : State := withFw (s.resetComplex s.fw.act) fun f => { f with
  act := 1 - s.fw.act, phase := .rolledBack, sb := .reset, heldWrites := [], sessions := [], lastBeat := s.clk }

/-- A handover has rolled back (Table 21-5). -/
def rolledBack (s s' : State) : Prop :=
  servesAll (rolled s) s' ∧ (s.fw.notices = [] → s.fw.doorbells = [] →
    complexReset s s' s.fw.act ∧ s'.fw.act = 1 - s.fw.act ∧ s'.fw.phase = .rolledBack ∧ s'.fw.sb = .reset ∧
      s'.fw.heldWrites = [] ∧ s'.fw.sessions = [] ∧ s'.csram = s.csram ∧ s'.launches = s.launches ∧ s'.rel = s.rel ∧ s'.br = s.br)

/-- A handover commits: the old complex is in reset, and the writes held back perform in their order (Table 21-5, R523). -/
def committed (s : State) : State :=
  let s1 := withFw (s.resetComplex (1 - s.fw.act)) fun f => { f with
    phase := .committed, sb := .reset, heldWrites := [], sessions := [], lastBeat := s.clk, watch := true }
  let s2 := s.fw.heldWrites.foldl (fun s w => (s.crnPut w.1 w.2).2) s1
  withFw s2 Fw.logActivation

/-- The active complex has stopped presenting packets and the standby boots an image that lies in crown SRAM (R521). -/
def staged (s s' : State) (f : List Byte) : Prop :=
  ∃ off, s'.fw.booting = some off ∧ off % 256 = 0 ∧ (∀ j < f.length, s'.csram.get (off + j) = nth 0 f j) ∧
    s'.fw.mbBusy = true ∧ s'.fw.mbCmd = 1 ∧ s'.fw.mbStatus = 2 ∧ s'.bu = s.bu

end Sys2Proof.Claims

/-- RESET of the standby; BOOT from reset alone; the boot ROM's checks in order, with the reason of the first that fails;
in recovery the image goes to Crown A, whose FAIL then clears, which is the model's choice (log 139). A STAGE that waits is
answered (R511, R513, R521, R526, R528, R530). -/
def Sys2Proof.Claims.BootRom : Prop :=
  ∀ (s : State) (img : BitVec 16),
    let f := s.fw
    (f.phase ≠ .switched → ∃ s', exec .standbyReset s = .next s' ∧ complexReset s s' (1 - f.act) ∧ s'.fw.sb = .reset ∧
      s'.fw.booting = none ∧ s'.csram = s.csram) ∧
    (f.phase = .switched → exec .standbyReset s = .next s ∧ exec (.standbyBoot img) s = .next s) ∧
    (f.phase ≠ .switched → f.sb = .reset → exec (.standbyBoot img) s =
      .next (withFw s fun f => { f with sb := .booting, img, booting := some (img.toNat * 256) })) ∧
    (f.sb ≠ .reset → exec (.standbyBoot img) s = .next s) ∧
    (f.booting = none → exec .bootRomDone s = .next s) ∧
    (∀ off, f.booting = some off →
      let file := s.csram.read off (4 * 2 ^ 20)
      let c := if f.recovery then 0 else 1 - f.act
      (∀ r < 6, 0 < r → verdict s file r → ∃ s', exec .bootRomDone s = .next s' ∧ s'.fw.sb = .refused ∧ s'.fw.sbReason.toNat = r ∧
        s'.fw.booting = none ∧ s'.tiles = s.tiles ∧ s'.csram = s.csram ∧ s'.fw.blocks = f.blocks ∧ s'.bu.ready = s.bu.ready ∧
        (∀ i < 32, s'.bu.failed.getLsbD i = (s.bu.failed.getLsbD i || (decide (i = 27) && decide (c = 1) && !s.bu.ready.getLsbD 27))) ∧
        answeredIf s s' 1 1) ∧
      (verdict s file 0 → ∃ s', exec .bootRomDone s = .next s' ∧ imageLoaded s s' c file ∧ s'.fw.booting = none ∧ answeredIf s s' 1 0 ∧
        (f.recovery = false → s'.fw.sb = .ready ∧ s'.fw.sbReason = 0 ∧
          ∀ i < 32, s'.bu.ready.getLsbD i =
            (s.bu.ready.getLsbD i || (decide (i = 27) && decide (c = 1) && !s.bu.failed.getLsbD 27))) ∧
        (f.recovery = true → s'.fw.recovery = false ∧ ∀ i < 32,
          s'.bu.ready.getLsbD i = (s.bu.ready.getLsbD i || decide (i = 26)) ∧
          s'.bu.failed.getLsbD i = (s.bu.failed.getLsbD i && decide (i ≠ 26)))))

/-- The phases of a handover: GO, ABORT, the timer, the committing heartbeat with the writes it held back, DONE; a complex that
hangs, whose late heartbeat is none; the anti-rollback counter, which only rises; the import of the state table, which is refused with an ABORT or measured (R512,
R519, R520, R522, R523, R525, R526). -/
def Sys2Proof.Claims.Handover : Prop :=
  ∀ (s : State) (v : Word),
    let f := s.fw
    let late (c : Nat) : Prop := c + 20 * 3300000 ≤ s.clk
    (f.phase = .idle → exec (.handoverGo v) s = .next (withFw s fun f =>
      { f with act := 1 - f.act, phase := .switched, switchedAt := s.clk, table := BitVec.ofNat 16 (v.toNat / 2 ^ 8) })) ∧
    (f.phase ≠ .idle → exec (.handoverGo v) s = .next s) ∧
    (f.phase = .switched → ∃ s', exec .handoverAbort s = .next s' ∧ rolledBack s s') ∧
    (f.phase ≠ .switched → exec .handoverAbort s = .next s ∧ exec .handoverTimeout s = .next s) ∧
    (f.phase = .switched → late f.switchedAt → ∃ s', exec .handoverTimeout s = .next s' ∧ exec .heartbeat s = .next s' ∧
      rolledBack s s') ∧
    (¬ late f.switchedAt → exec .handoverTimeout s = .next s) ∧
    (f.phase ≠ .switched → f.watch = false ∨ f.hang = true ∨ ¬ late f.lastBeat →
      exec .heartbeat s = .next (withFw s fun f => { f with lastBeat := s.clk })) ∧
    (f.phase ≠ .switched → f.watch = true → f.hang = false → late f.lastBeat → exec .heartbeat s = exec .heartbeatHang s) ∧
    (f.phase = .switched → ¬ late f.switchedAt → ∃ s', exec .heartbeat s = .next s' ∧ servesAll (committed s) s') ∧
    (f.phase = .switched → ¬ late f.switchedAt → f.notices = [] → f.doorbells = [] →
      (∀ w ∈ f.heldWrites, w.1 + w.2.length ≤ 2 ^ 24) →
      ∃ s', exec .heartbeat s = .next s' ∧ tilesReset s s' (1 - f.act) ∧ s'.fw.phase = .committed ∧ s'.fw.act = f.act ∧
        s'.fw.sb = .reset ∧ s'.fw.sessions = [] ∧ s'.fw.heldWrites = [] ∧ s'.fw.watch = true ∧ s'.fw.lastBeat = s.clk ∧
        s'.launches = s.launches ∧ s'.csram = f.heldWrites.foldl (fun m w => m.write w.1 w.2) s.csram ∧
        ∀ i < 32, vget 0 s'.fw.blocks i = if i / 8 = (1 - f.act) + 1 then 0
          else if i = 1 then extendBlock (vget 0 f.blocks 1) (toBytes64 (vget 0 f.imgM f.act)) else vget 0 f.blocks i) ∧
    (f.phase = .committed ∨ f.phase = .rolledBack → ∃ s', exec .handoverDone s = .next s' ∧ s'.fw.phase = .idle ∧
      s'.fw.act = f.act ∧ s'.tiles = s.tiles ∧ answeredIf s s' 2 (if f.phase = .committed then 0 else 1)) ∧
    (f.phase = .idle ∨ f.phase = .switched → exec .handoverDone s = .next s) ∧
    (f.watch = true → f.hang = false → f.phase ≠ .switched → late f.lastBeat → ∃ s', exec .heartbeatHang s = .next s' ∧
      s' = withFw (withBu s fun b => { b with msix0 := b.msix0 + 1 }) (fun f => { f with hang := true }) ∧ s'.serves = false) ∧
    (f.watch = false ∨ f.hang = true ∨ f.phase = .switched ∨ ¬ late f.lastBeat → exec .heartbeatHang s = .next s) ∧
    (f.phase ≠ .switched → s.arbOf.toNat < v.toNat → v.toNat < 64 → ∃ s', exec (.arbWrite v) s = .next s' ∧
      s'.arbOf.toNat = v.toNat ∧ s' = withFw s fun f => { f with arb := s'.fw.arb }) ∧
    (f.phase = .switched ∨ v.toNat ≤ s.arbOf.toNat ∨ 64 ≤ v.toNat → exec (.arbWrite v) s = .next s) ∧
    (s.bu.heldInReset = false → s.due = none → ∀ c l, s.agenda = (c, .importTable) :: l → c ≤ s.clk →
      let s1 : State := { s with agenda := l }
      let a := f.table.toNat * 2 ^ 8
      let maj := vget 0 f.imMaj f.act
      (f.phase ≠ .switched → step s = .next s1) ∧
      (f.phase = .switched → tableWrong s.csram a maj → step s = exec .handoverAbort s1) ∧
      (f.phase = .switched → ¬ tableWrong s.csram a maj → ∃ s', step s = .next s' ∧ s' = withFw s1 (fun f => { f with
          blocks := s'.fw.blocks }) ∧ ∀ i < 32, vget 0 s'.fw.blocks i =
        if i = 9 + 8 * f.act then extendBlock (vget 0 f.blocks i) (s.csram.read (a + 64) 64) else vget 0 f.blocks i))

/-- The identity engine signs 64 bytes of crown SRAM with a signature that verifies under the identity key, where the GO asked for
it; SPDM answers version, capabilities, algorithms, certificates, challenges, measurements, sessions and IDE key management; fabric
keys are taken from the pod manager's session alone (R473, R516 to R518). The numbers of the answers and of the algorithms and what
a signature covers are the model's choice (log 138). -/
def Sys2Proof.Claims.Identity : Prop :=
  ∀ (s : State) (i : Nat) (q : Option Wide) (o : BitVec 16) (key : BitVec 256) (d : Wide),
    let f := s.fw
    let src := f.idMsg.toNat % 2 ^ 24
    let dst := f.idMsg.toNat / 2 ^ 32 % 2 ^ 24
    let pod : Prop := ∃ p, f.pod = some p ∧ ∃ x ∈ f.sessions, x.id = i ∧ x.requester = some p
    let owner : Prop := o ≠ 0 ∧ o ≠ 0xFFFF
    let reply (s : State) (kind : Nat) (bs : List Byte) : State := withFw s fun f => { f with replies := f.replies ++ [(kind, bs)] }
    (f.idBusy = true ∨ 2 ^ 24 < src + 64 ∨ 2 ^ 24 < dst + 1280 → exec .idSignGo s = .next (withFw s fun f => { f with idErr := true })) ∧
    (f.idBusy = false → src + 64 ≤ 2 ^ 24 → dst + 1280 ≤ 2 ^ 24 →
      exec .idSignGo s = .next (withFw s fun f => { f with idBusy := true, idErr := false, idJob := f.idMsg })) ∧
    (f.idBusy = false → exec .idSignDone s = .next s) ∧
    (f.idBusy = true →
      let m := f.idJob.toNat % 2 ^ 24
      let to_ := f.idJob.toNat / 2 ^ 32 % 2 ^ 24
      (s.signature (s.csram.read m 64) = none → exec .idSignDone s = .next { s with free := s.free + 1 }) ∧
      (∀ sig, s.signature (s.csram.read m 64) = some sig → falconVerify idPub sig (s.csram.read m 64) = 0 ∧
        ∃ s', exec .idSignDone s = .next s' ∧ s'.fw = { f with idBusy := false } ∧
          ∀ a, s'.csram.get a = if to_ ≤ a ∧ a < to_ + sig.length then nth 0 sig (a - to_) else s.csram.get a)) ∧
    (s.serves = true →
      exec (.spdmRequest .getCertificate) s = .next (reply s 0 Config.idCert) ∧
      (1 ≤ i → i ≤ 8 → exec (.spdmRequest (.getMeasurement i)) s = .next (reply s 1 (toBytes64 (vget 0 f.blocks (i - 1))))) ∧
      (9 ≤ i → i ≤ 16 → exec (.spdmRequest (.getMeasurement i)) s =
        .next (reply s 1 (toBytes64 (vget 0 f.blocks (8 + 8 * f.act + i - 9))))) ∧
      (i = 0 ∨ 16 < i → exec (.spdmRequest (.getMeasurement i)) s = .next (reply s 4 [])) ∧
      exec (.spdmRequest .otherVersion) s = .next (reply s 4 []) ∧
      exec (.spdmRequest .getVersion) s = .next (reply s 7 [0x13]) ∧
      exec (.spdmRequest .getCapabilities) s = .next (reply s 8 (toBytes 4 0x3D6)) ∧
      exec (.spdmRequest .negotiateAlgorithms) s = .next (reply s 9 [0x12, 0x40, 203, 197]) ∧
      (∀ n body kind r, (r = .challenge n ∧ kind = 11 ∧ body = shake512 Config.idCert) ∨
          (r = .signedMeasurement i n ∧ kind = 12 ∧ ((1 ≤ i ∧ i ≤ 8 ∧ body = toBytes64 (vget 0 f.blocks (i - 1))) ∨
            (9 ≤ i ∧ i ≤ 16 ∧ body = toBytes64 (vget 0 f.blocks (8 + 8 * f.act + i - 9))))) →
        (s.signature (shake512 (n ++ body)) = none →
          exec (.spdmRequest r) s = .next (reply { s with free := s.free + 1 } 4 [])) ∧
        ∀ sig, s.signature (shake512 (n ++ body)) = some sig →
          exec (.spdmRequest r) s = .next (reply { s with free := s.free + 1 } kind (body ++ sig))) ∧
      (∀ n, i = 0 ∨ 16 < i → exec (.spdmRequest (.signedMeasurement i n)) s = .next (reply s 4 [])) ∧
      (∀ p, (∀ x ∈ f.sessions, x.id ≠ i) → exec (.spdmRequest (.ideKeyProg i p key)) s = .next (reply s 4 []) ∧
        exec (.spdmRequest (.ideGo i p)) s = .next (reply s 4 []) ∧ exec (.spdmRequest (.ideStop i p)) s = .next (reply s 4 [])) ∧
      (∀ p, (∃ x ∈ f.sessions, x.id = i) →
        exec (.spdmRequest (.ideKeyProg i p key)) s = .next (reply (withFw s fun f =>
          { f with ideKeys := (f.ideKeys.filter fun e => decide (e.1 ≠ p)) ++ [(p, key)] }) 10 []) ∧
        ((∃ e ∈ f.ideKeys, e.1 = p) → exec (.spdmRequest (.ideGo i p)) s =
          .next (reply (withFw s fun f => { f with ideOn := insertNat p f.ideOn }) 10 [])) ∧
        ((∀ e ∈ f.ideKeys, e.1 ≠ p) → exec (.spdmRequest (.ideGo i p)) s = .next (reply s 10 [])) ∧
        exec (.spdmRequest (.ideStop i p)) s =
          .next (reply (withFw s fun f => { f with ideOn := f.ideOn.filter fun x => decide (x ≠ p) }) 10 [])) ∧
      exec (.spdmRequest (.openSession q)) s = .next (reply (withFw s fun f =>
        { f with sessions := f.sessions ++ [{ id := f.sessionNo, requester := q }], sessionNo := f.sessionNo + 1 }) 2 (toBytes 4 f.sessionNo)) ∧
      exec (.spdmRequest (.endSession i)) s = .next (reply (withFw s fun f =>
        { f with sessions := f.sessions.filter fun x => decide (x.id ≠ i) }) 3 (toBytes 4 i)) ∧
      (¬ pod ∨ ¬ owner → exec (.setFabricKey i o key) s = .next (reply s 4 []) ∧ exec (.clearFabricKey i o) s = .next (reply s 4 [])) ∧
      (pod → owner →
        exec (.clearFabricKey i o) s = .next (reply { s with br := { s.br with keys := s.br.keys.filter fun k => decide (k.owner ≠ o) } } 5 []) ∧
        ((∀ k ∈ s.br.keys, k.owner ≠ o) → s.br.keys.length < 4096 → exec (.setFabricKey i o key) s =
          .next (reply { s with br := { s.br with keys := s.br.keys ++ [{ owner := o, key }] } } 5 [])) ∧
        ((∀ k ∈ s.br.keys, k.owner ≠ o) → 4096 ≤ s.br.keys.length → exec (.setFabricKey i o key) s = .next (reply s 6 [])) ∧
        ((∃ k ∈ s.br.keys, k.owner = o) → ∃ s', exec (.setFabricKey i o key) s = .next s' ∧
          s'.fw.replies = f.replies ++ [(5, [])] ∧ s'.br.keys.length = s.br.keys.length ∧
          ∀ k ∈ s'.br.keys, k ∈ s.br.keys ∨ (k.owner = o ∧ k.key = key))) ∧
      (mbIdle s → f.pod = none → ∃ s', exec (.setpod d) s = .next s' ∧ s'.fw.pod = some d ∧ answered s s' 0) ∧
      (mbIdle s → f.pod ≠ none → ∃ s', exec (.setpod d) s = .next s' ∧ s'.fw.pod = f.pod ∧ answered s s' 1)) ∧
    (mbWaits s → exec (.setpod d) s = .next (mbPut s 4 (toBytes64 d))) ∧
    (s.serves = false → ∀ r, exec (.spdmRequest r) s = .next s ∧ exec (.setFabricKey i o key) s = .next s ∧
      exec (.clearFabricKey i o) s = .next s)

/-- The mailbox: a command that cannot be served yet waits in its turn; STAGE copies the image and boots the standby, or Crown A itself in recovery; ACTIVATE needs a READY standby
and stops the presenting of packets; SETRET retires tiles and extends block 3; INFO is answered (R505, R521, R522, R526, R530). -/
def Sys2Proof.Claims.Mailbox : Prop :=
  ∀ (s : State) (img map : List Byte),
    let f := s.fw
    (s.bu.ready.getLsbD 26 = false → f.recovery = false → exec (.stage img) s = .next s ∧ exec .info s = .next s ∧
      exec .activate s = .next s ∧ exec (.setret map) s = .next s) ∧
    (mbWaits s → exec (.stage img) s = .next (mbPut s 1 img) ∧ exec .info s = .next (mbPut s 5 []) ∧
      exec .activate s = .next (mbPut s 2 []) ∧ exec (.setret map) s = .next (mbPut s 3 map)) ∧
    (mbIdle s →
      (4 * 2 ^ 20 < img.length → ∃ s', exec (.stage img) s = .next s' ∧ answered s s' 1 ∧ s'.csram = s.csram ∧
        s'.tiles = s.tiles) ∧
      (img.length ≤ 4 * 2 ^ 20 → ∃ s', exec (.stage img) s = .next s' ∧ staged s s' img ∧
        (f.recovery = false → complexReset s s' (1 - f.act) ∧ s'.fw.sb = .booting) ∧ (f.recovery = true → s'.tiles = s.tiles)) ∧
      ∃ s', exec .info s = .next s' ∧ answered s s' 0 ∧ s'.fw.act = f.act ∧ s'.tiles = s.tiles ∧
        ofBytes (s'.fw.info.drop 16) = f.act % 2 ^ 32 + 2 ^ 32 * f.phase.code ∧ ofBytes (s'.fw.info.take 8) =
          (vget (0, 0, 0) f.versions 0).1.toNat + 2 ^ 16 * (vget (0, 0, 0) f.versions 0).2.1.toNat +
          2 ^ 32 * (vget (0, 0, 0) f.versions 0).2.2.toNat) ∧
    (mbIdle s → s.serves = false → exec .activate s = .next s ∧ exec (.setret map) s = .next s) ∧
    (mbIdle s → s.serves = true →
      (f.sb ≠ .ready ∨ f.phase ≠ .idle → ∃ s', exec .activate s = .next s' ∧ answered s s' 1 ∧ s'.feCtrl = s.feCtrl) ∧
      (f.sb = .ready → f.phase = .idle → ∃ s', exec .activate s = .next s' ∧ s'.fw = { f with mbBusy := true, mbCmd := 2, mbStatus := 2 } ∧
        (∀ i < 32, s'.feCtrl.getLsbD i = (s.feCtrl.getLsbD i && decide (2 ≤ i))) ∧ s'.tiles = s.tiles) ∧
      (map.length ≠ 20480 → ∃ s', exec (.setret map) s = .next s' ∧ answered s s' 1 ∧ s'.rel = s.rel ∧ s'.fw.blocks = f.blocks) ∧
      (map.length = 20480 →
        let bits (d : Nat) : List Nat := (upTo 10240).filter fun n => (nth 0 map (1280 * d + n / 8)).getLsbD (n % 8)
        let mapped : State := (upTo 16).foldl (fun s d => s.retMapWrite d (bits d)) s
        exec (.setret map) s = .next ((withFw mapped fun f => { f with
          blocks := vset f.blocks 3 (extendBlock (vget 0 f.blocks 3) (shake512 map)) }).mbDone 0)) ∧
      (map.length = 20480 → s.rel.evEn = false → (∀ e ∈ s.tiles, e.2.launch = none) → ∃ s', exec (.setret map) s = .next s' ∧ answered s s' 0 ∧
        (∀ d < 16, ∀ n < 10240, d * 16384 + n ∈ s'.rel.retired ↔
          (nth 0 map (1280 * d + n / 8)).getLsbD (n % 8) = true ∨ d * 16384 + n ∈ s.rel.retired) ∧
        ∀ i < 32, vget 0 s'.fw.blocks i = if i = 3 then extendBlock (vget 0 f.blocks 3) (shake512 map) else vget 0 f.blocks i))

/-- A write by the active complex to crown SRAM or a register; one to nothing; a provisional complex's writes are held, its
heartbeat and its ABORT apart; FE_CTRL polls the rings that were nudged while it was off (R7, R398, R424, R509, R523, R526 and the register tables of chapters 17 to 22). -/
def Sys2Proof.Claims.CrownWrites : Prop :=
  ∀ (s : State) (o n : Nat) (v : BitVec 256), n ≤ 32 →
    let w : Word := v.setWidth 32
    let d : DWord := v.setWidth 64
    let f := s.fw
    let write (o n : Nat) := exec (.crnRegisterWrite (crownBase + o) n v) s
    (f.phase = .switched → (o ≠ 0x10A0028 ∨ n ≠ 4) → (o ≠ 0x10A0018 ∨ n ≠ 4) →
      (o + n ≤ 2 ^ 24 ∨ s.crnStands o n = true → exec (.crnRegisterWrite (crownBase + o) n v) s =
        .next (withFw s fun f => { f with heldWrites := f.heldWrites ++ [(o, toBytes n v.toNat)] })) ∧
      (2 ^ 24 < o + n → s.crnStands o n = false → exec (.crnRegisterWrite (crownBase + o) n v) s = .next s)) ∧
    (f.phase = .switched → v = 2 ^ 30 → write 0x10A0018 4 = exec .handoverAbort s) ∧
    write 0x10A0028 4 = exec .heartbeat s ∧
    (f.phase ≠ .switched →
      (o + n ≤ 2 ^ 24 → ∃ s', exec (.crnRegisterWrite (crownBase + o) n v) s = .next s' ∧ s'.tiles = s.tiles ∧ s'.fw = s.fw ∧
        ∀ a, s'.csram.get a = if o ≤ a ∧ a < o + n then BitVec.ofNat 8 (v.toNat / 2 ^ (8 * (a - o))) else s.csram.get a) ∧
      (0x4018000 ≤ o → write o n = .next s) ∧
      (¬ (o = 0x10A0028 ∧ n = 4) → ¬ (o = 0x10A0018 ∧ n = 4 ∧ v.getLsbD 30 = true) → s.crnStands o n = true →
        write o n = .next (s.crnPut o (toBytes n v.toNat)).2) ∧
      (s.crnStands o n = false → write o n = .next s) ∧
      (v.getLsbD 0 = false ∨ f.nudged = [] → write 0x1000000 4 = .next { s with feCtrl := w &&& 3 }) ∧
      (v.getLsbD 0 = true → write 0x1000000 4 =
        .next (f.nudged.foldl (fun s q => s.ringPoll q) { withFw s (fun f => { f with nudged := [] }) with feCtrl := w &&& 3 })) ∧
      write 0x1000008 4 = .next { s with schAge := w } ∧
      write 0x1000010 4 = .next { s with schSlice := w } ∧
      write 0x1000018 4 = .next { s with schReserve := w } ∧
      write 0x1080028 4 = .next { s with rel := { s.rel with cethr := w.setWidth 16 } } ∧
      write 0x1080038 4 = .next { s with rel := { s.rel with repthr := w.setWidth 14 } } ∧
      (∀ k < 16, v.getLsbD 31 = true → write (0x1080108 + 16 * k) 4 = exec (.fenceGo k (v.setWidth 8)) s) ∧
      (v = 2 ^ 31 → write 0x10A0018 4 = exec (.handoverGo w) s) ∧
      (v = 2 ^ 29 → write 0x10A0018 4 = exec .handoverDone s) ∧
      (v = 2 ^ 30 + 2 ^ 31 → write 0x10A0018 4 = .next s) ∧
      write 0x10A0030 4 = exec (.arbWrite w) s ∧
      (v.getLsbD 31 = true → write 0x10A0100 4 = exec .idSignGo s) ∧
      write 0x10B0110 4 = exec (.dialAdjWrite w) s ∧
      write 0x10B0118 8 = exec (.dialStep d) s ∧
      write 0x10B0200 4 = .next (withBu s fun b => { b with budget := w.setWidth 14 }) ∧
      write 0x10B0208 4 = .next (withBu s fun b => { b with base := w.setWidth 14 }) ∧
      write 0x10B0210 4 = .next (withBu s fun b => { b with tile := w.setWidth 16 }) ∧
      write 0x10B0218 4 = .next (if 60 ≤ w.toNat % 2 ^ 8 ∧ w.toNat % 2 ^ 8 ≤ 110 then withBu s fun b => { b with ttrip := w.setWidth 8 } else s) ∧
      (∀ e < 1024, ∃ s', write (0x2001000 + 4 * e) 4 = .next s' ∧
        ∀ j < 1024, tabGet 0 s'.br.routes j = if j = e then w.setWidth 24 else tabGet 0 s.br.routes j) ∧
      write 0x4000000 4 = exec (.xlLiveWrite w) s ∧
      write 0x4000048 8 = exec (.migrationGo d) s ∧
      write 0x4000068 4 = exec .demandAck s ∧
      ∀ p < 16384, ∃ s', write (0x4010000 + 2 * p) 2 = .next s' ∧ s'.bank = s.bank ∧
        ∀ q < 16384, s'.bankOwnerThen q = s.bankOwnerThen q ∧
          s'.bankOwnerOf q = if q = p then v.setWidth 16 else s.bankOwnerOf q)

/-- Crown firmware: boot, handover, identity, mailbox, register writes. -/
def Obligations.CrownFirmware : Prop :=
  Claims.BootRom ∧ Claims.Handover ∧ Claims.Identity ∧ Claims.Mailbox ∧ Claims.CrownWrites

namespace Sys2Proof.Claims

open Machine

/-- The 256 bits of a bundle whose eight 32-bit words are given, word 0 in the low bits (R87). -/
def bundleWords (ws : List Nat) : BitVec 256 := BitVec.ofNat 256 (ws.foldr (fun w x => w % 2 ^ 32 + 2 ^ 32 * x) 0)

/-- A bundle whose words 4 and 5 alone are given. -/
def words45 (a b : Nat) : BitVec 256 := bundleWords [0, 0, 0, 0, a, b, 0, 0]

/-- A bundle with one trigger in slot 4 and a source, no guard, GAP or literal (R87, R88). -/
def plainMove (src : BitVec 12) : TrigMove := { slot := 4, src }

/-- The row that runs a step of hardware that is due; the issue of a bundle is fetched instead. -/
def runBy (d : Due) (i : Instr) : Prop :=
  match d with
  | .result k j => i = (.resultComplete k j)
  | .macroOp k => i = (.mxMacroStep k)
  | .dial => i = .dialTick
  | .handover => i = .handoverTimeout
  | .hang => i = .heartbeatHang
  | .startTick l => i = (.startTickCheck l)
  | .waddr k => i = (.waddrTimeout k)
  | .initial l => i = (.initialRelease l)
  | .release l => i = (.escapementRelease l)
  | .interrupt k => i = (.interruptEntry k)
  | .switch k => i = (.contextSwitchEntry k)
  | .layout e => i = (.layoutAdmit (e / 4) (e % 4))
  | .issue _ => False
  | .ring k => i = (.ringUpdate k)
  | .op4 k => i = (.op4Stage k)
  | .macc k => i = (.maccWrite k)
  | .rmw k => i = (.rmwWrite k)
  | .fill k j => i = (.streamFill k j)
  | .land k j => i = (.copyGroupLand k j)
  | .readout k j => i = (.balReadoutLand k j)
  | .halo k j => i = (.balHaloLand k j)
  | .balUpdate k => i = (.balPhaseUpdate k)
  | .balRelease k => i = (.balBarrierRelease k)
  | .spawnAnswer k => i = (.spawnAnswer k)

/-- The fetch of a tile reads 32 bytes of its local store, the lowest byte in the low bits: no loop buffer holds the bundle
and no byte has been written in the last three cycles (R28, R87, R394). -/
def plainFetch (s : State) (k : Nat) : Prop :=
  (s.tile k).pc.toNat < 3072 ∧ (s.tile k).depth = 0 ∧ (s.tile k).recent = []

end Sys2Proof.Claims

/-- Words written out from Tables 3-1 to 3-5 decode to what they stand for: `#0 -> cu.halt`, `#15 -> sy.chkerr`, one trigger
of every other socket; two triggers make a bundle. A reserved header bit, guard 8, a reserved code, a wide source in a narrow
slot, a literal without L, and bits in an empty slot are each refused by name (R87 to R101, R115, R143). -/
def Obligations.DecodeWords : Prop :=
  decode (Claims.words45 0x20D00000 0x400) = .ok (.cuHalt (Claims.plainMove 0x400)) ∧
  decode (Claims.words45 0xC0800000 0x40F) = .ok (.syChkerr (Claims.plainMove 0x40F)) ∧
  decode (Claims.words45 0x30100000 0x005) = .ok (.iaSub false (Claims.plainMove 5)) ∧
  decode (Claims.words45 0x40B00000 0x005) = .ok (.iaRol true (Claims.plainMove 5)) ∧
  decode (Claims.words45 0x50400000 0x03F) = .ok (.mdDiv (Claims.plainMove 63)) ∧
  decode (Claims.words45 0x60200000 0x00B) = .ok (.agSeg (Claims.plainMove 11)) ∧
  decode (Claims.words45 0x71600000 0x007) = .ok (.lsRmwadd (Claims.plainMove 7)) ∧
  decode (Claims.words45 0x80300000 0x007) = .ok (.vuFma (Claims.plainMove 7)) ∧
  decode (Claims.words45 0x90100000 0x500) = .ok (.mxOp4z (Claims.plainMove 0x500)) ∧
  decode (Claims.words45 0xA1700000 0x000) = .ok (.chLayout (Claims.plainMove 0)) ∧
  decode (Claims.words45 0xB0500000 0x7FF) = .ok (.balSweep (Claims.plainMove 0x7FF)) ∧
  decode (Claims.words45 0xD0700000 0x402) = .ok (.kyFuserd (Claims.plainMove 0x402)) ∧
  decode (Claims.words45 0xE0500000 0x067) = .ok (.qsQstat (Claims.plainMove 0x67)) ∧
  decode (Claims.bundleWords [0x00000700 + 0x20, 0, 0, 0, 0x20D30000, 0x400, 0, 0]) =
    .ok (.cuHalt { gap := 7, s := true, slot := 4, src := 0x400, grd := 3 }) ∧
  decode (Claims.bundleWords [0x1F, 0, 0, 0, 0x20100000, 0xFFF, 0, 0xFFFFFFF0]) =
    .ok (.cuJrel { slot := 4, src := 0xFFF, lit := some 0xFFFFFFFF }) ∧
  (let b := Claims.words45 0x40100000 0x95040004
   decode b = .ok (.bundleIssue (bundleOfBits b)) ∧ (bundleMoves (bundleOfBits b)).map (fun x => (x.1, x.2.src.toNat, x.2.dst.toNat)) =
     [(4, 4, 0x401), (5, 9, 0x504)]) ∧
  decode (Claims.bundleWords [0x10000, 0, 0, 0, 0x20D00000, 0x400, 0, 0]) = .error .headerField ∧
  decode (Claims.words45 0x20D80000 0x400) = .error (.guardEight 4) ∧
  decode (Claims.words45 0x20D00000 0x068) = .error (.sourceReserved 4 0x068) ∧
  decode (Claims.words45 0x21200000 0x400) = .error (.destinationReserved 4 0x212) ∧
  decode (Claims.words45 0x20D00000 0xFFF) = .error (.literalWithoutL 4) ∧
  decode (Claims.words45 0x20D00000 0x040) = .error (.wideInNarrowSlot 4 0x040) ∧
  decode (Claims.words45 0 0x400) = .error (.emptySlotBits 4 0x400)

/-- The decoder and the encoder agree: every word that decodes is the encoding of a well-formed instruction, every encoding of
one decodes to it, and exactly the bundles and the rows of the sockets have encodings (R87 to R101). -/
def Obligations.DecodeEncode : Prop :=
  (∀ w i, decode w = .ok i → i.wf = true ∧ encode i = some w) ∧
  (∀ i w, i.wf = true → encode i = some w → decode w = .ok i) ∧
  (∀ w w', decode w = decode w' → ∀ i, decode w = .ok i → w = w') ∧
  (∀ code m i, rowOf code m = some i → (encode i).isSome = true) ∧
  ∀ b, (encode (.bundleIssue b)).isSome = true

/-- A step: the step of hardware that is due first, run by its row; where that is the issue of a tile's bundle, the instruction
that its word decodes to, or the bundle as it stands when it is illegal, with the tile as that of the turn; else the first
event of the agenda whose cycle has come; else the next cycle. Held in reset the module does not step. No row but a trigger's
ends otherwise than in a next state, whatever the state and the operands (R6, R87, R115, R535). -/
def Obligations.StepRunsDecoded : Prop :=
  ∀ (s : State),
    (s.bu.heldInReset = false →
      (∀ k, s.due = some (.issue k) →
        let w := s.fetchWord k
        let t : State := { s with cur := k, free := s.free + 1 }
        (∀ i, decode w = .ok i → step s = exec i t) ∧
        (∀ e, decode w = .error e → step s = exec (.bundleIssue (bundleOfBits w)) t) ∧
        (Claims.plainFetch s k → w = BitVec.ofNat 256 ((s.tile k).ls.num (32 * (s.tile k).pc.toNat) 32))) ∧
      (∀ d i, s.due = some d → Claims.runBy d i → step s = exec i s) ∧
      (∀ c i l, s.due = none → s.agenda = (c, .event i) :: l →
        (c ≤ s.clk → step s = exec i { s with agenda := l }) ∧ (s.clk < c → ∃ s', step s = .next s' ∧ s'.clk = s.clk + 1)) ∧
      (s.due = none → s.agenda = [] → s.fw.mbQueue = [] → s.br.ualHeld = [] → s.br.hostHeld = [] → s.rel.owed = [] → ∃ s', step s = .next s' ∧ s'.clk = s.clk + 1 ∧ s'.free = s.free ∧ s'.launches = s.launches ∧
        s'.bank = s.bank ∧ s'.bu = { s.bu with dialAcc := s.bu.dialAcc + (10 * (10 ^ 9 + s.bu.rate.toInt)).toNat, dialWas := none })) ∧
    (s.bu.heldInReset = true → s.agenda = [] → step s = .fault .heldInReset) ∧
    (∀ i, codeOf i = none → ∃ s', exec i s = .next s')

/-- What reset leaves: no launch, object or ring holds anything, no memory lists a byte, the control registers of every tile
have the values of Table 1-5, Crown A is active and Crown B in reset, and the registers of the module have the values of Tables
17-7, 18-8, 19-6, 20-7, 21-7 and 22-2 (R29, R509, R527). That memory lists no byte is the model's choice (entry 4 of the log). -/
def Obligations.ResetState : Prop :=
  let r := State.reset
  r.memWf = true ∧ r.tiles = [] ∧ r.launches = [] ∧ r.objects = [] ∧ r.engines = [] ∧ r.rings = [] ∧ r.queues = [] ∧
  r.bank = [] ∧ r.csram = [] ∧ r.rsram = [] ∧ r.host = [] ∧ r.pod = [] ∧ (∀ d < 16, r.hbmOf d = []) ∧ (∀ p, r.bankOwnerOf p = 0xFFFF) ∧
  (∀ k, let t := r.tile k
    t.launch = none ∧ t.run = .unplaced ∧ t.tstat = 1 ∧ t.sup = true ∧ t.tvec = 0xB80 ∧ t.relmask = 0xFFFF ∧ t.tctl = 0 ∧
    t.depth = 0 ∧ (∀ c ∈ [t.vctl, t.vstat, t.cir, t.beta, t.segt, t.fmtt, t.spcnt, t.mxown, t.tcause, t.tepc], c = 0)) ∧
  r.feCtrl = 0 ∧ r.schAge = 1000000 ∧ r.schSlice = 0 ∧ r.schReserve = 10000 ∧ r.schQslice = 0x0A40 ∧
  r.xl.live = 0 ∧ r.xl.lock = false ∧ r.xl.tree = false ∧ r.xl.gens = [] ∧ r.br.id = 0x3FF ∧ r.br.lock = false ∧ r.br.cen = false ∧
  r.br.keys = [] ∧ r.rel.scrub = 24 ∧ r.rel.cethr = 16 ∧ r.rel.dual = 0x00030064 ∧ r.rel.repthr = 64 ∧ r.rel.retired = [] ∧
  r.rel.evEn = false ∧ r.fw.act = 0 ∧ r.fw.sb = .reset ∧ r.fw.phase = .idle ∧ r.fw.hang = false ∧ r.fw.pod = none ∧
  (∀ i < 32, i ≠ 0 → i ≠ 2 → vget 0 r.fw.blocks i = 0) ∧ r.bu.ready = 0 ∧ r.bu.failed = 0 ∧ r.bu.dial = 0 ∧ r.bu.adj = 0 ∧
  r.bu.budget = 7200 ∧ r.bu.base = 1302 ∧ r.bu.tile = 36 ∧ r.bu.ttrip = 100 ∧ r.bu.heldInReset = false

/-- Every step keeps every memory of the module in its canonical form: addresses strictly rising, no listed byte zero. The
memories are bank memory, crown and reduction SRAM, the host's and the other devices' memory, the HBM halves, every tile's local store and that of
every context swapped out. -/
def Obligations.MemoriesStayCanonical : Prop :=
  ∀ (s : State), s.memWf = true → ∀ s', step s = .next s' → s'.memWf = true
end

