-- ==== Sys2Proof/Laws/Issue.lean ====
section
/-! SUPPORT. What the issue of the bundle around one trigger does, said once for every operation. -/

namespace Sys2Proof.Machine

theorem tabGet_tabSet {α : Type} (d : α) (l : List (Nat × α)) (k : Nat) (a : α) : tabGet d (tabSet l k a) k = a := by
  induction l with
  | nil => simp [tabSet, tabGet]
  | cons x l ih =>
    obtain ⟨j, b⟩ := x
    simp only [tabSet]
    split
    · simp [tabGet]
    · split
      · simp [tabGet]
      · simp only [tabGet]; split
        · omega
        · exact ih

theorem tabSet_tabSet {α : Type} (l : List (Nat × α)) (k : Nat) (a b : α) : tabSet (tabSet l k a) k b = tabSet l k b := by
  induction l with
  | nil => simp [tabSet]
  | cons x l ih =>
    obtain ⟨j, c⟩ := x
    simp only [tabSet]
    split
    · simp [tabSet]
    · split
      · simp [tabSet]
      · rename_i h1 h2; simp only [tabSet, h1, h2, if_false, ih]

theorem tabGet_tabSet_ne {α : Type} (d : α) (l : List (Nat × α)) {k i : Nat} (a : α) (h : i ≠ k) :
    tabGet d (tabSet l k a) i = tabGet d l i := by
  induction l with
  | nil => simp [tabSet, tabGet, Ne.symm h]
  | cons x l ih =>
    obtain ⟨j, c⟩ := x
    simp only [tabSet]
    split
    · simp [tabGet, Ne.symm h]
    · split
      · rename_i h2; subst h2; simp [tabGet, Ne.symm h]
      · simp only [tabGet, ih]

@[simp] theorem tile_setTile (s : State) (k : Nat) (t : Tile) : (s.setTile k t).tile k = t := tabGet_tabSet ..
@[simp] theorem setTile_setTile (s : State) (k : Nat) (t u : Tile) : (s.setTile k t).setTile k u = s.setTile k u := by
  simp [State.setTile, tabSet_tabSet]
theorem tile_setTile_ne (s : State) {k i : Nat} (t : Tile) (h : i ≠ k) : (s.setTile k t).tile i = s.tile i :=
  tabGet_tabSet_ne _ _ _ h
@[simp] theorem setTile_modTile (s : State) (k : Nat) (t : Tile) (f : Tile → Tile) :
    (s.setTile k t).modTile k f = s.setTile k (f t) := by simp [State.modTile]

/-- The bundle around a trigger has that one move. -/
theorem bundleMoves_moveBundle {code : Nat} {m : TrigMove} (hc : BitVec.ofNat 12 code ≠ 0)
    (hl : m.lit.isNone || decide (m.slot.toNat < 7)) :
    bundleMoves (moveBundle code m) = [(m.slot.toNat, { src := m.src, dst := BitVec.ofNat 12 code, grd := m.grd })] := by
  obtain ⟨gap, sb, slot, src, grd, lit⟩ := m
  have hc' : (BitVec.ofNat 12 code = 0#12) = False := eq_false hc
  have hs : slot.toNat < 8 := slot.isLt
  generalize hn : slot.toNat = n at *
  cases lit with
  | none =>
    interval_cases n <;>
      simp [bundleMoves, bundleSlots, bundleNums, bundleSlot, moveBundle, moveSlot, slotEmpty, vget, hn, hc']
  | some a =>
    have : n < 7 := by simpa using hl
    interval_cases n <;>
      simp [bundleMoves, bundleSlots, bundleNums, bundleSlot, moveBundle, moveSlot, slotEmpty, vget, hn, hc']

theorem dstOf_trig {crown : Bool} {code k : Nat} (h : dstOf crown code = .trig k) : 0x200 ≤ code ∧ code < 0xF00 := by
  unfold dstOf at h
  split at h; · simp at h
  split at h; · simp at h
  split at h; · simp at h
  split at h; · simp at h
  split at h; · simp at h
  split at h
  · dsimp only at h; split at h <;> simp at h
  split at h
  · constructor <;> omega
  · simp at h

theorem code_toNat {crown : Bool} {code k : Nat} (h : dstOf crown code = .trig k) : (BitVec.ofNat 12 code).toNat = code := by
  have := dstOf_trig h
  rw [BitVec.toNat_ofNat, Nat.mod_eq_of_lt]; omega

theorem code_ne {crown : Bool} {code k : Nat} (h : dstOf crown code = .trig k) : BitVec.ofNat 12 code ≠ 0 := by
  intro h0
  have h1 := congrArg BitVec.toNat h0
  rw [code_toNat h] at h1
  have := dstOf_trig h
  simp at h1; omega

theorem bundleLit_some (code : Nat) {m : TrigMove} {a : Word} (h : m.lit = some a) : bundleLit (moveBundle code m) = a := by
  simp only [bundleLit, bundleSlot, moveBundle, moveSlot, h, vget]
  apply BitVec.eq_of_toNat_eq
  have := a.isLt
  simp [litSlot, Nat.shiftRight_eq_div_pow]
  omega

theorem srcOf_literal {crown : Bool} {c : Nat} (h : srcOf crown c = .literal) : c = 0xFFF := by
  unfold srcOf at h
  by_contra hc
  simp only [if_neg hc] at h
  repeat' split at h
  all_goals simp at h

theorem moveViolation_literal {strm : Nat → Bool} {bf : List (Nat × Slot)} {k : Nat} {sl : Slot}
    (hs : sl.src.toNat = 0xFFF) : moveViolation true strm false bf k sl ≠ none := by
  have h1 : srcOf true sl.src.toNat = .literal := by rw [hs]; rfl
  intro h
  simp [moveViolation, h1] at h
  split at h
  · simp at h
  · split at h <;> simp at h

theorem slotsViolation_none {crown : Bool} {strm : Nat → Bool} {l : Bool} {ss : List (Nat × Slot)}
    {bf : List (Nat × Slot)} (h : slotsViolation crown strm l bf ss = none) :
    ∀ x ∈ ss, ∃ bf', slotViolation crown strm l bf' x.1 x.2 = none := by
  induction ss generalizing bf with
  | nil => simp
  | cons y ss ih =>
    obtain ⟨k, sl⟩ := y
    simp only [slotsViolation] at h
    split at h
    · simp at h
    · rename_i h0
      intro x hx
      rcases List.mem_cons.1 hx with rfl | hx
      · exact ⟨bf, h0⟩
      · exact ih h x hx

theorem src_ne_literal {code : Nat} {m : TrigMove} (hc : BitVec.ofNat 12 code ≠ 0) (h : wfTrig code m = true)
    (hl : m.lit = none) : m.src.toNat ≠ 0xFFF := by
  intro hs
  simp only [wfTrig, Bool.and_eq_true, Option.isNone_iff_eq_none] at h
  obtain ⟨h1, h2⟩ := h
  have hm := bundleMoves_moveBundle hc h1
  simp only [violation] at h2
  split at h2
  · simp at h2
  · have hmem : (m.slot.toNat, ({ src := m.src, dst := BitVec.ofNat 12 code, grd := m.grd } : Slot)) ∈
        bundleMoves (moveBundle code m) := by simp [hm]
    simp only [bundleMoves, List.mem_filter] at hmem
    obtain ⟨bf, hbf⟩ := slotsViolation_none h2 _ hmem.1
    have he : slotEmpty ({ src := m.src, dst := BitVec.ofNat 12 code, grd := m.grd } : Slot) = false := by
      simpa using hmem.2
    simp only [slotViolation, he] at hbf
    have : (moveBundle code m).l = false := by simp [moveBundle, hl]
    rw [this] at hbf
    exact moveViolation_literal (sl := { src := m.src, dst := BitVec.ofNat 12 code, grd := m.grd }) hs
      (by simpa using hbf)

/-- The move's source is read the same with the bundle's literal as with the move's own. -/
theorem readSrc_lit {code : Nat} {m : TrigMove} (hc : BitVec.ofNat 12 code ≠ 0) (h : wfTrig code m = true)
    (t pre : Tile) (clk w hh : Nat) (crown : Bool) :
    t.readSrc pre clk w hh (bundleLit (moveBundle code m)) (srcOf crown m.src.toNat) =
      t.readSrc pre clk w hh (m.lit.getD 0) (srcOf crown m.src.toNat) := by
  cases hl : m.lit with
  | some a => rw [bundleLit_some code hl, Option.getD_some]
  | none =>
    have := src_ne_literal hc h hl
    cases hs : srcOf crown m.src.toNat with
    | literal => exact absurd (srcOf_literal hs) this
    | _ => simp only [Tile.readSrc]

theorem sock_countPassed (t : Tile) (k : Nat) : t.countPassed.sock k = t.sock k := rfl

theorem consume_readSocks (crown : Bool) (k : Nat) (sl : Slot) (t : Tile) :
    (readSocks crown [(k, sl)]).foldl (fun t k => t.consume k) t = t.afterSrc (srcOf crown sl.src.toNat) := by
  simp only [readSocks, List.foldl]
  cases srcOf crown sl.src.toNat <;> rfl

/-- The issue of the bundle around a trigger runs the trigger's operation, and its answer is what the issue comes to. -/
theorem issueOne_starts {s : State} {code : Nat} {m : TrigMove} {v : Wide} {t : Tile} (h : Starts s code m v t)
    (op : OpFn) :
    s.issueOne code op m =
      s.conclude s.cur s.me.pc (moveBundle code m)
        (({ s := s.setTile s.cur t } : Run).add (op (s.ctx code m v t) (s.setTile s.cur t))) := by
  have hc := code_ne h.exists_
  have hn := code_toNat h.exists_
  have hleg := h.legal
  simp only [wfTrig, Bool.and_eq_true] at hleg
  have hms : s.me.takingMoves (moveBundle code m) =
      [(m.slot.toNat, { src := m.src, dst := BitVec.ofNat 12 code, grd := m.grd })] := by
    rw [Tile.takingMoves, bundleMoves_moveBundle hc hleg.1]; simp [h.takes]
  have hr := h.ready
  simp only [State.sourced, Option.map_eq_some_iff] at hr
  obtain ⟨⟨v0, t1⟩, hr1, hr2⟩ := hr
  simp only [Prod.mk.injEq] at hr2
  obtain ⟨rfl, rfl⟩ := hr2
  have hroom := h.room
  rw [sock_countPassed] at hroom
  have hd : readsDial [(m.slot.toNat, ({ src := m.src, dst := BitVec.ofNat 12 code, grd := m.grd } : Slot))] =
      decide (m.src.toNat = 0x110) := by simp [readsDial]
  have hs0 : (if decide (m.src.toNat = 0x110) = true then { s.me with dialSample := s.dialNow } else s.me) = s.sampled m := by
    simp [State.sampled]
  have hread : (s.sampled m).readMoves (s.sampled m) s.clk s.myW s.myH (bundleLit (moveBundle code m)) (isCrown s.cur)
      [(m.slot.toNat, { src := m.src, dst := BitVec.ofNat 12 code, grd := m.grd })] =
      some ([(m.slot.toNat, code, v0)], t1) := by
    have := readSrc_lit hc h.legal (s.sampled m) (s.sampled m) s.clk s.myW s.myH (isCrown s.cur)
    simp only [State.mySrc] at hr1
    simp only [Tile.readMoves, this, hr1, hn]
  have htrig : triggersOf (isCrown s.cur) [(m.slot.toNat, code, v0)] = [(m.slot.toNat, code, v0)] := by
    simp [triggersOf, h.exists_]
  have hfirst : s.me.firstEmpty (isCrown s.cur)
      [(m.slot.toNat, { src := m.src, dst := BitVec.ofNat 12 code, grd := m.grd })] = none := by
    have := h.some_
    simp only [State.mySrc] at this
    simp [Tile.firstEmpty, List.find?, this]
  have hfull : (t1.afterSrc (s.mySrc m)).full [(m.slot.toNat, code, v0)] = false := by
    simp only [Tile.full, List.any_cons, List.any_nil, Bool.or_false, Bool.and_eq_false_iff, decide_eq_false_iff_not]
    cases hh : hasResult code with
    | false => simp
    | true => right; have := hroom hh; omega
  have hmove : ∀ t : Tile, t.makeMoves (isCrown s.cur) [(m.slot.toNat, code, v0)] = t := fun t => by
    simp [Tile.makeMoves, h.exists_, Tile.writeDst]
  have hperf : s.perform s.cur (fun _ => op) (moveBundle code m) = s.conclude s.cur s.me.pc (moveBundle code m)
      (runOps (fun _ => op) s.cur s.me (t1.afterSrc (s.mySrc m)).countPassed s.me.pc (moveBundle code m).gap.toNat
        (s.setTile s.cur (t1.afterSrc (s.mySrc m)).countPassed) [(m.slot.toNat, code, v0)]) := by
    have hw := h.window
    have hsrc : srcOf (isCrown s.cur) m.src.toNat = s.mySrc m := rfl
    unfold State.perform
    change (if s.me.windowWait = true then _ else _) = _
    rw [hw]
    simp only [Bool.false_eq_true, if_false]
    change (match Tile.readMoves (if readsDial (s.me.takingMoves (moveBundle code m)) = true then
      { s.me with dialSample := s.dialNow } else s.me) (if readsDial (s.me.takingMoves (moveBundle code m)) = true then
      { s.me with dialSample := s.dialNow } else s.me) s.clk s.myW s.myH _ _ (s.me.takingMoves (moveBundle code m)) with
      | none => _ | some (_, _) => _) = _
    rw [hms, hd, hs0, hread]
    dsimp only
    change (match s.me.firstEmpty (isCrown s.cur) (s.me.takingMoves (moveBundle code m)) with | some _ => _ | none => _) = _
    rw [hms, hfirst]
    dsimp only
    have hms' : (s.tile s.cur).takingMoves (moveBundle code m) =
      [(m.slot.toNat, { src := m.src, dst := BitVec.ofNat 12 code, grd := m.grd })] := hms
    rw [hms', consume_readSocks]
    dsimp only
    rw [hsrc, htrig, hfull, hmove]
    rfl
  unfold State.issueOne State.issueWith
  have hrun := h.runs
  have hcl := h.clean
  simp only [State.me] at hcl
  simp only [hrun, hcl, Bool.not_true, Bool.false_eq_true, if_false]
  rw [hperf]
  simp only [runOps, List.foldl, runOp]
  rw [h.launched, h.allowed]
  rfl

/-- An operation that goes on ends the issue. -/
theorem issueOne_go {s : State} {code : Nat} {m : TrigMove} {v : Wide} {t : Tile} (h : Starts s code m v t)
    {op : OpFn} {s' : State} {e : Eff} (ho : op (s.ctx code m v t) (s.setTile s.cur t) = .go s' e) :
    s.issueOne code op m = s'.endIssue s.cur s.me.pc (moveBundle 0 m) (({} : Eff).join e) := by
  rw [issueOne_starts h, ho]; rfl

/-- An operation that traps takes its trap, with nothing of the bundle done (R102). -/
theorem issueOne_trap {s : State} {code : Nat} {m : TrigMove} {v : Wide} {t : Tile} (h : Starts s code m v t)
    {op : OpFn} {x : Trap} (ho : op (s.ctx code m v t) (s.setTile s.cur t) = .trap x) :
    s.issueOne code op m = s.takeTrap s.cur x := by
  rw [issueOne_starts h, ho]; rfl

/-- An operation that only changes its tile. -/
theorem issueOne_ok {s : State} {code : Nat} {m : TrigMove} {v : Wide} {t : Tile} (h : Starts s code m v t)
    {op : OpFn} {f : Tile → Tile} (ho : op (s.ctx code m v t) (s.setTile s.cur t) =
      (s.ctx code m v t).ok (s.setTile s.cur t) f) : s.issueOne code op m = s.issued m (f t) := by
  have h1 : op (s.ctx code m v t) (s.setTile s.cur t) = .go (s.setTile s.cur (f t)) {} := by
    rw [ho]; simp [Ctx.ok, State.ctx]
  rw [issueOne_go h h1]; rfl

end Sys2Proof.Machine
end

