-- ==== Sys2Proof/Laws/Memory.lean ====
section
/-! SUPPORT. The laws of memories: every operation keeps the canonical form, a read after a write gives what was written, and
every other byte stays. -/

namespace Sys2Proof.Machine

/-! ### The canonical form -/

theorem Memory.wfFrom_mono {m : Memory} : ∀ {lo hi : Nat}, lo ≤ hi → Memory.wfFrom hi m = true → Memory.wfFrom lo m = true := by
  cases m with
  | nil => intros; rfl
  | cons c m =>
    intro lo hi h
    simp only [Memory.wfFrom, Bool.and_eq_true, decide_eq_true_eq]
    exact fun ⟨⟨h1, h2⟩, h3⟩ => ⟨⟨h.trans h1, h2⟩, h3⟩

theorem Memory.wfFrom_list {m : Memory} {a : Nat} {b : Byte} (hb : b ≠ 0) :
    ∀ {lo : Nat}, lo ≤ a → Memory.wfFrom lo m = true → Memory.wfFrom lo (m.list a b) = true := by
  induction m with
  | nil => intro lo h _; simpa [Memory.list, Memory.wfFrom, h] using hb
  | cons c m ih =>
    intro lo h hm
    simp only [Memory.wfFrom, Bool.and_eq_true, decide_eq_true_eq] at hm
    obtain ⟨⟨h1, h2⟩, h3⟩ := hm
    simp only [Memory.list]
    split
    · rename_i h4
      simp only [Memory.wfFrom, Bool.and_eq_true, decide_eq_true_eq]
      exact ⟨⟨h, hb⟩, ⟨by omega, h2⟩, h3⟩
    · split
      · rename_i h5
        simp only [Memory.wfFrom, Bool.and_eq_true, decide_eq_true_eq]
        exact ⟨⟨h, hb⟩, h5 ▸ h3⟩
      · simp only [Memory.wfFrom, Bool.and_eq_true, decide_eq_true_eq]
        exact ⟨⟨h1, h2⟩, ih (by omega) h3⟩

theorem Memory.wfFrom_filter {m : Memory} (p : Host.Cell → Bool) :
    ∀ {lo : Nat}, Memory.wfFrom lo m = true → Memory.wfFrom lo (m.filter p) = true := by
  induction m with
  | nil => intros; rfl
  | cons c m ih =>
    intro lo hm
    simp only [Memory.wfFrom, Bool.and_eq_true, decide_eq_true_eq] at hm
    obtain ⟨⟨h1, h2⟩, h3⟩ := hm
    by_cases hp : p c = true
    · simp only [List.filter_cons_of_pos hp, Memory.wfFrom, Bool.and_eq_true, decide_eq_true_eq]
      exact ⟨⟨h1, h2⟩, ih h3⟩
    · rw [List.filter_cons_of_neg hp]
      exact Memory.wfFrom_mono (by omega) (ih h3)

/-- Setting a byte keeps the canonical form. -/
theorem Memory.wf_set {m : Memory} (h : m.wf = true) (a : Nat) (b : Byte) : (m.set a b).wf = true := by
  unfold Memory.set Memory.wf
  split
  · exact Memory.wfFrom_filter _ h
  · rename_i hb; exact Memory.wfFrom_list hb (Nat.zero_le _) h

/-- Writing bytes keeps the canonical form. -/
theorem Memory.wf_write (bs : List Byte) : ∀ {m : Memory} (_ : m.wf = true) (a : Nat), (m.write a bs).wf = true := by
  induction bs with
  | nil => intro m h _; exact h
  | cons b bs ih => intro m h a; exact ih (Memory.wf_set h a b) (a + 1)

/-- Keeping some of the bytes keeps the canonical form. -/
theorem Memory.wf_filter {m : Memory} (h : m.wf = true) (p : Host.Cell → Bool) : Memory.wf (m.filter p) = true :=
  Memory.wfFrom_filter p h

/-- The memories of reset have the canonical form. -/
theorem reset_memories_wf :
    State.reset.bank.wf = true ∧ State.reset.csram.wf = true ∧ State.reset.rsram.wf = true ∧ State.reset.host.wf = true ∧
    (∀ d, Memory.wf (vget [] State.reset.hbm d) = true) ∧ ∀ k, (State.reset.tile k).ls.wf = true := by
  refine ⟨rfl, rfl, rfl, rfl, fun d => ?_, fun k => rfl⟩
  have : vget [] State.reset.hbm d = ([] : Memory) := by
    simp only [State.reset, vget]
    by_cases hd : d < 16
    · simp [hd]
    · simp [hd]
  rw [this]; rfl

/-! ### Reading after writing -/

theorem Memory.get_of_lt {m : Memory} : ∀ {lo a : Nat}, Memory.wfFrom lo m = true → a < lo → m.get a = 0 := by
  induction m with
  | nil => intros; rfl
  | cons c m ih =>
    intro lo a hm h
    simp only [Memory.wfFrom, Bool.and_eq_true, decide_eq_true_eq] at hm
    obtain ⟨⟨h1, _⟩, h3⟩ := hm
    simp only [Memory.get]
    split
    · omega
    · exact ih h3 (by omega)

theorem Memory.get_list (m : Memory) (a i : Nat) (b : Byte) : (m.list a b).get i = if i = a then b else m.get i := by
  induction m with
  | nil => simp only [Memory.list, Memory.get]; split <;> split <;> first | rfl | omega
  | cons c m ih =>
    simp only [Memory.list]
    split
    · simp only [Memory.get]; split <;> split <;> first | rfl | omega | (split <;> first | rfl | omega)
    · split
      · rename_i h5
        simp only [Memory.get]; split <;> split <;> first | rfl | omega | (split <;> first | rfl | omega)
      · simp only [Memory.get, ih]; split <;> split <;> first | rfl | omega

theorem Memory.get_filter_ne (m : Memory) (a i : Nat) :
    Memory.get (m.filter fun c => decide (c.1 ≠ a)) i = if i = a then 0 else m.get i := by
  induction m with
  | nil => simp [Memory.get]
  | cons c m ih =>
    by_cases hc : c.1 = a
    · rw [List.filter_cons_of_neg (by simp [hc]), ih]
      simp only [Memory.get]; split
      · rfl
      · split
        · omega
        · rfl
    · rw [List.filter_cons_of_pos (by simp [hc])]
      simp only [Memory.get, ih]; split <;> split <;> first | rfl | omega

/-- A byte set reads as what was set, and every other byte as before. -/
theorem Memory.get_set (m : Memory) (a i : Nat) (b : Byte) : (m.set a b).get i = if i = a then b else m.get i := by
  unfold Memory.set
  split
  · rename_i hb; rw [Memory.get_filter_ne, hb]
  · exact Memory.get_list ..

/-- A byte below or above the bytes written reads as before. -/
theorem Memory.get_write_ne (bs : List Byte) :
    ∀ (m : Memory) {a i : Nat}, i < a ∨ a + bs.length ≤ i → (m.write a bs).get i = m.get i := by
  induction bs with
  | nil => intros; rfl
  | cons b bs ih =>
    intro m a i h
    simp only [List.length_cons] at h
    rw [Memory.write, ih _ (by omega), Memory.get_set, if_neg (by omega)]

/-- A byte written reads as what was written. -/
theorem Memory.get_write (bs : List Byte) :
    ∀ (m : Memory) (a : Nat) {i : Nat} (h : i < bs.length), (m.write a bs).get (a + i) = bs[i] := by
  induction bs with
  | nil => intro _ _ _ h; exact absurd h (Nat.not_lt_zero _)
  | cons b bs ih =>
    intro m a i h
    cases i with
    | zero => rw [Memory.write, Memory.get_write_ne _ _ (.inl (by omega)), Memory.get_set, if_pos (by omega)]; rfl
    | succ i =>
      rw [Memory.write, show a + (i + 1) = a + 1 + i by omega, ih _ _ (by simpa using h)]; rfl

end Sys2Proof.Machine
end

