-- ==== Sys2Proof/Laws/PerInstr.lean ====
section
/-! SUPPORT. For each instruction as syntax: the row of its code is the instruction itself (Table 5-3, R97). -/

namespace Sys2Proof.Laws.RowOfCode

/-- The code that stands for an instruction names the row of that instruction. -/
def Statement (i : Instr) : Prop := ∀ code m, codeOf i = some (code, m) → rowOf code m = some i

theorem bundleIssue (b : Bundle) : Statement (.bundleIssue b) := nofun
theorem cuJmp (m : TrigMove) : Statement (.cuJmp m) := by rintro _ _ ⟨⟩; rfl
theorem cuJrel (m : TrigMove) : Statement (.cuJrel m) := by rintro _ _ ⟨⟩; rfl
theorem cuJtab (m : TrigMove) : Statement (.cuJtab m) := by rintro _ _ ⟨⟩; rfl
theorem cuCall (m : TrigMove) : Statement (.cuCall m) := by rintro _ _ ⟨⟩; rfl
theorem cuCallrel (m : TrigMove) : Statement (.cuCallrel m) := by rintro _ _ ⟨⟩; rfl
theorem cuCalltab (m : TrigMove) : Statement (.cuCalltab m) := by rintro _ _ ⟨⟩; rfl
theorem cuRet (m : TrigMove) : Statement (.cuRet m) := by rintro _ _ ⟨⟩; rfl
theorem cuLoop (m : TrigMove) : Statement (.cuLoop m) := by rintro _ _ ⟨⟩; rfl
theorem cuLoopi (m : TrigMove) : Statement (.cuLoopi m) := by rintro _ _ ⟨⟩; rfl
theorem cuLoopnext (m : TrigMove) : Statement (.cuLoopnext m) := by rintro _ _ ⟨⟩; rfl
theorem cuLoopexit (m : TrigMove) : Statement (.cuLoopexit m) := by rintro _ _ ⟨⟩; rfl
theorem cuNextwork (m : TrigMove) : Statement (.cuNextwork m) := by rintro _ _ ⟨⟩; rfl
theorem cuSync (m : TrigMove) : Statement (.cuSync m) := by rintro _ _ ⟨⟩; rfl
theorem cuHalt (m : TrigMove) : Statement (.cuHalt m) := by rintro _ _ ⟨⟩; rfl
theorem cuTrap (m : TrigMove) : Statement (.cuTrap m) := by rintro _ _ ⟨⟩; rfl
theorem cuBrk (m : TrigMove) : Statement (.cuBrk m) := by rintro _ _ ⟨⟩; rfl
theorem cuLoopidx (m : TrigMove) : Statement (.cuLoopidx m) := by rintro _ _ ⟨⟩; rfl
theorem cuLoopcnt (m : TrigMove) : Statement (.cuLoopcnt m) := by rintro _ _ ⟨⟩; rfl
theorem iaAdd (u : Bool) (m : TrigMove) : Statement (.iaAdd u m) := by rintro _ _ ⟨⟩; cases u <;> rfl
theorem iaSub (u : Bool) (m : TrigMove) : Statement (.iaSub u m) := by rintro _ _ ⟨⟩; cases u <;> rfl
theorem iaAdds (u : Bool) (m : TrigMove) : Statement (.iaAdds u m) := by rintro _ _ ⟨⟩; cases u <;> rfl
theorem iaSubs (u : Bool) (m : TrigMove) : Statement (.iaSubs u m) := by rintro _ _ ⟨⟩; cases u <;> rfl
theorem iaAnd (u : Bool) (m : TrigMove) : Statement (.iaAnd u m) := by rintro _ _ ⟨⟩; cases u <;> rfl
theorem iaOr (u : Bool) (m : TrigMove) : Statement (.iaOr u m) := by rintro _ _ ⟨⟩; cases u <;> rfl
theorem iaXor (u : Bool) (m : TrigMove) : Statement (.iaXor u m) := by rintro _ _ ⟨⟩; cases u <;> rfl
theorem iaAndn (u : Bool) (m : TrigMove) : Statement (.iaAndn u m) := by rintro _ _ ⟨⟩; cases u <;> rfl
theorem iaShl (u : Bool) (m : TrigMove) : Statement (.iaShl u m) := by rintro _ _ ⟨⟩; cases u <;> rfl
theorem iaShr (u : Bool) (m : TrigMove) : Statement (.iaShr u m) := by rintro _ _ ⟨⟩; cases u <;> rfl
theorem iaSar (u : Bool) (m : TrigMove) : Statement (.iaSar u m) := by rintro _ _ ⟨⟩; cases u <;> rfl
theorem iaRol (u : Bool) (m : TrigMove) : Statement (.iaRol u m) := by rintro _ _ ⟨⟩; cases u <;> rfl
theorem iaMin (u : Bool) (m : TrigMove) : Statement (.iaMin u m) := by rintro _ _ ⟨⟩; cases u <;> rfl
theorem iaMax (u : Bool) (m : TrigMove) : Statement (.iaMax u m) := by rintro _ _ ⟨⟩; cases u <;> rfl
theorem iaMinu (u : Bool) (m : TrigMove) : Statement (.iaMinu u m) := by rintro _ _ ⟨⟩; cases u <;> rfl
theorem iaMaxu (u : Bool) (m : TrigMove) : Statement (.iaMaxu u m) := by rintro _ _ ⟨⟩; cases u <;> rfl
theorem iaEq (u : Bool) (m : TrigMove) : Statement (.iaEq u m) := by rintro _ _ ⟨⟩; cases u <;> rfl
theorem iaNe (u : Bool) (m : TrigMove) : Statement (.iaNe u m) := by rintro _ _ ⟨⟩; cases u <;> rfl
theorem iaLt (u : Bool) (m : TrigMove) : Statement (.iaLt u m) := by rintro _ _ ⟨⟩; cases u <;> rfl
theorem iaLtu (u : Bool) (m : TrigMove) : Statement (.iaLtu u m) := by rintro _ _ ⟨⟩; cases u <;> rfl
theorem iaLe (u : Bool) (m : TrigMove) : Statement (.iaLe u m) := by rintro _ _ ⟨⟩; cases u <;> rfl
theorem iaLeu (u : Bool) (m : TrigMove) : Statement (.iaLeu u m) := by rintro _ _ ⟨⟩; cases u <;> rfl
theorem iaSel (u : Bool) (m : TrigMove) : Statement (.iaSel u m) := by rintro _ _ ⟨⟩; cases u <;> rfl
theorem iaClz (u : Bool) (m : TrigMove) : Statement (.iaClz u m) := by rintro _ _ ⟨⟩; cases u <;> rfl
theorem iaPopc (u : Bool) (m : TrigMove) : Statement (.iaPopc u m) := by rintro _ _ ⟨⟩; cases u <;> rfl
theorem iaBfx (u : Bool) (m : TrigMove) : Statement (.iaBfx u m) := by rintro _ _ ⟨⟩; cases u <;> rfl
theorem mdMul (m : TrigMove) : Statement (.mdMul m) := by rintro _ _ ⟨⟩; rfl
theorem mdMulh (m : TrigMove) : Statement (.mdMulh m) := by rintro _ _ ⟨⟩; rfl
theorem mdMulhu (m : TrigMove) : Statement (.mdMulhu m) := by rintro _ _ ⟨⟩; rfl
theorem mdMac (m : TrigMove) : Statement (.mdMac m) := by rintro _ _ ⟨⟩; rfl
theorem mdDiv (m : TrigMove) : Statement (.mdDiv m) := by rintro _ _ ⟨⟩; rfl
theorem mdDivu (m : TrigMove) : Statement (.mdDivu m) := by rintro _ _ ⟨⟩; rfl
theorem mdRem (m : TrigMove) : Statement (.mdRem m) := by rintro _ _ ⟨⟩; rfl
theorem mdRemu (m : TrigMove) : Statement (.mdRemu m) := by rintro _ _ ⟨⟩; rfl
theorem agLea (m : TrigMove) : Statement (.agLea m) := by rintro _ _ ⟨⟩; rfl
theorem agLeas (m : TrigMove) : Statement (.agLeas m) := by rintro _ _ ⟨⟩; rfl
theorem agSeg (m : TrigMove) : Statement (.agSeg m) := by rintro _ _ ⟨⟩; rfl
theorem agSegh (m : TrigMove) : Statement (.agSegh m) := by rintro _ _ ⟨⟩; rfl
theorem agSegchk (m : TrigMove) : Statement (.agSegchk m) := by rintro _ _ ⟨⟩; rfl
theorem agTid (m : TrigMove) : Statement (.agTid m) := by rintro _ _ ⟨⟩; rfl
theorem agTwin (m : TrigMove) : Statement (.agTwin m) := by rintro _ _ ⟨⟩; rfl
theorem agInc (m : TrigMove) : Statement (.agInc m) := by rintro _ _ ⟨⟩; rfl
theorem agIncw (m : TrigMove) : Statement (.agIncw m) := by rintro _ _ ⟨⟩; rfl
theorem agBcyc (m : TrigMove) : Statement (.agBcyc m) := by rintro _ _ ⟨⟩; rfl
theorem agIlv (m : TrigMove) : Statement (.agIlv m) := by rintro _ _ ⟨⟩; rfl
theorem agFmode (m : TrigMove) : Statement (.agFmode m) := by rintro _ _ ⟨⟩; rfl
theorem lsLdb (m : TrigMove) : Statement (.lsLdb m) := by rintro _ _ ⟨⟩; rfl
theorem lsLdbs (m : TrigMove) : Statement (.lsLdbs m) := by rintro _ _ ⟨⟩; rfl
theorem lsLdh (m : TrigMove) : Statement (.lsLdh m) := by rintro _ _ ⟨⟩; rfl
theorem lsLdhs (m : TrigMove) : Statement (.lsLdhs m) := by rintro _ _ ⟨⟩; rfl
theorem lsLdw (m : TrigMove) : Statement (.lsLdw m) := by rintro _ _ ⟨⟩; rfl
theorem lsLdd (m : TrigMove) : Statement (.lsLdd m) := by rintro _ _ ⟨⟩; rfl
theorem lsLdv (m : TrigMove) : Statement (.lsLdv m) := by rintro _ _ ⟨⟩; rfl
theorem lsLdvt (m : TrigMove) : Statement (.lsLdvt m) := by rintro _ _ ⟨⟩; rfl
theorem lsLdwa (m : TrigMove) : Statement (.lsLdwa m) := by rintro _ _ ⟨⟩; rfl
theorem lsLdda (m : TrigMove) : Statement (.lsLdda m) := by rintro _ _ ⟨⟩; rfl
theorem lsStb (m : TrigMove) : Statement (.lsStb m) := by rintro _ _ ⟨⟩; rfl
theorem lsSth (m : TrigMove) : Statement (.lsSth m) := by rintro _ _ ⟨⟩; rfl
theorem lsStw (m : TrigMove) : Statement (.lsStw m) := by rintro _ _ ⟨⟩; rfl
theorem lsStd (m : TrigMove) : Statement (.lsStd m) := by rintro _ _ ⟨⟩; rfl
theorem lsStv (m : TrigMove) : Statement (.lsStv m) := by rintro _ _ ⟨⟩; rfl
theorem lsStvm (m : TrigMove) : Statement (.lsStvm m) := by rintro _ _ ⟨⟩; rfl
theorem lsStwr (m : TrigMove) : Statement (.lsStwr m) := by rintro _ _ ⟨⟩; rfl
theorem lsStdr (m : TrigMove) : Statement (.lsStdr m) := by rintro _ _ ⟨⟩; rfl
theorem lsScfg (m : TrigMove) : Statement (.lsScfg m) := by rintro _ _ ⟨⟩; rfl
theorem lsSstop (m : TrigMove) : Statement (.lsSstop m) := by rintro _ _ ⟨⟩; rfl
theorem lsRingacq (m : TrigMove) : Statement (.lsRingacq m) := by rintro _ _ ⟨⟩; rfl
theorem lsRingrel (m : TrigMove) : Statement (.lsRingrel m) := by rintro _ _ ⟨⟩; rfl
theorem lsRmwadd (m : TrigMove) : Statement (.lsRmwadd m) := by rintro _ _ ⟨⟩; rfl
theorem lsRmwswap (m : TrigMove) : Statement (.lsRmwswap m) := by rintro _ _ ⟨⟩; rfl
theorem lsRmwcas (m : TrigMove) : Statement (.lsRmwcas m) := by rintro _ _ ⟨⟩; rfl
theorem lsRmwmin (m : TrigMove) : Statement (.lsRmwmin m) := by rintro _ _ ⟨⟩; rfl
theorem lsRmwmax (m : TrigMove) : Statement (.lsRmwmax m) := by rintro _ _ ⟨⟩; rfl
theorem lsRmwor (m : TrigMove) : Statement (.lsRmwor m) := by rintro _ _ ⟨⟩; rfl
theorem vuFadd (m : TrigMove) : Statement (.vuFadd m) := by rintro _ _ ⟨⟩; rfl
theorem vuFsub (m : TrigMove) : Statement (.vuFsub m) := by rintro _ _ ⟨⟩; rfl
theorem vuFmul (m : TrigMove) : Statement (.vuFmul m) := by rintro _ _ ⟨⟩; rfl
theorem vuFma (m : TrigMove) : Statement (.vuFma m) := by rintro _ _ ⟨⟩; rfl
theorem vuFmin (m : TrigMove) : Statement (.vuFmin m) := by rintro _ _ ⟨⟩; rfl
theorem vuFmax (m : TrigMove) : Statement (.vuFmax m) := by rintro _ _ ⟨⟩; rfl
theorem vuFdiv (m : TrigMove) : Statement (.vuFdiv m) := by rintro _ _ ⟨⟩; rfl
theorem vuFsqrt (m : TrigMove) : Statement (.vuFsqrt m) := by rintro _ _ ⟨⟩; rfl
theorem vuFrcp (m : TrigMove) : Statement (.vuFrcp m) := by rintro _ _ ⟨⟩; rfl
theorem vuFrsq (m : TrigMove) : Statement (.vuFrsq m) := by rintro _ _ ⟨⟩; rfl
theorem vuFexp2 (m : TrigMove) : Statement (.vuFexp2 m) := by rintro _ _ ⟨⟩; rfl
theorem vuFlog2 (m : TrigMove) : Statement (.vuFlog2 m) := by rintro _ _ ⟨⟩; rfl
theorem vuFrnd (m : TrigMove) : Statement (.vuFrnd m) := by rintro _ _ ⟨⟩; rfl
theorem vuFcmpeq (m : TrigMove) : Statement (.vuFcmpeq m) := by rintro _ _ ⟨⟩; rfl
theorem vuFcmplt (m : TrigMove) : Statement (.vuFcmplt m) := by rintro _ _ ⟨⟩; rfl
theorem vuFcmple (m : TrigMove) : Statement (.vuFcmple m) := by rintro _ _ ⟨⟩; rfl
theorem vuVadd (m : TrigMove) : Statement (.vuVadd m) := by rintro _ _ ⟨⟩; rfl
theorem vuVsub (m : TrigMove) : Statement (.vuVsub m) := by rintro _ _ ⟨⟩; rfl
theorem vuVadds (m : TrigMove) : Statement (.vuVadds m) := by rintro _ _ ⟨⟩; rfl
theorem vuVsubs (m : TrigMove) : Statement (.vuVsubs m) := by rintro _ _ ⟨⟩; rfl
theorem vuVmul (m : TrigMove) : Statement (.vuVmul m) := by rintro _ _ ⟨⟩; rfl
theorem vuVand (m : TrigMove) : Statement (.vuVand m) := by rintro _ _ ⟨⟩; rfl
theorem vuVor (m : TrigMove) : Statement (.vuVor m) := by rintro _ _ ⟨⟩; rfl
theorem vuVxor (m : TrigMove) : Statement (.vuVxor m) := by rintro _ _ ⟨⟩; rfl
theorem vuVshl (m : TrigMove) : Statement (.vuVshl m) := by rintro _ _ ⟨⟩; rfl
theorem vuVshr (m : TrigMove) : Statement (.vuVshr m) := by rintro _ _ ⟨⟩; rfl
theorem vuVsar (m : TrigMove) : Statement (.vuVsar m) := by rintro _ _ ⟨⟩; rfl
theorem vuVmin (m : TrigMove) : Statement (.vuVmin m) := by rintro _ _ ⟨⟩; rfl
theorem vuVmax (m : TrigMove) : Statement (.vuVmax m) := by rintro _ _ ⟨⟩; rfl
theorem vuVcmpeq (m : TrigMove) : Statement (.vuVcmpeq m) := by rintro _ _ ⟨⟩; rfl
theorem vuVcmplt (m : TrigMove) : Statement (.vuVcmplt m) := by rintro _ _ ⟨⟩; rfl
theorem vuCvtif (m : TrigMove) : Statement (.vuCvtif m) := by rintro _ _ ⟨⟩; rfl
theorem vuCvtfi (m : TrigMove) : Statement (.vuCvtfi m) := by rintro _ _ ⟨⟩; rfl
theorem vuCvtfh (m : TrigMove) : Statement (.vuCvtfh m) := by rintro _ _ ⟨⟩; rfl
theorem vuCvtfb (m : TrigMove) : Statement (.vuCvtfb m) := by rintro _ _ ⟨⟩; rfl
theorem vuCvthf (m : TrigMove) : Statement (.vuCvthf m) := by rintro _ _ ⟨⟩; rfl
theorem vuCvtbf (m : TrigMove) : Statement (.vuCvtbf m) := by rintro _ _ ⟨⟩; rfl
theorem vuPacki8 (m : TrigMove) : Statement (.vuPacki8 m) := by rintro _ _ ⟨⟩; rfl
theorem vuUnpki8 (m : TrigMove) : Statement (.vuUnpki8 m) := by rintro _ _ ⟨⟩; rfl
theorem vuVperm (m : TrigMove) : Statement (.vuVperm m) := by rintro _ _ ⟨⟩; rfl
theorem vuVbcast (m : TrigMove) : Statement (.vuVbcast m) := by rintro _ _ ⟨⟩; rfl
theorem vuRsum (m : TrigMove) : Statement (.vuRsum m) := by rintro _ _ ⟨⟩; rfl
theorem vuRmax (m : TrigMove) : Statement (.vuRmax m) := by rintro _ _ ⟨⟩; rfl
theorem mxOp4 (m : TrigMove) : Statement (.mxOp4 m) := by rintro _ _ ⟨⟩; rfl
theorem mxOp4z (m : TrigMove) : Statement (.mxOp4z m) := by rintro _ _ ⟨⟩; rfl
theorem mxOp4d (m : TrigMove) : Statement (.mxOp4d m) := by rintro _ _ ⟨⟩; rfl
theorem mxOp4i (m : TrigMove) : Statement (.mxOp4i m) := by rintro _ _ ⟨⟩; rfl
theorem mxOp4s (m : TrigMove) : Statement (.mxOp4s m) := by rintro _ _ ⟨⟩; rfl
theorem mxAcrd (m : TrigMove) : Statement (.mxAcrd m) := by rintro _ _ ⟨⟩; rfl
theorem mxAcclr (m : TrigMove) : Statement (.mxAcclr m) := by rintro _ _ ⟨⟩; rfl
theorem mxMma16 (m : TrigMove) : Statement (.mxMma16 m) := by rintro _ _ ⟨⟩; rfl
theorem mxMma16d (m : TrigMove) : Statement (.mxMma16d m) := by rintro _ _ ⟨⟩; rfl
theorem mxMma16i (m : TrigMove) : Statement (.mxMma16i m) := by rintro _ _ ⟨⟩; rfl
theorem mxMma16s (m : TrigMove) : Statement (.mxMma16s m) := by rintro _ _ ⟨⟩; rfl
theorem mxMrow (m : TrigMove) : Statement (.mxMrow m) := by rintro _ _ ⟨⟩; rfl
theorem mxMcol (m : TrigMove) : Statement (.mxMcol m) := by rintro _ _ ⟨⟩; rfl
theorem mxMrowr (m : TrigMove) : Statement (.mxMrowr m) := by rintro _ _ ⟨⟩; rfl
theorem mxMcolr (m : TrigMove) : Statement (.mxMcolr m) := by rintro _ _ ⟨⟩; rfl
theorem mxMacc (m : TrigMove) : Statement (.mxMacc m) := by rintro _ _ ⟨⟩; rfl
theorem mxMzero (m : TrigMove) : Statement (.mxMzero m) := by rintro _ _ ⟨⟩; rfl
theorem mxMld (m : TrigMove) : Statement (.mxMld m) := by rintro _ _ ⟨⟩; rfl
theorem mxMst (m : TrigMove) : Statement (.mxMst m) := by rintro _ _ ⟨⟩; rfl
theorem mxMfmt (m : TrigMove) : Statement (.mxMfmt m) := by rintro _ _ ⟨⟩; rfl
theorem chSend (m : TrigMove) : Statement (.chSend m) := by rintro _ _ ⟨⟩; rfl
theorem chHalo (m : TrigMove) : Statement (.chHalo m) := by rintro _ _ ⟨⟩; rfl
theorem chSpawn (m : TrigMove) : Statement (.chSpawn m) := by rintro _ _ ⟨⟩; rfl
theorem chFld (m : TrigMove) : Statement (.chFld m) := by rintro _ _ ⟨⟩; rfl
theorem chFldv (m : TrigMove) : Statement (.chFldv m) := by rintro _ _ ⟨⟩; rfl
theorem chFst (m : TrigMove) : Statement (.chFst m) := by rintro _ _ ⟨⟩; rfl
theorem chFstv (m : TrigMove) : Statement (.chFstv m) := by rintro _ _ ⟨⟩; rfl
theorem chFstm (m : TrigMove) : Statement (.chFstm m) := by rintro _ _ ⟨⟩; rfl
theorem chFstred (m : TrigMove) : Statement (.chFstred m) := by rintro _ _ ⟨⟩; rfl
theorem chBadd (m : TrigMove) : Statement (.chBadd m) := by rintro _ _ ⟨⟩; rfl
theorem chBaddf (m : TrigMove) : Statement (.chBaddf m) := by rintro _ _ ⟨⟩; rfl
theorem chBaddh (m : TrigMove) : Statement (.chBaddh m) := by rintro _ _ ⟨⟩; rfl
theorem chBmin (m : TrigMove) : Statement (.chBmin m) := by rintro _ _ ⟨⟩; rfl
theorem chBmax (m : TrigMove) : Statement (.chBmax m) := by rintro _ _ ⟨⟩; rfl
theorem chBand (m : TrigMove) : Statement (.chBand m) := by rintro _ _ ⟨⟩; rfl
theorem chBor (m : TrigMove) : Statement (.chBor m) := by rintro _ _ ⟨⟩; rfl
theorem chBxor (m : TrigMove) : Statement (.chBxor m) := by rintro _ _ ⟨⟩; rfl
theorem chBswap (m : TrigMove) : Statement (.chBswap m) := by rintro _ _ ⟨⟩; rfl
theorem chBcas (m : TrigMove) : Statement (.chBcas m) := by rintro _ _ ⟨⟩; rfl
theorem chBcasd (m : TrigMove) : Statement (.chBcasd m) := by rintro _ _ ⟨⟩; rfl
theorem chBred (m : TrigMove) : Statement (.chBred m) := by rintro _ _ ⟨⟩; rfl
theorem chDma (m : TrigMove) : Statement (.chDma m) := by rintro _ _ ⟨⟩; rfl
theorem chDmaw (m : TrigMove) : Statement (.chDmaw m) := by rintro _ _ ⟨⟩; rfl
theorem chLayout (m : TrigMove) : Statement (.chLayout m) := by rintro _ _ ⟨⟩; rfl
theorem chColl (m : TrigMove) : Statement (.chColl m) := by rintro _ _ ⟨⟩; rfl
theorem chCcset (m : TrigMove) : Statement (.chCcset m) := by rintro _ _ ⟨⟩; rfl
theorem chCcwait (m : TrigMove) : Statement (.chCcwait m) := by rintro _ _ ⟨⟩; rfl
theorem chCcclr (m : TrigMove) : Statement (.chCcclr m) := by rintro _ _ ⟨⟩; rfl
theorem chMbclr (m : TrigMove) : Statement (.chMbclr m) := by rintro _ _ ⟨⟩; rfl
theorem chMbwait (m : TrigMove) : Statement (.chMbwait m) := by rintro _ _ ⟨⟩; rfl
theorem chWaddr (m : TrigMove) : Statement (.chWaddr m) := by rintro _ _ ⟨⟩; rfl
theorem balLoad (m : TrigMove) : Statement (.balLoad m) := by rintro _ _ ⟨⟩; rfl
theorem balSeed (m : TrigMove) : Statement (.balSeed m) := by rintro _ _ ⟨⟩; rfl
theorem balBeta (m : TrigMove) : Statement (.balBeta m) := by rintro _ _ ⟨⟩; rfl
theorem balClamp (m : TrigMove) : Statement (.balClamp m) := by rintro _ _ ⟨⟩; rfl
theorem balUnclamp (m : TrigMove) : Statement (.balUnclamp m) := by rintro _ _ ⟨⟩; rfl
theorem balSweep (m : TrigMove) : Statement (.balSweep m) := by rintro _ _ ⟨⟩; rfl
theorem balRdspin (m : TrigMove) : Statement (.balRdspin m) := by rintro _ _ ⟨⟩; rfl
theorem balRdmarg (m : TrigMove) : Statement (.balRdmarg m) := by rintro _ _ ⟨⟩; rfl
theorem balClrmarg (m : TrigMove) : Statement (.balClrmarg m) := by rintro _ _ ⟨⟩; rfl
theorem balSeedrng (m : TrigMove) : Statement (.balSeedrng m) := by rintro _ _ ⟨⟩; rfl
theorem balGroup (m : TrigMove) : Statement (.balGroup m) := by rintro _ _ ⟨⟩; rfl
theorem balLink (m : TrigMove) : Statement (.balLink m) := by rintro _ _ ⟨⟩; rfl
theorem balStateRead (m : TrigMove) : Statement (.balStateRead m) := by rintro _ _ ⟨⟩; rfl
theorem balSpin (m : TrigMove) : Statement (.balSpin m) := by rintro _ _ ⟨⟩; rfl
theorem syCrd (m : TrigMove) : Statement (.syCrd m) := by rintro _ _ ⟨⟩; rfl
theorem syCrw (m : TrigMove) : Statement (.syCrw m) := by rintro _ _ ⟨⟩; rfl
theorem syCrs (m : TrigMove) : Statement (.syCrs m) := by rintro _ _ ⟨⟩; rfl
theorem syCrc (m : TrigMove) : Statement (.syCrc m) := by rintro _ _ ⟨⟩; rfl
theorem syFence (m : TrigMove) : Statement (.syFence m) := by rintro _ _ ⟨⟩; rfl
theorem syFencei (m : TrigMove) : Statement (.syFencei m) := by rintro _ _ ⟨⟩; rfl
theorem syRel (m : TrigMove) : Statement (.syRel m) := by rintro _ _ ⟨⟩; rfl
theorem syAcq (m : TrigMove) : Statement (.syAcq m) := by rintro _ _ ⟨⟩; rfl
theorem syChkerr (m : TrigMove) : Statement (.syChkerr m) := by rintro _ _ ⟨⟩; rfl
theorem syTret (m : TrigMove) : Statement (.syTret m) := by rintro _ _ ⟨⟩; rfl
theorem syCnt (m : TrigMove) : Statement (.syCnt m) := by rintro _ _ ⟨⟩; rfl
theorem syCntcfg (m : TrigMove) : Statement (.syCntcfg m) := by rintro _ _ ⟨⟩; rfl
theorem syPend (m : TrigMove) : Statement (.syPend m) := by rintro _ _ ⟨⟩; rfl
theorem syIntack (m : TrigMove) : Statement (.syIntack m) := by rintro _ _ ⟨⟩; rfl
theorem kyShinit (m : TrigMove) : Statement (.kyShinit m) := by rintro _ _ ⟨⟩; rfl
theorem kyAbsorb (m : TrigMove) : Statement (.kyAbsorb m) := by rintro _ _ ⟨⟩; rfl
theorem kySqueeze (m : TrigMove) : Statement (.kySqueeze m) := by rintro _ _ ⟨⟩; rfl
theorem kyFverify (m : TrigMove) : Statement (.kyFverify m) := by rintro _ _ ⟨⟩; rfl
theorem kyMextend (m : TrigMove) : Statement (.kyMextend m) := by rintro _ _ ⟨⟩; rfl
theorem kyKeyld (m : TrigMove) : Statement (.kyKeyld m) := by rintro _ _ ⟨⟩; rfl
theorem kyKeyclr (m : TrigMove) : Statement (.kyKeyclr m) := by rintro _ _ ⟨⟩; rfl
theorem kyFuserd (m : TrigMove) : Statement (.kyFuserd m) := by rintro _ _ ⟨⟩; rfl
theorem qsRingrd (m : TrigMove) : Statement (.qsRingrd m) := by rintro _ _ ⟨⟩; rfl
theorem qsRingadv (m : TrigMove) : Statement (.qsRingadv m) := by rintro _ _ ⟨⟩; rfl
theorem qsHeadpub (m : TrigMove) : Statement (.qsHeadpub m) := by rintro _ _ ⟨⟩; rfl
theorem qsEnq (m : TrigMove) : Statement (.qsEnq m) := by rintro _ _ ⟨⟩; rfl
theorem qsDeq (m : TrigMove) : Statement (.qsDeq m) := by rintro _ _ ⟨⟩; rfl
theorem qsQstat (m : TrigMove) : Statement (.qsQstat m) := by rintro _ _ ⟨⟩; rfl
theorem resultComplete (t sock : Nat) : Statement (.resultComplete t sock) := nofun
theorem interruptEntry (t : Nat) : Statement (.interruptEntry t) := nofun
theorem contextSwitchEntry (t : Nat) : Statement (.contextSwitchEntry t) := nofun
theorem op4Stage (t : Nat) : Statement (.op4Stage t) := nofun
theorem maccWrite (t : Nat) : Statement (.maccWrite t) := nofun
theorem mxMacroStep (t : Nat) : Statement (.mxMacroStep t) := nofun
theorem rmwWrite (t : Nat) : Statement (.rmwWrite t) := nofun
theorem ringUpdate (t : Nat) : Statement (.ringUpdate t) := nofun
theorem streamFill (t s : Nat) : Statement (.streamFill t s) := nofun
theorem farLoadReply (t i : Nat) : Statement (.farLoadReply t i) := nofun
theorem farStoreAck (t i : Nat) : Statement (.farStoreAck t i) := nofun
theorem farAccessAtHome (t i : Nat) (ext : ExtReply) : Statement (.farAccessAtHome t i ext) := nofun
theorem demandResolved (asid : BitVec 16) (vpn : BitVec 35) (active : Bool) : Statement (.demandResolved asid vpn active) := nofun
theorem zeroingDone (asid : BitVec 16) (vpn : BitVec 35) : Statement (.zeroingDone asid vpn) := nofun
theorem copyGroupLand (t i : Nat) : Statement (.copyGroupLand t i) := nofun
theorem escapementRelease (l : Nat) : Statement (.escapementRelease l) := nofun
theorem initialRelease (l : Nat) : Statement (.initialRelease l) := nofun
theorem dmaGranuleDone (t i g : Nat) (ext : ExtReply) : Statement (.dmaGranuleDone t i g ext) := nofun
theorem layoutAdmit (die eng : Nat) : Statement (.layoutAdmit die eng) := nofun
theorem layoutElementWrite (die eng i e : Nat) (ext : ExtReply) : Statement (.layoutElementWrite die eng i e ext) := nofun
theorem spawnAnswer (t : Nat) : Statement (.spawnAnswer t) := nofun
theorem spawnTargetStart (t : Nat) : Statement (.spawnTargetStart t) := nofun
theorem waddrTimeout (t : Nat) : Statement (.waddrTimeout t) := nofun
theorem balPhaseUpdate (t : Nat) : Statement (.balPhaseUpdate t) := nofun
theorem balHaloLand (t i : Nat) : Statement (.balHaloLand t i) := nofun
theorem balBarrierRelease (t : Nat) : Statement (.balBarrierRelease t) := nofun
theorem balReadoutLand (t i : Nat) : Statement (.balReadoutLand t i) := nofun
theorem fverifyDone (t i : Nat) : Statement (.fverifyDone t i) := nofun
theorem mextendDone (t i : Nat) : Statement (.mextendDone t i) := nofun
theorem keyldDone (t i : Nat) : Statement (.keyldDone t i) := nofun
theorem ringPoll (q : Nat) : Statement (.ringPoll q) := nofun
theorem ringNudge (q : Nat) : Statement (.ringNudge q) := nofun
theorem queueSliceExpiry (k : Nat) : Statement (.queueSliceExpiry k) := nofun
theorem launchPacket (q : Nat) : Statement (.launchPacket q) := nofun
theorem writePacket (q : Nat) : Statement (.writePacket q) := nofun
theorem signalPacket (q : Nat) : Statement (.signalPacket q) := nofun
theorem writeSignalPacket (q : Nat) : Statement (.writeSignalPacket q) := nofun
theorem waitPacket (q : Nat) : Statement (.waitPacket q) := nofun
theorem loadcodePacket (q : Nat) : Statement (.loadcodePacket q) := nofun
theorem fencePacket (q : Nat) : Statement (.fencePacket q) := nofun
theorem timetablePacket (q : Nat) : Statement (.timetablePacket q) := nofun
theorem waitPoll (q : Nat) : Statement (.waitPoll q) := nofun
theorem waitTimeout (q : Nat) : Statement (.waitTimeout q) := nofun
theorem fencePacketDone (q : Nat) : Statement (.fencePacketDone q) := nofun
theorem dependencePoll (l d : Nat) : Statement (.dependencePoll l d) := nofun
theorem startTickCheck (l : Nat) : Statement (.startTickCheck l) := nofun
theorem launchPlace (l : Nat) : Statement (.launchPlace l) := nofun
theorem launchReservation (l : Nat) : Statement (.launchReservation l) := nofun
theorem slicePreempt (l : Nat) : Statement (.slicePreempt l) := nofun
theorem swapOutComplete (l : Nat) : Statement (.swapOutComplete l) := nofun
theorem launchRestore (l : Nat) : Statement (.launchRestore l) := nofun
theorem launchComplete (l : Nat) : Statement (.launchComplete l) := nofun
theorem launchAbort (q : Nat) (handle : Word) : Statement (.launchAbort q handle) := nofun
theorem ringCtlWrite (q : Nat) (v : Word) : Statement (.ringCtlWrite q v) := nofun
theorem ringExpWrite (q : Nat) (v : Word) : Statement (.ringExpWrite q v) := nofun
theorem crnRegisterWrite (addr : Nat) (n : Nat) (v : BitVec 256) : Statement (.crnRegisterWrite addr n v) := nofun
theorem xlLiveWrite (v : Word) : Statement (.xlLiveWrite v) := nofun
theorem xlGenerationRaise (asid : BitVec 16) : Statement (.xlGenerationRaise asid) := nofun
theorem xlCacheFlush : Statement .xlCacheFlush := nofun
theorem generationRaiseDone : Statement .generationRaiseDone := nofun
theorem migrationGo (v : DWord) : Statement (.migrationGo v) := nofun
theorem migrationCopy : Statement .migrationCopy := nofun
theorem migrationForward : Statement .migrationForward := nofun
theorem migrationDone : Statement .migrationDone := nofun
theorem demandAck : Statement .demandAck := nofun
theorem ualinkRequestIn (p : Nat) (r : UalReq) : Statement (.ualinkRequestIn p r) := nofun
theorem keyPhaseExpiry (owner : BitVec 16) : Statement (.keyPhaseExpiry owner) := nofun
theorem collBegin (q : Nat) : Statement (.collBegin q) := nofun
theorem collChunkLand (q rank chunk : Nat) (ext : ExtReply) : Statement (.collChunkLand q rank chunk ext) := nofun
theorem brGroupWrite (q : Nat) (v : BitVec 128) : Statement (.brGroupWrite q v) := nofun
theorem windowActivate (w : Nat) : Statement (.windowActivate w) := nofun
theorem windowRevokeStart (w : Nat) : Statement (.windowRevokeStart w) := nofun
theorem revocationApply (w home : Nat) : Statement (.revocationApply w home) := nofun
theorem revocationComplete (w : Nat) : Statement (.revocationComplete w) := nofun
theorem windowFree (w : Nat) : Statement (.windowFree w) := nofun
theorem windowExportCmd (owner : BitVec 16) : Statement (.windowExportCmd owner) := nofun
theorem windowRevokeCmd (owner : BitVec 16) : Statement (.windowRevokeCmd owner) := nofun
theorem hdmCtlWrite (k : Nat) (v : Word) : Statement (.hdmCtlWrite k v) := nofun
theorem brPortRetryClear (p : Nat) : Statement (.brPortRetryClear p) := nofun
theorem grperrClear : Statement .grperrClear := nofun
theorem hostCxlMemAccess (k : Nat) (hpa : Nat) (wr : Option (List Byte)) (ext : ExtReply) : Statement (.hostCxlMemAccess k hpa wr ext) := nofun
theorem fenceGo (f : Nat) (reason : Byte) : Statement (.fenceGo f reason) := nofun
theorem fenceComplete (f : Nat) : Statement (.fenceComplete f) := nofun
theorem autoFence (l f : Nat) : Statement (.autoFence l f) := nofun
theorem tileParityError (t : Nat) : Statement (.tileParityError t) := nofun
theorem scrubRead (m a : Nat) (e : ScrubResult) : Statement (.scrubRead m a e) := nofun
theorem edgeDown (e : Nat) : Statement (.edgeDown e) := nofun
theorem linkRetryReport (src link count : Nat) : Statement (.linkRetryReport src link count) := nofun
theorem cxlLinkFail : Statement .cxlLinkFail := nofun
theorem twinCompare (t : Nat) : Statement (.twinCompare t) := nofun
theorem twinHoldTimeout (t : Nat) : Statement (.twinHoldTimeout t) := nofun
theorem selftestDone (t : Nat) (pass : Bool) : Statement (.selftestDone t pass) := nofun
theorem retirementMapWrite (d : Nat) (bits : List Nat) : Statement (.retirementMapWrite d bits) := nofun
theorem moduleReset : Statement .moduleReset := nofun
theorem bringupCheckDone (fn : Nat) (pass : Bool) : Statement (.bringupCheckDone fn pass) := nofun
theorem pllLockLoss (d : Nat) : Statement (.pllLockLoss d) := nofun
theorem thermalTrip (d : Nat) (temp : Byte) : Statement (.thermalTrip d temp) := nofun
theorem overtempPowerOff (d : Nat) (temp : Byte) : Statement (.overtempPowerOff d temp) := nofun
theorem dialTick : Statement .dialTick := nofun
theorem ppsInEdge : Statement .ppsInEdge := nofun
theorem dialAdjWrite (v : Word) : Statement (.dialAdjWrite v) := nofun
theorem dialStep (n : DWord) : Statement (.dialStep n) := nofun
theorem standbyReset : Statement .standbyReset := nofun
theorem standbyBoot (img : BitVec 16) : Statement (.standbyBoot img) := nofun
theorem bootRomDone : Statement .bootRomDone := nofun
theorem handoverGo (v : Word) : Statement (.handoverGo v) := nofun
theorem handoverAbort : Statement .handoverAbort := nofun
theorem handoverDone : Statement .handoverDone := nofun
theorem heartbeat : Statement .heartbeat := nofun
theorem handoverTimeout : Statement .handoverTimeout := nofun
theorem heartbeatHang : Statement .heartbeatHang := nofun
theorem arbWrite (n : Word) : Statement (.arbWrite n) := nofun
theorem idSignGo : Statement .idSignGo := nofun
theorem idSignDone : Statement .idSignDone := nofun
theorem stage (img : List Byte) : Statement (.stage img) := nofun
theorem activate : Statement .activate := nofun
theorem setret (map : List Byte) : Statement (.setret map) := nofun
theorem setpod (digest : Wide) : Statement (.setpod digest) := nofun
theorem info : Statement .info := nofun
theorem spdmRequest (r : SpdmReq) : Statement (.spdmRequest r) := nofun
theorem setFabricKey (session : Nat) (owner : BitVec 16) (key : BitVec 256) : Statement (.setFabricKey session owner key) := nofun
theorem clearFabricKey (session : Nat) (owner : BitVec 16) : Statement (.clearFabricKey session owner) := nofun
theorem ualinkPortTrainingDone (p : Nat) (up : Bool) : Statement (.ualinkPortTrainingDone p up) := nofun
theorem ualinkPortFailure (p : Nat) : Statement (.ualinkPortFailure p) := nofun
theorem thermalTripClear (d : Nat) (temp : Byte) : Statement (.thermalTripClear d temp) := nofun
theorem hostSnoopResponse (line : Nat) : Statement (.hostSnoopResponse line) := nofun
theorem msixVector0Repeat : Statement .msixVector0Repeat := nofun

end Sys2Proof.Laws.RowOfCode
end

