-- ==== Sys2Proof/Laws/State.lean ====
section
/-! SUPPORT. What the named updates of the module and of a tile leave as it was and what they write, field by field. -/

namespace Sys2Proof.Machine

/-! ### `State.setTile` -/

@[simp] theorem State.setTile_clk (s : State) (k : Nat) (t : Tile) : (s.setTile k t).clk = s.clk := rfl
@[simp] theorem State.setTile_agenda (s : State) (k : Nat) (t : Tile) : (s.setTile k t).agenda = s.agenda := rfl
@[simp] theorem State.setTile_cur (s : State) (k : Nat) (t : Tile) : (s.setTile k t).cur = s.cur := rfl
@[simp] theorem State.setTile_free (s : State) (k : Nat) (t : Tile) : (s.setTile k t).free = s.free := rfl
@[simp] theorem State.setTile_tiles (s : State) (k : Nat) (t : Tile) : (s.setTile k t).tiles = tabSet s.tiles k t := rfl
@[simp] theorem State.setTile_launches (s : State) (k : Nat) (t : Tile) : (s.setTile k t).launches = s.launches := rfl
@[simp] theorem State.setTile_accepted (s : State) (k : Nat) (t : Tile) : (s.setTile k t).accepted = s.accepted := rfl
@[simp] theorem State.setTile_placeCount (s : State) (k : Nat) (t : Tile) : (s.setTile k t).placeCount = s.placeCount := rfl
@[simp] theorem State.setTile_objects (s : State) (k : Nat) (t : Tile) : (s.setTile k t).objects = s.objects := rfl
@[simp] theorem State.setTile_ctxAreas (s : State) (k : Nat) (t : Tile) : (s.setTile k t).ctxAreas = s.ctxAreas := rfl
@[simp] theorem State.setTile_engines (s : State) (k : Nat) (t : Tile) : (s.setTile k t).engines = s.engines := rfl
@[simp] theorem State.setTile_orphans (s : State) (k : Nat) (t : Tile) : (s.setTile k t).orphans = s.orphans := rfl
@[simp] theorem State.setTile_bank (s : State) (k : Nat) (t : Tile) : (s.setTile k t).bank = s.bank := rfl
@[simp] theorem State.setTile_bankPoison (s : State) (k : Nat) (t : Tile) : (s.setTile k t).bankPoison = s.bankPoison := rfl
@[simp] theorem State.setTile_hbm (s : State) (k : Nat) (t : Tile) : (s.setTile k t).hbm = s.hbm := rfl
@[simp] theorem State.setTile_hbmPoison (s : State) (k : Nat) (t : Tile) : (s.setTile k t).hbmPoison = s.hbmPoison := rfl
@[simp] theorem State.setTile_csram (s : State) (k : Nat) (t : Tile) : (s.setTile k t).csram = s.csram := rfl
@[simp] theorem State.setTile_csramPoison (s : State) (k : Nat) (t : Tile) : (s.setTile k t).csramPoison = s.csramPoison := rfl
@[simp] theorem State.setTile_rsram (s : State) (k : Nat) (t : Tile) : (s.setTile k t).rsram = s.rsram := rfl
@[simp] theorem State.setTile_rsramPoison (s : State) (k : Nat) (t : Tile) : (s.setTile k t).rsramPoison = s.rsramPoison := rfl
@[simp] theorem State.setTile_host (s : State) (k : Nat) (t : Tile) : (s.setTile k t).host = s.host := rfl
@[simp] theorem State.setTile_pod (s : State) (k : Nat) (t : Tile) : (s.setTile k t).pod = s.pod := rfl
@[simp] theorem State.setTile_podDown (s : State) (k : Nat) (t : Tile) : (s.setTile k t).podDown = s.podDown := rfl
@[simp] theorem State.setTile_bankOwner (s : State) (k : Nat) (t : Tile) : (s.setTile k t).bankOwner = s.bankOwner := rfl
@[simp] theorem State.setTile_bankOwnerWas (s : State) (k : Nat) (t : Tile) : (s.setTile k t).bankOwnerWas = s.bankOwnerWas := rfl
@[simp] theorem State.setTile_feCtrl (s : State) (k : Nat) (t : Tile) : (s.setTile k t).feCtrl = s.feCtrl := rfl
@[simp] theorem State.setTile_schAge (s : State) (k : Nat) (t : Tile) : (s.setTile k t).schAge = s.schAge := rfl
@[simp] theorem State.setTile_schSlice (s : State) (k : Nat) (t : Tile) : (s.setTile k t).schSlice = s.schSlice := rfl
@[simp] theorem State.setTile_schReserve (s : State) (k : Nat) (t : Tile) : (s.setTile k t).schReserve = s.schReserve := rfl
@[simp] theorem State.setTile_schQslice (s : State) (k : Nat) (t : Tile) : (s.setTile k t).schQslice = s.schQslice := rfl
@[simp] theorem State.setTile_rings (s : State) (k : Nat) (t : Tile) : (s.setTile k t).rings = s.rings := rfl
@[simp] theorem State.setTile_queues (s : State) (k : Nat) (t : Tile) : (s.setTile k t).queues = s.queues := rfl
@[simp] theorem State.setTile_enqueued (s : State) (k : Nat) (t : Tile) : (s.setTile k t).enqueued = s.enqueued := rfl
@[simp] theorem State.setTile_serveQueue (s : State) (k : Nat) (t : Tile) : (s.setTile k t).serveQueue = s.serveQueue := rfl
@[simp] theorem State.setTile_servePkts (s : State) (k : Nat) (t : Tile) : (s.setTile k t).servePkts = s.servePkts := rfl
@[simp] theorem State.setTile_serveSince (s : State) (k : Nat) (t : Tile) : (s.setTile k t).serveSince = s.serveSince := rfl
@[simp] theorem State.setTile_turns (s : State) (k : Nat) (t : Tile) : (s.setTile k t).turns = s.turns := rfl
@[simp] theorem State.setTile_xl (s : State) (k : Nat) (t : Tile) : (s.setTile k t).xl = s.xl := rfl
@[simp] theorem State.setTile_br (s : State) (k : Nat) (t : Tile) : (s.setTile k t).br = s.br := rfl
@[simp] theorem State.setTile_rel (s : State) (k : Nat) (t : Tile) : (s.setTile k t).rel = s.rel := rfl
@[simp] theorem State.setTile_fw (s : State) (k : Nat) (t : Tile) : (s.setTile k t).fw = s.fw := rfl
@[simp] theorem State.setTile_bu (s : State) (k : Nat) (t : Tile) : (s.setTile k t).bu = s.bu := rfl

/-! ### `State.setLaunch` -/

@[simp] theorem State.setLaunch_clk (s : State) (k : Nat) (l : Launch) : (s.setLaunch k l).clk = s.clk := rfl
@[simp] theorem State.setLaunch_agenda (s : State) (k : Nat) (l : Launch) : (s.setLaunch k l).agenda = s.agenda := rfl
@[simp] theorem State.setLaunch_cur (s : State) (k : Nat) (l : Launch) : (s.setLaunch k l).cur = s.cur := rfl
@[simp] theorem State.setLaunch_free (s : State) (k : Nat) (l : Launch) : (s.setLaunch k l).free = s.free := rfl
@[simp] theorem State.setLaunch_tiles (s : State) (k : Nat) (l : Launch) : (s.setLaunch k l).tiles = s.tiles := rfl
@[simp] theorem State.setLaunch_launches (s : State) (k : Nat) (l : Launch) : (s.setLaunch k l).launches = tabSet s.launches k l := rfl
@[simp] theorem State.setLaunch_accepted (s : State) (k : Nat) (l : Launch) : (s.setLaunch k l).accepted = s.accepted := rfl
@[simp] theorem State.setLaunch_placeCount (s : State) (k : Nat) (l : Launch) : (s.setLaunch k l).placeCount = s.placeCount := rfl
@[simp] theorem State.setLaunch_objects (s : State) (k : Nat) (l : Launch) : (s.setLaunch k l).objects = s.objects := rfl
@[simp] theorem State.setLaunch_ctxAreas (s : State) (k : Nat) (l : Launch) : (s.setLaunch k l).ctxAreas = s.ctxAreas := rfl
@[simp] theorem State.setLaunch_engines (s : State) (k : Nat) (l : Launch) : (s.setLaunch k l).engines = s.engines := rfl
@[simp] theorem State.setLaunch_orphans (s : State) (k : Nat) (l : Launch) : (s.setLaunch k l).orphans = s.orphans := rfl
@[simp] theorem State.setLaunch_bank (s : State) (k : Nat) (l : Launch) : (s.setLaunch k l).bank = s.bank := rfl
@[simp] theorem State.setLaunch_bankPoison (s : State) (k : Nat) (l : Launch) : (s.setLaunch k l).bankPoison = s.bankPoison := rfl
@[simp] theorem State.setLaunch_hbm (s : State) (k : Nat) (l : Launch) : (s.setLaunch k l).hbm = s.hbm := rfl
@[simp] theorem State.setLaunch_hbmPoison (s : State) (k : Nat) (l : Launch) : (s.setLaunch k l).hbmPoison = s.hbmPoison := rfl
@[simp] theorem State.setLaunch_csram (s : State) (k : Nat) (l : Launch) : (s.setLaunch k l).csram = s.csram := rfl
@[simp] theorem State.setLaunch_csramPoison (s : State) (k : Nat) (l : Launch) : (s.setLaunch k l).csramPoison = s.csramPoison := rfl
@[simp] theorem State.setLaunch_rsram (s : State) (k : Nat) (l : Launch) : (s.setLaunch k l).rsram = s.rsram := rfl
@[simp] theorem State.setLaunch_rsramPoison (s : State) (k : Nat) (l : Launch) : (s.setLaunch k l).rsramPoison = s.rsramPoison := rfl
@[simp] theorem State.setLaunch_host (s : State) (k : Nat) (l : Launch) : (s.setLaunch k l).host = s.host := rfl
@[simp] theorem State.setLaunch_pod (s : State) (k : Nat) (l : Launch) : (s.setLaunch k l).pod = s.pod := rfl
@[simp] theorem State.setLaunch_podDown (s : State) (k : Nat) (l : Launch) : (s.setLaunch k l).podDown = s.podDown := rfl
@[simp] theorem State.setLaunch_bankOwner (s : State) (k : Nat) (l : Launch) : (s.setLaunch k l).bankOwner = s.bankOwner := rfl
@[simp] theorem State.setLaunch_bankOwnerWas (s : State) (k : Nat) (l : Launch) : (s.setLaunch k l).bankOwnerWas = s.bankOwnerWas := rfl
@[simp] theorem State.setLaunch_feCtrl (s : State) (k : Nat) (l : Launch) : (s.setLaunch k l).feCtrl = s.feCtrl := rfl
@[simp] theorem State.setLaunch_schAge (s : State) (k : Nat) (l : Launch) : (s.setLaunch k l).schAge = s.schAge := rfl
@[simp] theorem State.setLaunch_schSlice (s : State) (k : Nat) (l : Launch) : (s.setLaunch k l).schSlice = s.schSlice := rfl
@[simp] theorem State.setLaunch_schReserve (s : State) (k : Nat) (l : Launch) : (s.setLaunch k l).schReserve = s.schReserve := rfl
@[simp] theorem State.setLaunch_schQslice (s : State) (k : Nat) (l : Launch) : (s.setLaunch k l).schQslice = s.schQslice := rfl
@[simp] theorem State.setLaunch_rings (s : State) (k : Nat) (l : Launch) : (s.setLaunch k l).rings = s.rings := rfl
@[simp] theorem State.setLaunch_queues (s : State) (k : Nat) (l : Launch) : (s.setLaunch k l).queues = s.queues := rfl
@[simp] theorem State.setLaunch_enqueued (s : State) (k : Nat) (l : Launch) : (s.setLaunch k l).enqueued = s.enqueued := rfl
@[simp] theorem State.setLaunch_serveQueue (s : State) (k : Nat) (l : Launch) : (s.setLaunch k l).serveQueue = s.serveQueue := rfl
@[simp] theorem State.setLaunch_servePkts (s : State) (k : Nat) (l : Launch) : (s.setLaunch k l).servePkts = s.servePkts := rfl
@[simp] theorem State.setLaunch_serveSince (s : State) (k : Nat) (l : Launch) : (s.setLaunch k l).serveSince = s.serveSince := rfl
@[simp] theorem State.setLaunch_turns (s : State) (k : Nat) (l : Launch) : (s.setLaunch k l).turns = s.turns := rfl
@[simp] theorem State.setLaunch_xl (s : State) (k : Nat) (l : Launch) : (s.setLaunch k l).xl = s.xl := rfl
@[simp] theorem State.setLaunch_br (s : State) (k : Nat) (l : Launch) : (s.setLaunch k l).br = s.br := rfl
@[simp] theorem State.setLaunch_rel (s : State) (k : Nat) (l : Launch) : (s.setLaunch k l).rel = s.rel := rfl
@[simp] theorem State.setLaunch_fw (s : State) (k : Nat) (l : Launch) : (s.setLaunch k l).fw = s.fw := rfl
@[simp] theorem State.setLaunch_bu (s : State) (k : Nat) (l : Launch) : (s.setLaunch k l).bu = s.bu := rfl

/-! ### `Tile.setX` -/

@[simp] theorem Tile.setX_x (t : Tile) (i : Nat) (a : Word) : (t.setX i a).x = vset t.x i a := rfl
@[simp] theorem Tile.setX_v (t : Tile) (i : Nat) (a : Word) : (t.setX i a).v = t.v := rfl
@[simp] theorem Tile.setX_g (t : Tile) (i : Nat) (a : Word) : (t.setX i a).g = t.g := rfl
@[simp] theorem Tile.setX_latches (t : Tile) (i : Nat) (a : Word) : (t.setX i a).latches = t.latches := rfl
@[simp] theorem Tile.setX_socks (t : Tile) (i : Nat) (a : Word) : (t.setX i a).socks = t.socks := rfl
@[simp] theorem Tile.setX_seq (t : Tile) (i : Nat) (a : Word) : (t.setX i a).seq = t.seq := rfl
@[simp] theorem Tile.setX_pc (t : Tile) (i : Nat) (a : Word) : (t.setX i a).pc = t.pc := rfl
@[simp] theorem Tile.setX_loops (t : Tile) (i : Nat) (a : Word) : (t.setX i a).loops = t.loops := rfl
@[simp] theorem Tile.setX_depth (t : Tile) (i : Nat) (a : Word) : (t.setX i a).depth = t.depth := rfl
@[simp] theorem Tile.setX_tctl (t : Tile) (i : Nat) (a : Word) : (t.setX i a).tctl = t.tctl := rfl
@[simp] theorem Tile.setX_vctl (t : Tile) (i : Nat) (a : Word) : (t.setX i a).vctl = t.vctl := rfl
@[simp] theorem Tile.setX_vstat (t : Tile) (i : Nat) (a : Word) : (t.setX i a).vstat = t.vstat := rfl
@[simp] theorem Tile.setX_flagsAt (t : Tile) (i : Nat) (a : Word) : (t.setX i a).flagsAt = t.flagsAt := rfl
@[simp] theorem Tile.setX_mshape (t : Tile) (i : Nat) (a : Word) : (t.setX i a).mshape = t.mshape := rfl
@[simp] theorem Tile.setX_cir (t : Tile) (i : Nat) (a : Word) : (t.setX i a).cir = t.cir := rfl
@[simp] theorem Tile.setX_relmask (t : Tile) (i : Nat) (a : Word) : (t.setX i a).relmask = t.relmask := rfl
@[simp] theorem Tile.setX_beta (t : Tile) (i : Nat) (a : Word) : (t.setX i a).beta = t.beta := rfl
@[simp] theorem Tile.setX_wid (t : Tile) (i : Nat) (a : Word) : (t.setX i a).wid = t.wid := rfl
@[simp] theorem Tile.setX_widf (t : Tile) (i : Nat) (a : Word) : (t.setX i a).widf = t.widf := rfl
@[simp] theorem Tile.setX_segt (t : Tile) (i : Nat) (a : Word) : (t.setX i a).segt = t.segt := rfl
@[simp] theorem Tile.setX_fmtt (t : Tile) (i : Nat) (a : Word) : (t.setX i a).fmtt = t.fmtt := rfl
@[simp] theorem Tile.setX_spcnt (t : Tile) (i : Nat) (a : Word) : (t.setX i a).spcnt = t.spcnt := rfl
@[simp] theorem Tile.setX_mxown (t : Tile) (i : Nat) (a : Word) : (t.setX i a).mxown = t.mxown := rfl
@[simp] theorem Tile.setX_mxOwner (t : Tile) (i : Nat) (a : Word) : (t.setX i a).mxOwner = t.mxOwner := rfl
@[simp] theorem Tile.setX_tstat (t : Tile) (i : Nat) (a : Word) : (t.setX i a).tstat = t.tstat := rfl
@[simp] theorem Tile.setX_tcause (t : Tile) (i : Nat) (a : Word) : (t.setX i a).tcause = t.tcause := rfl
@[simp] theorem Tile.setX_tepc (t : Tile) (i : Nat) (a : Word) : (t.setX i a).tepc = t.tepc := rfl
@[simp] theorem Tile.setX_tinfo (t : Tile) (i : Nat) (a : Word) : (t.setX i a).tinfo = t.tinfo := rfl
@[simp] theorem Tile.setX_tvec (t : Tile) (i : Nat) (a : Word) : (t.setX i a).tvec = t.tvec := rfl
@[simp] theorem Tile.setX_tscr (t : Tile) (i : Nat) (a : Word) : (t.setX i a).tscr = t.tscr := rfl
@[simp] theorem Tile.setX_ctxb (t : Tile) (i : Nat) (a : Word) : (t.setX i a).ctxb = t.ctxb := rfl
@[simp] theorem Tile.setX_segtSet (t : Tile) (i : Nat) (a : Word) : (t.setX i a).segtSet = t.segtSet := rfl
@[simp] theorem Tile.setX_segs (t : Tile) (i : Nat) (a : Word) : (t.setX i a).segs = t.segs := rfl
@[simp] theorem Tile.setX_dialSample (t : Tile) (i : Nat) (a : Word) : (t.setX i a).dialSample = t.dialSample := rfl
@[simp] theorem Tile.setX_ls (t : Tile) (i : Nat) (a : Word) : (t.setX i a).ls = t.ls := rfl
@[simp] theorem Tile.setX_lsPoison (t : Tile) (i : Nat) (a : Word) : (t.setX i a).lsPoison = t.lsPoison := rfl
@[simp] theorem Tile.setX_lsPending (t : Tile) (i : Nat) (a : Word) : (t.setX i a).lsPending = t.lsPending := rfl
@[simp] theorem Tile.setX_tagsWas (t : Tile) (i : Nat) (a : Word) : (t.setX i a).tagsWas = t.tagsWas := rfl
@[simp] theorem Tile.setX_landedIn (t : Tile) (i : Nat) (a : Word) : (t.setX i a).landedIn = t.landedIn := rfl
@[simp] theorem Tile.setX_recent (t : Tile) (i : Nat) (a : Word) : (t.setX i a).recent = t.recent := rfl
@[simp] theorem Tile.setX_fetchedAt (t : Tile) (i : Nat) (a : Word) : (t.setX i a).fetchedAt = t.fetchedAt := rfl
@[simp] theorem Tile.setX_freshAt (t : Tile) (i : Nat) (a : Word) : (t.setX i a).freshAt = t.freshAt := rfl
@[simp] theorem Tile.setX_streams (t : Tile) (i : Nat) (a : Word) : (t.setX i a).streams = t.streams := rfl
@[simp] theorem Tile.setX_fillQ (t : Tile) (i : Nat) (a : Word) : (t.setX i a).fillQ = t.fillQ := rfl
@[simp] theorem Tile.setX_fillCount (t : Tile) (i : Nat) (a : Word) : (t.setX i a).fillCount = t.fillCount := rfl
@[simp] theorem Tile.setX_rmws (t : Tile) (i : Nat) (a : Word) : (t.setX i a).rmws = t.rmws := rfl
@[simp] theorem Tile.setX_rings (t : Tile) (i : Nat) (a : Word) : (t.setX i a).rings = t.rings := rfl
@[simp] theorem Tile.setX_heldStores (t : Tile) (i : Nat) (a : Word) : (t.setX i a).heldStores = t.heldStores := rfl
@[simp] theorem Tile.setX_ac (t : Tile) (i : Nat) (a : Word) : (t.setX i a).ac = t.ac := rfl
@[simp] theorem Tile.setX_acOld (t : Tile) (i : Nat) (a : Word) : (t.setX i a).acOld = t.acOld := rfl
@[simp] theorem Tile.setX_m (t : Tile) (i : Nat) (a : Word) : (t.setX i a).m = t.m := rfl
@[simp] theorem Tile.setX_op4s (t : Tile) (i : Nat) (a : Word) : (t.setX i a).op4s = t.op4s := rfl
@[simp] theorem Tile.setX_maccs (t : Tile) (i : Nat) (a : Word) : (t.setX i a).maccs = t.maccs := rfl
@[simp] theorem Tile.setX_mac (t : Tile) (i : Nat) (a : Word) : (t.setX i a).mac = t.mac := rfl
@[simp] theorem Tile.setX_cc (t : Tile) (i : Nat) (a : Word) : (t.setX i a).cc = t.cc := rfl
@[simp] theorem Tile.setX_mb (t : Tile) (i : Nat) (a : Word) : (t.setX i a).mb = t.mb := rfl
@[simp] theorem Tile.setX_lstat (t : Tile) (i : Nat) (a : Word) : (t.setX i a).lstat = t.lstat := rfl
@[simp] theorem Tile.setX_lcc (t : Tile) (i : Nat) (a : Word) : (t.setX i a).lcc = t.lcc := rfl
@[simp] theorem Tile.setX_lidx (t : Tile) (i : Nat) (a : Word) : (t.setX i a).lidx = t.lidx := rfl
@[simp] theorem Tile.setX_nack (t : Tile) (i : Nat) (a : Word) : (t.setX i a).nack = t.nack := rfl
@[simp] theorem Tile.setX_reqNo (t : Tile) (i : Nat) (a : Word) : (t.setX i a).reqNo = t.reqNo := rfl
@[simp] theorem Tile.setX_holdNo (t : Tile) (i : Nat) (a : Word) : (t.setX i a).holdNo = t.holdNo := rfl
@[simp] theorem Tile.setX_seqNo (t : Tile) (i : Nat) (a : Word) : (t.setX i a).seqNo = t.seqNo := rfl
@[simp] theorem Tile.setX_far (t : Tile) (i : Nat) (a : Word) : (t.setX i a).far = t.far := rfl
@[simp] theorem Tile.setX_copies (t : Tile) (i : Nat) (a : Word) : (t.setX i a).copies = t.copies := rfl
@[simp] theorem Tile.setX_egressFree (t : Tile) (i : Nat) (a : Word) : (t.setX i a).egressFree = t.egressFree := rfl
@[simp] theorem Tile.setX_ingressAt (t : Tile) (i : Nat) (a : Word) : (t.setX i a).ingressAt = t.ingressAt := rfl
@[simp] theorem Tile.setX_dmas (t : Tile) (i : Nat) (a : Word) : (t.setX i a).dmas = t.dmas := rfl
@[simp] theorem Tile.setX_dmaFree (t : Tile) (i : Nat) (a : Word) : (t.setX i a).dmaFree = t.dmaFree := rfl
@[simp] theorem Tile.setX_spawns (t : Tile) (i : Nat) (a : Word) : (t.setX i a).spawns = t.spawns := rfl
@[simp] theorem Tile.setX_spawnIn (t : Tile) (i : Nat) (a : Word) : (t.setX i a).spawnIn = t.spawnIn := rfl
@[simp] theorem Tile.setX_fences (t : Tile) (i : Nat) (a : Word) : (t.setX i a).fences = t.fences := rfl
@[simp] theorem Tile.setX_layoutWait (t : Tile) (i : Nat) (a : Word) : (t.setX i a).layoutWait = t.layoutWait := rfl
@[simp] theorem Tile.setX_colls (t : Tile) (i : Nat) (a : Word) : (t.setX i a).colls = t.colls := rfl
@[simp] theorem Tile.setX_waddrAt (t : Tile) (i : Nat) (a : Word) : (t.setX i a).waddrAt = t.waddrAt := rfl
@[simp] theorem Tile.setX_waddrOut (t : Tile) (i : Nat) (a : Word) : (t.setX i a).waddrOut = t.waddrOut := rfl
@[simp] theorem Tile.setX_bal (t : Tile) (i : Nat) (a : Word) : (t.setX i a).bal = t.bal := rfl
@[simp] theorem Tile.setX_kyJobs (t : Tile) (i : Nat) (a : Word) : (t.setX i a).kyJobs = t.kyJobs := rfl
@[simp] theorem Tile.setX_sha (t : Tile) (i : Nat) (a : Word) : (t.setX i a).sha = t.sha := rfl
@[simp] theorem Tile.setX_pend (t : Tile) (i : Nat) (a : Word) : (t.setX i a).pend = t.pend := rfl
@[simp] theorem Tile.setX_counters (t : Tile) (i : Nat) (a : Word) : (t.setX i a).counters = t.counters := rfl
@[simp] theorem Tile.setX_cntNew (t : Tile) (i : Nat) (a : Word) : (t.setX i a).cntNew = t.cntNew := rfl
@[simp] theorem Tile.setX_snap (t : Tile) (i : Nat) (a : Word) : (t.setX i a).snap = t.snap := rfl
@[simp] theorem Tile.setX_run (t : Tile) (i : Nat) (a : Word) : (t.setX i a).run = t.run := rfl
@[simp] theorem Tile.setX_dead (t : Tile) (i : Nat) (a : Word) : (t.setX i a).dead = t.dead := rfl
@[simp] theorem Tile.setX_fenced (t : Tile) (i : Nat) (a : Word) : (t.setX i a).fenced = t.fenced := rfl
@[simp] theorem Tile.setX_nextAt (t : Tile) (i : Nat) (a : Word) : (t.setX i a).nextAt = t.nextAt := rfl
@[simp] theorem Tile.setX_idleEnd (t : Tile) (i : Nat) (a : Word) : (t.setX i a).idleEnd = t.idleEnd := rfl
@[simp] theorem Tile.setX_kBase (t : Tile) (i : Nat) (a : Word) : (t.setX i a).kBase = t.kBase := rfl
@[simp] theorem Tile.setX_intFrom (t : Tile) (i : Nat) (a : Word) : (t.setX i a).intFrom = t.intFrom := rfl
@[simp] theorem Tile.setX_gapEnd (t : Tile) (i : Nat) (a : Word) : (t.setX i a).gapEnd = t.gapEnd := rfl
@[simp] theorem Tile.setX_stall (t : Tile) (i : Nat) (a : Word) : (t.setX i a).stall = t.stall := rfl
@[simp] theorem Tile.setX_launch (t : Tile) (i : Nat) (a : Word) : (t.setX i a).launch = t.launch := rfl
@[simp] theorem Tile.setX_tlin (t : Tile) (i : Nat) (a : Word) : (t.setX i a).tlin = t.tlin := rfl
@[simp] theorem Tile.setX_isSpawn (t : Tile) (i : Nat) (a : Word) : (t.setX i a).isSpawn = t.isSpawn := rfl
@[simp] theorem Tile.setX_sstep (t : Tile) (i : Nat) (a : Word) : (t.setX i a).sstep = t.sstep := rfl
@[simp] theorem Tile.setX_arrivedAt (t : Tile) (i : Nat) (a : Word) : (t.setX i a).arrivedAt = t.arrivedAt := rfl
@[simp] theorem Tile.setX_plandir (t : Tile) (i : Nat) (a : Word) : (t.setX i a).plandir = t.plandir := rfl
@[simp] theorem Tile.setX_switchPend (t : Tile) (i : Nat) (a : Word) : (t.setX i a).switchPend = t.switchPend := rfl
@[simp] theorem Tile.setX_switchAt (t : Tile) (i : Nat) (a : Word) : (t.setX i a).switchAt = t.switchAt := rfl
@[simp] theorem Tile.setX_saved (t : Tile) (i : Nat) (a : Word) : (t.setX i a).saved = t.saved := rfl
@[simp] theorem Tile.setX_egress (t : Tile) (i : Nat) (a : Word) : (t.setX i a).egress = t.egress := rfl
@[simp] theorem Tile.setX_egressNo (t : Tile) (i : Nat) (a : Word) : (t.setX i a).egressNo = t.egressNo := rfl
@[simp] theorem Tile.setX_diverged (t : Tile) (i : Nat) (a : Word) : (t.setX i a).diverged = t.diverged := rfl

/-! ### `Tile.setV` -/

@[simp] theorem Tile.setV_x (t : Tile) (i : Nat) (a : Wide) : (t.setV i a).x = t.x := rfl
@[simp] theorem Tile.setV_v (t : Tile) (i : Nat) (a : Wide) : (t.setV i a).v = vset t.v i a := rfl
@[simp] theorem Tile.setV_g (t : Tile) (i : Nat) (a : Wide) : (t.setV i a).g = t.g := rfl
@[simp] theorem Tile.setV_latches (t : Tile) (i : Nat) (a : Wide) : (t.setV i a).latches = t.latches := rfl
@[simp] theorem Tile.setV_socks (t : Tile) (i : Nat) (a : Wide) : (t.setV i a).socks = t.socks := rfl
@[simp] theorem Tile.setV_seq (t : Tile) (i : Nat) (a : Wide) : (t.setV i a).seq = t.seq := rfl
@[simp] theorem Tile.setV_pc (t : Tile) (i : Nat) (a : Wide) : (t.setV i a).pc = t.pc := rfl
@[simp] theorem Tile.setV_loops (t : Tile) (i : Nat) (a : Wide) : (t.setV i a).loops = t.loops := rfl
@[simp] theorem Tile.setV_depth (t : Tile) (i : Nat) (a : Wide) : (t.setV i a).depth = t.depth := rfl
@[simp] theorem Tile.setV_tctl (t : Tile) (i : Nat) (a : Wide) : (t.setV i a).tctl = t.tctl := rfl
@[simp] theorem Tile.setV_vctl (t : Tile) (i : Nat) (a : Wide) : (t.setV i a).vctl = t.vctl := rfl
@[simp] theorem Tile.setV_vstat (t : Tile) (i : Nat) (a : Wide) : (t.setV i a).vstat = t.vstat := rfl
@[simp] theorem Tile.setV_flagsAt (t : Tile) (i : Nat) (a : Wide) : (t.setV i a).flagsAt = t.flagsAt := rfl
@[simp] theorem Tile.setV_mshape (t : Tile) (i : Nat) (a : Wide) : (t.setV i a).mshape = t.mshape := rfl
@[simp] theorem Tile.setV_cir (t : Tile) (i : Nat) (a : Wide) : (t.setV i a).cir = t.cir := rfl
@[simp] theorem Tile.setV_relmask (t : Tile) (i : Nat) (a : Wide) : (t.setV i a).relmask = t.relmask := rfl
@[simp] theorem Tile.setV_beta (t : Tile) (i : Nat) (a : Wide) : (t.setV i a).beta = t.beta := rfl
@[simp] theorem Tile.setV_wid (t : Tile) (i : Nat) (a : Wide) : (t.setV i a).wid = t.wid := rfl
@[simp] theorem Tile.setV_widf (t : Tile) (i : Nat) (a : Wide) : (t.setV i a).widf = t.widf := rfl
@[simp] theorem Tile.setV_segt (t : Tile) (i : Nat) (a : Wide) : (t.setV i a).segt = t.segt := rfl
@[simp] theorem Tile.setV_fmtt (t : Tile) (i : Nat) (a : Wide) : (t.setV i a).fmtt = t.fmtt := rfl
@[simp] theorem Tile.setV_spcnt (t : Tile) (i : Nat) (a : Wide) : (t.setV i a).spcnt = t.spcnt := rfl
@[simp] theorem Tile.setV_mxown (t : Tile) (i : Nat) (a : Wide) : (t.setV i a).mxown = t.mxown := rfl
@[simp] theorem Tile.setV_mxOwner (t : Tile) (i : Nat) (a : Wide) : (t.setV i a).mxOwner = t.mxOwner := rfl
@[simp] theorem Tile.setV_tstat (t : Tile) (i : Nat) (a : Wide) : (t.setV i a).tstat = t.tstat := rfl
@[simp] theorem Tile.setV_tcause (t : Tile) (i : Nat) (a : Wide) : (t.setV i a).tcause = t.tcause := rfl
@[simp] theorem Tile.setV_tepc (t : Tile) (i : Nat) (a : Wide) : (t.setV i a).tepc = t.tepc := rfl
@[simp] theorem Tile.setV_tinfo (t : Tile) (i : Nat) (a : Wide) : (t.setV i a).tinfo = t.tinfo := rfl
@[simp] theorem Tile.setV_tvec (t : Tile) (i : Nat) (a : Wide) : (t.setV i a).tvec = t.tvec := rfl
@[simp] theorem Tile.setV_tscr (t : Tile) (i : Nat) (a : Wide) : (t.setV i a).tscr = t.tscr := rfl
@[simp] theorem Tile.setV_ctxb (t : Tile) (i : Nat) (a : Wide) : (t.setV i a).ctxb = t.ctxb := rfl
@[simp] theorem Tile.setV_segtSet (t : Tile) (i : Nat) (a : Wide) : (t.setV i a).segtSet = t.segtSet := rfl
@[simp] theorem Tile.setV_segs (t : Tile) (i : Nat) (a : Wide) : (t.setV i a).segs = t.segs := rfl
@[simp] theorem Tile.setV_dialSample (t : Tile) (i : Nat) (a : Wide) : (t.setV i a).dialSample = t.dialSample := rfl
@[simp] theorem Tile.setV_ls (t : Tile) (i : Nat) (a : Wide) : (t.setV i a).ls = t.ls := rfl
@[simp] theorem Tile.setV_lsPoison (t : Tile) (i : Nat) (a : Wide) : (t.setV i a).lsPoison = t.lsPoison := rfl
@[simp] theorem Tile.setV_lsPending (t : Tile) (i : Nat) (a : Wide) : (t.setV i a).lsPending = t.lsPending := rfl
@[simp] theorem Tile.setV_tagsWas (t : Tile) (i : Nat) (a : Wide) : (t.setV i a).tagsWas = t.tagsWas := rfl
@[simp] theorem Tile.setV_landedIn (t : Tile) (i : Nat) (a : Wide) : (t.setV i a).landedIn = t.landedIn := rfl
@[simp] theorem Tile.setV_recent (t : Tile) (i : Nat) (a : Wide) : (t.setV i a).recent = t.recent := rfl
@[simp] theorem Tile.setV_fetchedAt (t : Tile) (i : Nat) (a : Wide) : (t.setV i a).fetchedAt = t.fetchedAt := rfl
@[simp] theorem Tile.setV_freshAt (t : Tile) (i : Nat) (a : Wide) : (t.setV i a).freshAt = t.freshAt := rfl
@[simp] theorem Tile.setV_streams (t : Tile) (i : Nat) (a : Wide) : (t.setV i a).streams = t.streams := rfl
@[simp] theorem Tile.setV_fillQ (t : Tile) (i : Nat) (a : Wide) : (t.setV i a).fillQ = t.fillQ := rfl
@[simp] theorem Tile.setV_fillCount (t : Tile) (i : Nat) (a : Wide) : (t.setV i a).fillCount = t.fillCount := rfl
@[simp] theorem Tile.setV_rmws (t : Tile) (i : Nat) (a : Wide) : (t.setV i a).rmws = t.rmws := rfl
@[simp] theorem Tile.setV_rings (t : Tile) (i : Nat) (a : Wide) : (t.setV i a).rings = t.rings := rfl
@[simp] theorem Tile.setV_heldStores (t : Tile) (i : Nat) (a : Wide) : (t.setV i a).heldStores = t.heldStores := rfl
@[simp] theorem Tile.setV_ac (t : Tile) (i : Nat) (a : Wide) : (t.setV i a).ac = t.ac := rfl
@[simp] theorem Tile.setV_acOld (t : Tile) (i : Nat) (a : Wide) : (t.setV i a).acOld = t.acOld := rfl
@[simp] theorem Tile.setV_m (t : Tile) (i : Nat) (a : Wide) : (t.setV i a).m = t.m := rfl
@[simp] theorem Tile.setV_op4s (t : Tile) (i : Nat) (a : Wide) : (t.setV i a).op4s = t.op4s := rfl
@[simp] theorem Tile.setV_maccs (t : Tile) (i : Nat) (a : Wide) : (t.setV i a).maccs = t.maccs := rfl
@[simp] theorem Tile.setV_mac (t : Tile) (i : Nat) (a : Wide) : (t.setV i a).mac = t.mac := rfl
@[simp] theorem Tile.setV_cc (t : Tile) (i : Nat) (a : Wide) : (t.setV i a).cc = t.cc := rfl
@[simp] theorem Tile.setV_mb (t : Tile) (i : Nat) (a : Wide) : (t.setV i a).mb = t.mb := rfl
@[simp] theorem Tile.setV_lstat (t : Tile) (i : Nat) (a : Wide) : (t.setV i a).lstat = t.lstat := rfl
@[simp] theorem Tile.setV_lcc (t : Tile) (i : Nat) (a : Wide) : (t.setV i a).lcc = t.lcc := rfl
@[simp] theorem Tile.setV_lidx (t : Tile) (i : Nat) (a : Wide) : (t.setV i a).lidx = t.lidx := rfl
@[simp] theorem Tile.setV_nack (t : Tile) (i : Nat) (a : Wide) : (t.setV i a).nack = t.nack := rfl
@[simp] theorem Tile.setV_reqNo (t : Tile) (i : Nat) (a : Wide) : (t.setV i a).reqNo = t.reqNo := rfl
@[simp] theorem Tile.setV_holdNo (t : Tile) (i : Nat) (a : Wide) : (t.setV i a).holdNo = t.holdNo := rfl
@[simp] theorem Tile.setV_seqNo (t : Tile) (i : Nat) (a : Wide) : (t.setV i a).seqNo = t.seqNo := rfl
@[simp] theorem Tile.setV_far (t : Tile) (i : Nat) (a : Wide) : (t.setV i a).far = t.far := rfl
@[simp] theorem Tile.setV_copies (t : Tile) (i : Nat) (a : Wide) : (t.setV i a).copies = t.copies := rfl
@[simp] theorem Tile.setV_egressFree (t : Tile) (i : Nat) (a : Wide) : (t.setV i a).egressFree = t.egressFree := rfl
@[simp] theorem Tile.setV_ingressAt (t : Tile) (i : Nat) (a : Wide) : (t.setV i a).ingressAt = t.ingressAt := rfl
@[simp] theorem Tile.setV_dmas (t : Tile) (i : Nat) (a : Wide) : (t.setV i a).dmas = t.dmas := rfl
@[simp] theorem Tile.setV_dmaFree (t : Tile) (i : Nat) (a : Wide) : (t.setV i a).dmaFree = t.dmaFree := rfl
@[simp] theorem Tile.setV_spawns (t : Tile) (i : Nat) (a : Wide) : (t.setV i a).spawns = t.spawns := rfl
@[simp] theorem Tile.setV_spawnIn (t : Tile) (i : Nat) (a : Wide) : (t.setV i a).spawnIn = t.spawnIn := rfl
@[simp] theorem Tile.setV_fences (t : Tile) (i : Nat) (a : Wide) : (t.setV i a).fences = t.fences := rfl
@[simp] theorem Tile.setV_layoutWait (t : Tile) (i : Nat) (a : Wide) : (t.setV i a).layoutWait = t.layoutWait := rfl
@[simp] theorem Tile.setV_colls (t : Tile) (i : Nat) (a : Wide) : (t.setV i a).colls = t.colls := rfl
@[simp] theorem Tile.setV_waddrAt (t : Tile) (i : Nat) (a : Wide) : (t.setV i a).waddrAt = t.waddrAt := rfl
@[simp] theorem Tile.setV_waddrOut (t : Tile) (i : Nat) (a : Wide) : (t.setV i a).waddrOut = t.waddrOut := rfl
@[simp] theorem Tile.setV_bal (t : Tile) (i : Nat) (a : Wide) : (t.setV i a).bal = t.bal := rfl
@[simp] theorem Tile.setV_kyJobs (t : Tile) (i : Nat) (a : Wide) : (t.setV i a).kyJobs = t.kyJobs := rfl
@[simp] theorem Tile.setV_sha (t : Tile) (i : Nat) (a : Wide) : (t.setV i a).sha = t.sha := rfl
@[simp] theorem Tile.setV_pend (t : Tile) (i : Nat) (a : Wide) : (t.setV i a).pend = t.pend := rfl
@[simp] theorem Tile.setV_counters (t : Tile) (i : Nat) (a : Wide) : (t.setV i a).counters = t.counters := rfl
@[simp] theorem Tile.setV_cntNew (t : Tile) (i : Nat) (a : Wide) : (t.setV i a).cntNew = t.cntNew := rfl
@[simp] theorem Tile.setV_snap (t : Tile) (i : Nat) (a : Wide) : (t.setV i a).snap = t.snap := rfl
@[simp] theorem Tile.setV_run (t : Tile) (i : Nat) (a : Wide) : (t.setV i a).run = t.run := rfl
@[simp] theorem Tile.setV_dead (t : Tile) (i : Nat) (a : Wide) : (t.setV i a).dead = t.dead := rfl
@[simp] theorem Tile.setV_fenced (t : Tile) (i : Nat) (a : Wide) : (t.setV i a).fenced = t.fenced := rfl
@[simp] theorem Tile.setV_nextAt (t : Tile) (i : Nat) (a : Wide) : (t.setV i a).nextAt = t.nextAt := rfl
@[simp] theorem Tile.setV_idleEnd (t : Tile) (i : Nat) (a : Wide) : (t.setV i a).idleEnd = t.idleEnd := rfl
@[simp] theorem Tile.setV_kBase (t : Tile) (i : Nat) (a : Wide) : (t.setV i a).kBase = t.kBase := rfl
@[simp] theorem Tile.setV_intFrom (t : Tile) (i : Nat) (a : Wide) : (t.setV i a).intFrom = t.intFrom := rfl
@[simp] theorem Tile.setV_gapEnd (t : Tile) (i : Nat) (a : Wide) : (t.setV i a).gapEnd = t.gapEnd := rfl
@[simp] theorem Tile.setV_stall (t : Tile) (i : Nat) (a : Wide) : (t.setV i a).stall = t.stall := rfl
@[simp] theorem Tile.setV_launch (t : Tile) (i : Nat) (a : Wide) : (t.setV i a).launch = t.launch := rfl
@[simp] theorem Tile.setV_tlin (t : Tile) (i : Nat) (a : Wide) : (t.setV i a).tlin = t.tlin := rfl
@[simp] theorem Tile.setV_isSpawn (t : Tile) (i : Nat) (a : Wide) : (t.setV i a).isSpawn = t.isSpawn := rfl
@[simp] theorem Tile.setV_sstep (t : Tile) (i : Nat) (a : Wide) : (t.setV i a).sstep = t.sstep := rfl
@[simp] theorem Tile.setV_arrivedAt (t : Tile) (i : Nat) (a : Wide) : (t.setV i a).arrivedAt = t.arrivedAt := rfl
@[simp] theorem Tile.setV_plandir (t : Tile) (i : Nat) (a : Wide) : (t.setV i a).plandir = t.plandir := rfl
@[simp] theorem Tile.setV_switchPend (t : Tile) (i : Nat) (a : Wide) : (t.setV i a).switchPend = t.switchPend := rfl
@[simp] theorem Tile.setV_switchAt (t : Tile) (i : Nat) (a : Wide) : (t.setV i a).switchAt = t.switchAt := rfl
@[simp] theorem Tile.setV_saved (t : Tile) (i : Nat) (a : Wide) : (t.setV i a).saved = t.saved := rfl
@[simp] theorem Tile.setV_egress (t : Tile) (i : Nat) (a : Wide) : (t.setV i a).egress = t.egress := rfl
@[simp] theorem Tile.setV_egressNo (t : Tile) (i : Nat) (a : Wide) : (t.setV i a).egressNo = t.egressNo := rfl
@[simp] theorem Tile.setV_diverged (t : Tile) (i : Nat) (a : Wide) : (t.setV i a).diverged = t.diverged := rfl

/-! ### `Tile.setLatch` -/

@[simp] theorem Tile.setLatch_x (t : Tile) (k p : Nat) (a : Wide) : (t.setLatch k p a).x = t.x := rfl
@[simp] theorem Tile.setLatch_v (t : Tile) (k p : Nat) (a : Wide) : (t.setLatch k p a).v = t.v := rfl
@[simp] theorem Tile.setLatch_g (t : Tile) (k p : Nat) (a : Wide) : (t.setLatch k p a).g = t.g := rfl
@[simp] theorem Tile.setLatch_latches (t : Tile) (k p : Nat) (a : Wide) : (t.setLatch k p a).latches = vset t.latches (4 * k + p) a := rfl
@[simp] theorem Tile.setLatch_socks (t : Tile) (k p : Nat) (a : Wide) : (t.setLatch k p a).socks = t.socks := rfl
@[simp] theorem Tile.setLatch_seq (t : Tile) (k p : Nat) (a : Wide) : (t.setLatch k p a).seq = t.seq := rfl
@[simp] theorem Tile.setLatch_pc (t : Tile) (k p : Nat) (a : Wide) : (t.setLatch k p a).pc = t.pc := rfl
@[simp] theorem Tile.setLatch_loops (t : Tile) (k p : Nat) (a : Wide) : (t.setLatch k p a).loops = t.loops := rfl
@[simp] theorem Tile.setLatch_depth (t : Tile) (k p : Nat) (a : Wide) : (t.setLatch k p a).depth = t.depth := rfl
@[simp] theorem Tile.setLatch_tctl (t : Tile) (k p : Nat) (a : Wide) : (t.setLatch k p a).tctl = t.tctl := rfl
@[simp] theorem Tile.setLatch_vctl (t : Tile) (k p : Nat) (a : Wide) : (t.setLatch k p a).vctl = t.vctl := rfl
@[simp] theorem Tile.setLatch_vstat (t : Tile) (k p : Nat) (a : Wide) : (t.setLatch k p a).vstat = t.vstat := rfl
@[simp] theorem Tile.setLatch_flagsAt (t : Tile) (k p : Nat) (a : Wide) : (t.setLatch k p a).flagsAt = t.flagsAt := rfl
@[simp] theorem Tile.setLatch_mshape (t : Tile) (k p : Nat) (a : Wide) : (t.setLatch k p a).mshape = t.mshape := rfl
@[simp] theorem Tile.setLatch_cir (t : Tile) (k p : Nat) (a : Wide) : (t.setLatch k p a).cir = t.cir := rfl
@[simp] theorem Tile.setLatch_relmask (t : Tile) (k p : Nat) (a : Wide) : (t.setLatch k p a).relmask = t.relmask := rfl
@[simp] theorem Tile.setLatch_beta (t : Tile) (k p : Nat) (a : Wide) : (t.setLatch k p a).beta = t.beta := rfl
@[simp] theorem Tile.setLatch_wid (t : Tile) (k p : Nat) (a : Wide) : (t.setLatch k p a).wid = t.wid := rfl
@[simp] theorem Tile.setLatch_widf (t : Tile) (k p : Nat) (a : Wide) : (t.setLatch k p a).widf = t.widf := rfl
@[simp] theorem Tile.setLatch_segt (t : Tile) (k p : Nat) (a : Wide) : (t.setLatch k p a).segt = t.segt := rfl
@[simp] theorem Tile.setLatch_fmtt (t : Tile) (k p : Nat) (a : Wide) : (t.setLatch k p a).fmtt = t.fmtt := rfl
@[simp] theorem Tile.setLatch_spcnt (t : Tile) (k p : Nat) (a : Wide) : (t.setLatch k p a).spcnt = t.spcnt := rfl
@[simp] theorem Tile.setLatch_mxown (t : Tile) (k p : Nat) (a : Wide) : (t.setLatch k p a).mxown = t.mxown := rfl
@[simp] theorem Tile.setLatch_mxOwner (t : Tile) (k p : Nat) (a : Wide) : (t.setLatch k p a).mxOwner = t.mxOwner := rfl
@[simp] theorem Tile.setLatch_tstat (t : Tile) (k p : Nat) (a : Wide) : (t.setLatch k p a).tstat = t.tstat := rfl
@[simp] theorem Tile.setLatch_tcause (t : Tile) (k p : Nat) (a : Wide) : (t.setLatch k p a).tcause = t.tcause := rfl
@[simp] theorem Tile.setLatch_tepc (t : Tile) (k p : Nat) (a : Wide) : (t.setLatch k p a).tepc = t.tepc := rfl
@[simp] theorem Tile.setLatch_tinfo (t : Tile) (k p : Nat) (a : Wide) : (t.setLatch k p a).tinfo = t.tinfo := rfl
@[simp] theorem Tile.setLatch_tvec (t : Tile) (k p : Nat) (a : Wide) : (t.setLatch k p a).tvec = t.tvec := rfl
@[simp] theorem Tile.setLatch_tscr (t : Tile) (k p : Nat) (a : Wide) : (t.setLatch k p a).tscr = t.tscr := rfl
@[simp] theorem Tile.setLatch_ctxb (t : Tile) (k p : Nat) (a : Wide) : (t.setLatch k p a).ctxb = t.ctxb := rfl
@[simp] theorem Tile.setLatch_segtSet (t : Tile) (k p : Nat) (a : Wide) : (t.setLatch k p a).segtSet = t.segtSet := rfl
@[simp] theorem Tile.setLatch_segs (t : Tile) (k p : Nat) (a : Wide) : (t.setLatch k p a).segs = t.segs := rfl
@[simp] theorem Tile.setLatch_dialSample (t : Tile) (k p : Nat) (a : Wide) : (t.setLatch k p a).dialSample = t.dialSample := rfl
@[simp] theorem Tile.setLatch_ls (t : Tile) (k p : Nat) (a : Wide) : (t.setLatch k p a).ls = t.ls := rfl
@[simp] theorem Tile.setLatch_lsPoison (t : Tile) (k p : Nat) (a : Wide) : (t.setLatch k p a).lsPoison = t.lsPoison := rfl
@[simp] theorem Tile.setLatch_lsPending (t : Tile) (k p : Nat) (a : Wide) : (t.setLatch k p a).lsPending = t.lsPending := rfl
@[simp] theorem Tile.setLatch_tagsWas (t : Tile) (k p : Nat) (a : Wide) : (t.setLatch k p a).tagsWas = t.tagsWas := rfl
@[simp] theorem Tile.setLatch_landedIn (t : Tile) (k p : Nat) (a : Wide) : (t.setLatch k p a).landedIn = t.landedIn := rfl
@[simp] theorem Tile.setLatch_recent (t : Tile) (k p : Nat) (a : Wide) : (t.setLatch k p a).recent = t.recent := rfl
@[simp] theorem Tile.setLatch_fetchedAt (t : Tile) (k p : Nat) (a : Wide) : (t.setLatch k p a).fetchedAt = t.fetchedAt := rfl
@[simp] theorem Tile.setLatch_freshAt (t : Tile) (k p : Nat) (a : Wide) : (t.setLatch k p a).freshAt = t.freshAt := rfl
@[simp] theorem Tile.setLatch_streams (t : Tile) (k p : Nat) (a : Wide) : (t.setLatch k p a).streams = t.streams := rfl
@[simp] theorem Tile.setLatch_fillQ (t : Tile) (k p : Nat) (a : Wide) : (t.setLatch k p a).fillQ = t.fillQ := rfl
@[simp] theorem Tile.setLatch_fillCount (t : Tile) (k p : Nat) (a : Wide) : (t.setLatch k p a).fillCount = t.fillCount := rfl
@[simp] theorem Tile.setLatch_rmws (t : Tile) (k p : Nat) (a : Wide) : (t.setLatch k p a).rmws = t.rmws := rfl
@[simp] theorem Tile.setLatch_rings (t : Tile) (k p : Nat) (a : Wide) : (t.setLatch k p a).rings = t.rings := rfl
@[simp] theorem Tile.setLatch_heldStores (t : Tile) (k p : Nat) (a : Wide) : (t.setLatch k p a).heldStores = t.heldStores := rfl
@[simp] theorem Tile.setLatch_ac (t : Tile) (k p : Nat) (a : Wide) : (t.setLatch k p a).ac = t.ac := rfl
@[simp] theorem Tile.setLatch_acOld (t : Tile) (k p : Nat) (a : Wide) : (t.setLatch k p a).acOld = t.acOld := rfl
@[simp] theorem Tile.setLatch_m (t : Tile) (k p : Nat) (a : Wide) : (t.setLatch k p a).m = t.m := rfl
@[simp] theorem Tile.setLatch_op4s (t : Tile) (k p : Nat) (a : Wide) : (t.setLatch k p a).op4s = t.op4s := rfl
@[simp] theorem Tile.setLatch_maccs (t : Tile) (k p : Nat) (a : Wide) : (t.setLatch k p a).maccs = t.maccs := rfl
@[simp] theorem Tile.setLatch_mac (t : Tile) (k p : Nat) (a : Wide) : (t.setLatch k p a).mac = t.mac := rfl
@[simp] theorem Tile.setLatch_cc (t : Tile) (k p : Nat) (a : Wide) : (t.setLatch k p a).cc = t.cc := rfl
@[simp] theorem Tile.setLatch_mb (t : Tile) (k p : Nat) (a : Wide) : (t.setLatch k p a).mb = t.mb := rfl
@[simp] theorem Tile.setLatch_lstat (t : Tile) (k p : Nat) (a : Wide) : (t.setLatch k p a).lstat = t.lstat := rfl
@[simp] theorem Tile.setLatch_lcc (t : Tile) (k p : Nat) (a : Wide) : (t.setLatch k p a).lcc = t.lcc := rfl
@[simp] theorem Tile.setLatch_lidx (t : Tile) (k p : Nat) (a : Wide) : (t.setLatch k p a).lidx = t.lidx := rfl
@[simp] theorem Tile.setLatch_nack (t : Tile) (k p : Nat) (a : Wide) : (t.setLatch k p a).nack = t.nack := rfl
@[simp] theorem Tile.setLatch_reqNo (t : Tile) (k p : Nat) (a : Wide) : (t.setLatch k p a).reqNo = t.reqNo := rfl
@[simp] theorem Tile.setLatch_holdNo (t : Tile) (k p : Nat) (a : Wide) : (t.setLatch k p a).holdNo = t.holdNo := rfl
@[simp] theorem Tile.setLatch_seqNo (t : Tile) (k p : Nat) (a : Wide) : (t.setLatch k p a).seqNo = t.seqNo := rfl
@[simp] theorem Tile.setLatch_far (t : Tile) (k p : Nat) (a : Wide) : (t.setLatch k p a).far = t.far := rfl
@[simp] theorem Tile.setLatch_copies (t : Tile) (k p : Nat) (a : Wide) : (t.setLatch k p a).copies = t.copies := rfl
@[simp] theorem Tile.setLatch_egressFree (t : Tile) (k p : Nat) (a : Wide) : (t.setLatch k p a).egressFree = t.egressFree := rfl
@[simp] theorem Tile.setLatch_ingressAt (t : Tile) (k p : Nat) (a : Wide) : (t.setLatch k p a).ingressAt = t.ingressAt := rfl
@[simp] theorem Tile.setLatch_dmas (t : Tile) (k p : Nat) (a : Wide) : (t.setLatch k p a).dmas = t.dmas := rfl
@[simp] theorem Tile.setLatch_dmaFree (t : Tile) (k p : Nat) (a : Wide) : (t.setLatch k p a).dmaFree = t.dmaFree := rfl
@[simp] theorem Tile.setLatch_spawns (t : Tile) (k p : Nat) (a : Wide) : (t.setLatch k p a).spawns = t.spawns := rfl
@[simp] theorem Tile.setLatch_spawnIn (t : Tile) (k p : Nat) (a : Wide) : (t.setLatch k p a).spawnIn = t.spawnIn := rfl
@[simp] theorem Tile.setLatch_fences (t : Tile) (k p : Nat) (a : Wide) : (t.setLatch k p a).fences = t.fences := rfl
@[simp] theorem Tile.setLatch_layoutWait (t : Tile) (k p : Nat) (a : Wide) : (t.setLatch k p a).layoutWait = t.layoutWait := rfl
@[simp] theorem Tile.setLatch_colls (t : Tile) (k p : Nat) (a : Wide) : (t.setLatch k p a).colls = t.colls := rfl
@[simp] theorem Tile.setLatch_waddrAt (t : Tile) (k p : Nat) (a : Wide) : (t.setLatch k p a).waddrAt = t.waddrAt := rfl
@[simp] theorem Tile.setLatch_waddrOut (t : Tile) (k p : Nat) (a : Wide) : (t.setLatch k p a).waddrOut = t.waddrOut := rfl
@[simp] theorem Tile.setLatch_bal (t : Tile) (k p : Nat) (a : Wide) : (t.setLatch k p a).bal = t.bal := rfl
@[simp] theorem Tile.setLatch_kyJobs (t : Tile) (k p : Nat) (a : Wide) : (t.setLatch k p a).kyJobs = t.kyJobs := rfl
@[simp] theorem Tile.setLatch_sha (t : Tile) (k p : Nat) (a : Wide) : (t.setLatch k p a).sha = t.sha := rfl
@[simp] theorem Tile.setLatch_pend (t : Tile) (k p : Nat) (a : Wide) : (t.setLatch k p a).pend = t.pend := rfl
@[simp] theorem Tile.setLatch_counters (t : Tile) (k p : Nat) (a : Wide) : (t.setLatch k p a).counters = t.counters := rfl
@[simp] theorem Tile.setLatch_cntNew (t : Tile) (k p : Nat) (a : Wide) : (t.setLatch k p a).cntNew = t.cntNew := rfl
@[simp] theorem Tile.setLatch_snap (t : Tile) (k p : Nat) (a : Wide) : (t.setLatch k p a).snap = t.snap := rfl
@[simp] theorem Tile.setLatch_run (t : Tile) (k p : Nat) (a : Wide) : (t.setLatch k p a).run = t.run := rfl
@[simp] theorem Tile.setLatch_dead (t : Tile) (k p : Nat) (a : Wide) : (t.setLatch k p a).dead = t.dead := rfl
@[simp] theorem Tile.setLatch_fenced (t : Tile) (k p : Nat) (a : Wide) : (t.setLatch k p a).fenced = t.fenced := rfl
@[simp] theorem Tile.setLatch_nextAt (t : Tile) (k p : Nat) (a : Wide) : (t.setLatch k p a).nextAt = t.nextAt := rfl
@[simp] theorem Tile.setLatch_idleEnd (t : Tile) (k p : Nat) (a : Wide) : (t.setLatch k p a).idleEnd = t.idleEnd := rfl
@[simp] theorem Tile.setLatch_kBase (t : Tile) (k p : Nat) (a : Wide) : (t.setLatch k p a).kBase = t.kBase := rfl
@[simp] theorem Tile.setLatch_intFrom (t : Tile) (k p : Nat) (a : Wide) : (t.setLatch k p a).intFrom = t.intFrom := rfl
@[simp] theorem Tile.setLatch_gapEnd (t : Tile) (k p : Nat) (a : Wide) : (t.setLatch k p a).gapEnd = t.gapEnd := rfl
@[simp] theorem Tile.setLatch_stall (t : Tile) (k p : Nat) (a : Wide) : (t.setLatch k p a).stall = t.stall := rfl
@[simp] theorem Tile.setLatch_launch (t : Tile) (k p : Nat) (a : Wide) : (t.setLatch k p a).launch = t.launch := rfl
@[simp] theorem Tile.setLatch_tlin (t : Tile) (k p : Nat) (a : Wide) : (t.setLatch k p a).tlin = t.tlin := rfl
@[simp] theorem Tile.setLatch_isSpawn (t : Tile) (k p : Nat) (a : Wide) : (t.setLatch k p a).isSpawn = t.isSpawn := rfl
@[simp] theorem Tile.setLatch_sstep (t : Tile) (k p : Nat) (a : Wide) : (t.setLatch k p a).sstep = t.sstep := rfl
@[simp] theorem Tile.setLatch_arrivedAt (t : Tile) (k p : Nat) (a : Wide) : (t.setLatch k p a).arrivedAt = t.arrivedAt := rfl
@[simp] theorem Tile.setLatch_plandir (t : Tile) (k p : Nat) (a : Wide) : (t.setLatch k p a).plandir = t.plandir := rfl
@[simp] theorem Tile.setLatch_switchPend (t : Tile) (k p : Nat) (a : Wide) : (t.setLatch k p a).switchPend = t.switchPend := rfl
@[simp] theorem Tile.setLatch_switchAt (t : Tile) (k p : Nat) (a : Wide) : (t.setLatch k p a).switchAt = t.switchAt := rfl
@[simp] theorem Tile.setLatch_saved (t : Tile) (k p : Nat) (a : Wide) : (t.setLatch k p a).saved = t.saved := rfl
@[simp] theorem Tile.setLatch_egress (t : Tile) (k p : Nat) (a : Wide) : (t.setLatch k p a).egress = t.egress := rfl
@[simp] theorem Tile.setLatch_egressNo (t : Tile) (k p : Nat) (a : Wide) : (t.setLatch k p a).egressNo = t.egressNo := rfl
@[simp] theorem Tile.setLatch_diverged (t : Tile) (k p : Nat) (a : Wide) : (t.setLatch k p a).diverged = t.diverged := rfl

/-! ### `Tile.setSock` -/

@[simp] theorem Tile.setSock_x (t : Tile) (i : Nat) (q : SockQ) : (t.setSock i q).x = t.x := rfl
@[simp] theorem Tile.setSock_v (t : Tile) (i : Nat) (q : SockQ) : (t.setSock i q).v = t.v := rfl
@[simp] theorem Tile.setSock_g (t : Tile) (i : Nat) (q : SockQ) : (t.setSock i q).g = t.g := rfl
@[simp] theorem Tile.setSock_latches (t : Tile) (i : Nat) (q : SockQ) : (t.setSock i q).latches = t.latches := rfl
@[simp] theorem Tile.setSock_socks (t : Tile) (i : Nat) (q : SockQ) : (t.setSock i q).socks = vset t.socks i q := rfl
@[simp] theorem Tile.setSock_seq (t : Tile) (i : Nat) (q : SockQ) : (t.setSock i q).seq = t.seq := rfl
@[simp] theorem Tile.setSock_pc (t : Tile) (i : Nat) (q : SockQ) : (t.setSock i q).pc = t.pc := rfl
@[simp] theorem Tile.setSock_loops (t : Tile) (i : Nat) (q : SockQ) : (t.setSock i q).loops = t.loops := rfl
@[simp] theorem Tile.setSock_depth (t : Tile) (i : Nat) (q : SockQ) : (t.setSock i q).depth = t.depth := rfl
@[simp] theorem Tile.setSock_tctl (t : Tile) (i : Nat) (q : SockQ) : (t.setSock i q).tctl = t.tctl := rfl
@[simp] theorem Tile.setSock_vctl (t : Tile) (i : Nat) (q : SockQ) : (t.setSock i q).vctl = t.vctl := rfl
@[simp] theorem Tile.setSock_vstat (t : Tile) (i : Nat) (q : SockQ) : (t.setSock i q).vstat = t.vstat := rfl
@[simp] theorem Tile.setSock_flagsAt (t : Tile) (i : Nat) (q : SockQ) : (t.setSock i q).flagsAt = t.flagsAt := rfl
@[simp] theorem Tile.setSock_mshape (t : Tile) (i : Nat) (q : SockQ) : (t.setSock i q).mshape = t.mshape := rfl
@[simp] theorem Tile.setSock_cir (t : Tile) (i : Nat) (q : SockQ) : (t.setSock i q).cir = t.cir := rfl
@[simp] theorem Tile.setSock_relmask (t : Tile) (i : Nat) (q : SockQ) : (t.setSock i q).relmask = t.relmask := rfl
@[simp] theorem Tile.setSock_beta (t : Tile) (i : Nat) (q : SockQ) : (t.setSock i q).beta = t.beta := rfl
@[simp] theorem Tile.setSock_wid (t : Tile) (i : Nat) (q : SockQ) : (t.setSock i q).wid = t.wid := rfl
@[simp] theorem Tile.setSock_widf (t : Tile) (i : Nat) (q : SockQ) : (t.setSock i q).widf = t.widf := rfl
@[simp] theorem Tile.setSock_segt (t : Tile) (i : Nat) (q : SockQ) : (t.setSock i q).segt = t.segt := rfl
@[simp] theorem Tile.setSock_fmtt (t : Tile) (i : Nat) (q : SockQ) : (t.setSock i q).fmtt = t.fmtt := rfl
@[simp] theorem Tile.setSock_spcnt (t : Tile) (i : Nat) (q : SockQ) : (t.setSock i q).spcnt = t.spcnt := rfl
@[simp] theorem Tile.setSock_mxown (t : Tile) (i : Nat) (q : SockQ) : (t.setSock i q).mxown = t.mxown := rfl
@[simp] theorem Tile.setSock_mxOwner (t : Tile) (i : Nat) (q : SockQ) : (t.setSock i q).mxOwner = t.mxOwner := rfl
@[simp] theorem Tile.setSock_tstat (t : Tile) (i : Nat) (q : SockQ) : (t.setSock i q).tstat = t.tstat := rfl
@[simp] theorem Tile.setSock_tcause (t : Tile) (i : Nat) (q : SockQ) : (t.setSock i q).tcause = t.tcause := rfl
@[simp] theorem Tile.setSock_tepc (t : Tile) (i : Nat) (q : SockQ) : (t.setSock i q).tepc = t.tepc := rfl
@[simp] theorem Tile.setSock_tinfo (t : Tile) (i : Nat) (q : SockQ) : (t.setSock i q).tinfo = t.tinfo := rfl
@[simp] theorem Tile.setSock_tvec (t : Tile) (i : Nat) (q : SockQ) : (t.setSock i q).tvec = t.tvec := rfl
@[simp] theorem Tile.setSock_tscr (t : Tile) (i : Nat) (q : SockQ) : (t.setSock i q).tscr = t.tscr := rfl
@[simp] theorem Tile.setSock_ctxb (t : Tile) (i : Nat) (q : SockQ) : (t.setSock i q).ctxb = t.ctxb := rfl
@[simp] theorem Tile.setSock_segtSet (t : Tile) (i : Nat) (q : SockQ) : (t.setSock i q).segtSet = t.segtSet := rfl
@[simp] theorem Tile.setSock_segs (t : Tile) (i : Nat) (q : SockQ) : (t.setSock i q).segs = t.segs := rfl
@[simp] theorem Tile.setSock_dialSample (t : Tile) (i : Nat) (q : SockQ) : (t.setSock i q).dialSample = t.dialSample := rfl
@[simp] theorem Tile.setSock_ls (t : Tile) (i : Nat) (q : SockQ) : (t.setSock i q).ls = t.ls := rfl
@[simp] theorem Tile.setSock_lsPoison (t : Tile) (i : Nat) (q : SockQ) : (t.setSock i q).lsPoison = t.lsPoison := rfl
@[simp] theorem Tile.setSock_lsPending (t : Tile) (i : Nat) (q : SockQ) : (t.setSock i q).lsPending = t.lsPending := rfl
@[simp] theorem Tile.setSock_tagsWas (t : Tile) (i : Nat) (q : SockQ) : (t.setSock i q).tagsWas = t.tagsWas := rfl
@[simp] theorem Tile.setSock_landedIn (t : Tile) (i : Nat) (q : SockQ) : (t.setSock i q).landedIn = t.landedIn := rfl
@[simp] theorem Tile.setSock_recent (t : Tile) (i : Nat) (q : SockQ) : (t.setSock i q).recent = t.recent := rfl
@[simp] theorem Tile.setSock_fetchedAt (t : Tile) (i : Nat) (q : SockQ) : (t.setSock i q).fetchedAt = t.fetchedAt := rfl
@[simp] theorem Tile.setSock_freshAt (t : Tile) (i : Nat) (q : SockQ) : (t.setSock i q).freshAt = t.freshAt := rfl
@[simp] theorem Tile.setSock_streams (t : Tile) (i : Nat) (q : SockQ) : (t.setSock i q).streams = t.streams := rfl
@[simp] theorem Tile.setSock_fillQ (t : Tile) (i : Nat) (q : SockQ) : (t.setSock i q).fillQ = t.fillQ := rfl
@[simp] theorem Tile.setSock_fillCount (t : Tile) (i : Nat) (q : SockQ) : (t.setSock i q).fillCount = t.fillCount := rfl
@[simp] theorem Tile.setSock_rmws (t : Tile) (i : Nat) (q : SockQ) : (t.setSock i q).rmws = t.rmws := rfl
@[simp] theorem Tile.setSock_rings (t : Tile) (i : Nat) (q : SockQ) : (t.setSock i q).rings = t.rings := rfl
@[simp] theorem Tile.setSock_heldStores (t : Tile) (i : Nat) (q : SockQ) : (t.setSock i q).heldStores = t.heldStores := rfl
@[simp] theorem Tile.setSock_ac (t : Tile) (i : Nat) (q : SockQ) : (t.setSock i q).ac = t.ac := rfl
@[simp] theorem Tile.setSock_acOld (t : Tile) (i : Nat) (q : SockQ) : (t.setSock i q).acOld = t.acOld := rfl
@[simp] theorem Tile.setSock_m (t : Tile) (i : Nat) (q : SockQ) : (t.setSock i q).m = t.m := rfl
@[simp] theorem Tile.setSock_op4s (t : Tile) (i : Nat) (q : SockQ) : (t.setSock i q).op4s = t.op4s := rfl
@[simp] theorem Tile.setSock_maccs (t : Tile) (i : Nat) (q : SockQ) : (t.setSock i q).maccs = t.maccs := rfl
@[simp] theorem Tile.setSock_mac (t : Tile) (i : Nat) (q : SockQ) : (t.setSock i q).mac = t.mac := rfl
@[simp] theorem Tile.setSock_cc (t : Tile) (i : Nat) (q : SockQ) : (t.setSock i q).cc = t.cc := rfl
@[simp] theorem Tile.setSock_mb (t : Tile) (i : Nat) (q : SockQ) : (t.setSock i q).mb = t.mb := rfl
@[simp] theorem Tile.setSock_lstat (t : Tile) (i : Nat) (q : SockQ) : (t.setSock i q).lstat = t.lstat := rfl
@[simp] theorem Tile.setSock_lcc (t : Tile) (i : Nat) (q : SockQ) : (t.setSock i q).lcc = t.lcc := rfl
@[simp] theorem Tile.setSock_lidx (t : Tile) (i : Nat) (q : SockQ) : (t.setSock i q).lidx = t.lidx := rfl
@[simp] theorem Tile.setSock_nack (t : Tile) (i : Nat) (q : SockQ) : (t.setSock i q).nack = t.nack := rfl
@[simp] theorem Tile.setSock_reqNo (t : Tile) (i : Nat) (q : SockQ) : (t.setSock i q).reqNo = t.reqNo := rfl
@[simp] theorem Tile.setSock_holdNo (t : Tile) (i : Nat) (q : SockQ) : (t.setSock i q).holdNo = t.holdNo := rfl
@[simp] theorem Tile.setSock_seqNo (t : Tile) (i : Nat) (q : SockQ) : (t.setSock i q).seqNo = t.seqNo := rfl
@[simp] theorem Tile.setSock_far (t : Tile) (i : Nat) (q : SockQ) : (t.setSock i q).far = t.far := rfl
@[simp] theorem Tile.setSock_copies (t : Tile) (i : Nat) (q : SockQ) : (t.setSock i q).copies = t.copies := rfl
@[simp] theorem Tile.setSock_egressFree (t : Tile) (i : Nat) (q : SockQ) : (t.setSock i q).egressFree = t.egressFree := rfl
@[simp] theorem Tile.setSock_ingressAt (t : Tile) (i : Nat) (q : SockQ) : (t.setSock i q).ingressAt = t.ingressAt := rfl
@[simp] theorem Tile.setSock_dmas (t : Tile) (i : Nat) (q : SockQ) : (t.setSock i q).dmas = t.dmas := rfl
@[simp] theorem Tile.setSock_dmaFree (t : Tile) (i : Nat) (q : SockQ) : (t.setSock i q).dmaFree = t.dmaFree := rfl
@[simp] theorem Tile.setSock_spawns (t : Tile) (i : Nat) (q : SockQ) : (t.setSock i q).spawns = t.spawns := rfl
@[simp] theorem Tile.setSock_spawnIn (t : Tile) (i : Nat) (q : SockQ) : (t.setSock i q).spawnIn = t.spawnIn := rfl
@[simp] theorem Tile.setSock_fences (t : Tile) (i : Nat) (q : SockQ) : (t.setSock i q).fences = t.fences := rfl
@[simp] theorem Tile.setSock_layoutWait (t : Tile) (i : Nat) (q : SockQ) : (t.setSock i q).layoutWait = t.layoutWait := rfl
@[simp] theorem Tile.setSock_colls (t : Tile) (i : Nat) (q : SockQ) : (t.setSock i q).colls = t.colls := rfl
@[simp] theorem Tile.setSock_waddrAt (t : Tile) (i : Nat) (q : SockQ) : (t.setSock i q).waddrAt = t.waddrAt := rfl
@[simp] theorem Tile.setSock_waddrOut (t : Tile) (i : Nat) (q : SockQ) : (t.setSock i q).waddrOut = t.waddrOut := rfl
@[simp] theorem Tile.setSock_bal (t : Tile) (i : Nat) (q : SockQ) : (t.setSock i q).bal = t.bal := rfl
@[simp] theorem Tile.setSock_kyJobs (t : Tile) (i : Nat) (q : SockQ) : (t.setSock i q).kyJobs = t.kyJobs := rfl
@[simp] theorem Tile.setSock_sha (t : Tile) (i : Nat) (q : SockQ) : (t.setSock i q).sha = t.sha := rfl
@[simp] theorem Tile.setSock_pend (t : Tile) (i : Nat) (q : SockQ) : (t.setSock i q).pend = t.pend := rfl
@[simp] theorem Tile.setSock_counters (t : Tile) (i : Nat) (q : SockQ) : (t.setSock i q).counters = t.counters := rfl
@[simp] theorem Tile.setSock_cntNew (t : Tile) (i : Nat) (q : SockQ) : (t.setSock i q).cntNew = t.cntNew := rfl
@[simp] theorem Tile.setSock_snap (t : Tile) (i : Nat) (q : SockQ) : (t.setSock i q).snap = t.snap := rfl
@[simp] theorem Tile.setSock_run (t : Tile) (i : Nat) (q : SockQ) : (t.setSock i q).run = t.run := rfl
@[simp] theorem Tile.setSock_dead (t : Tile) (i : Nat) (q : SockQ) : (t.setSock i q).dead = t.dead := rfl
@[simp] theorem Tile.setSock_fenced (t : Tile) (i : Nat) (q : SockQ) : (t.setSock i q).fenced = t.fenced := rfl
@[simp] theorem Tile.setSock_nextAt (t : Tile) (i : Nat) (q : SockQ) : (t.setSock i q).nextAt = t.nextAt := rfl
@[simp] theorem Tile.setSock_idleEnd (t : Tile) (i : Nat) (q : SockQ) : (t.setSock i q).idleEnd = t.idleEnd := rfl
@[simp] theorem Tile.setSock_kBase (t : Tile) (i : Nat) (q : SockQ) : (t.setSock i q).kBase = t.kBase := rfl
@[simp] theorem Tile.setSock_intFrom (t : Tile) (i : Nat) (q : SockQ) : (t.setSock i q).intFrom = t.intFrom := rfl
@[simp] theorem Tile.setSock_gapEnd (t : Tile) (i : Nat) (q : SockQ) : (t.setSock i q).gapEnd = t.gapEnd := rfl
@[simp] theorem Tile.setSock_stall (t : Tile) (i : Nat) (q : SockQ) : (t.setSock i q).stall = t.stall := rfl
@[simp] theorem Tile.setSock_launch (t : Tile) (i : Nat) (q : SockQ) : (t.setSock i q).launch = t.launch := rfl
@[simp] theorem Tile.setSock_tlin (t : Tile) (i : Nat) (q : SockQ) : (t.setSock i q).tlin = t.tlin := rfl
@[simp] theorem Tile.setSock_isSpawn (t : Tile) (i : Nat) (q : SockQ) : (t.setSock i q).isSpawn = t.isSpawn := rfl
@[simp] theorem Tile.setSock_sstep (t : Tile) (i : Nat) (q : SockQ) : (t.setSock i q).sstep = t.sstep := rfl
@[simp] theorem Tile.setSock_arrivedAt (t : Tile) (i : Nat) (q : SockQ) : (t.setSock i q).arrivedAt = t.arrivedAt := rfl
@[simp] theorem Tile.setSock_plandir (t : Tile) (i : Nat) (q : SockQ) : (t.setSock i q).plandir = t.plandir := rfl
@[simp] theorem Tile.setSock_switchPend (t : Tile) (i : Nat) (q : SockQ) : (t.setSock i q).switchPend = t.switchPend := rfl
@[simp] theorem Tile.setSock_switchAt (t : Tile) (i : Nat) (q : SockQ) : (t.setSock i q).switchAt = t.switchAt := rfl
@[simp] theorem Tile.setSock_saved (t : Tile) (i : Nat) (q : SockQ) : (t.setSock i q).saved = t.saved := rfl
@[simp] theorem Tile.setSock_egress (t : Tile) (i : Nat) (q : SockQ) : (t.setSock i q).egress = t.egress := rfl
@[simp] theorem Tile.setSock_egressNo (t : Tile) (i : Nat) (q : SockQ) : (t.setSock i q).egressNo = t.egressNo := rfl
@[simp] theorem Tile.setSock_diverged (t : Tile) (i : Nat) (q : SockQ) : (t.setSock i q).diverged = t.diverged := rfl

/-! ### `Tile.setCir` -/

@[simp] theorem Tile.setCir_x (t : Tile) (i : Nat) : (t.setCir i).x = t.x := rfl
@[simp] theorem Tile.setCir_v (t : Tile) (i : Nat) : (t.setCir i).v = t.v := rfl
@[simp] theorem Tile.setCir_g (t : Tile) (i : Nat) : (t.setCir i).g = t.g := rfl
@[simp] theorem Tile.setCir_latches (t : Tile) (i : Nat) : (t.setCir i).latches = t.latches := rfl
@[simp] theorem Tile.setCir_socks (t : Tile) (i : Nat) : (t.setCir i).socks = t.socks := rfl
@[simp] theorem Tile.setCir_seq (t : Tile) (i : Nat) : (t.setCir i).seq = t.seq := rfl
@[simp] theorem Tile.setCir_pc (t : Tile) (i : Nat) : (t.setCir i).pc = t.pc := rfl
@[simp] theorem Tile.setCir_loops (t : Tile) (i : Nat) : (t.setCir i).loops = t.loops := rfl
@[simp] theorem Tile.setCir_depth (t : Tile) (i : Nat) : (t.setCir i).depth = t.depth := rfl
@[simp] theorem Tile.setCir_tctl (t : Tile) (i : Nat) : (t.setCir i).tctl = t.tctl := rfl
@[simp] theorem Tile.setCir_vctl (t : Tile) (i : Nat) : (t.setCir i).vctl = t.vctl := rfl
@[simp] theorem Tile.setCir_vstat (t : Tile) (i : Nat) : (t.setCir i).vstat = t.vstat := rfl
@[simp] theorem Tile.setCir_flagsAt (t : Tile) (i : Nat) : (t.setCir i).flagsAt = t.flagsAt := rfl
@[simp] theorem Tile.setCir_mshape (t : Tile) (i : Nat) : (t.setCir i).mshape = t.mshape := rfl
@[simp] theorem Tile.setCir_cir (t : Tile) (i : Nat) : (t.setCir i).cir = t.cir ||| ((1 : Word) <<< i) := rfl
@[simp] theorem Tile.setCir_relmask (t : Tile) (i : Nat) : (t.setCir i).relmask = t.relmask := rfl
@[simp] theorem Tile.setCir_beta (t : Tile) (i : Nat) : (t.setCir i).beta = t.beta := rfl
@[simp] theorem Tile.setCir_wid (t : Tile) (i : Nat) : (t.setCir i).wid = t.wid := rfl
@[simp] theorem Tile.setCir_widf (t : Tile) (i : Nat) : (t.setCir i).widf = t.widf := rfl
@[simp] theorem Tile.setCir_segt (t : Tile) (i : Nat) : (t.setCir i).segt = t.segt := rfl
@[simp] theorem Tile.setCir_fmtt (t : Tile) (i : Nat) : (t.setCir i).fmtt = t.fmtt := rfl
@[simp] theorem Tile.setCir_spcnt (t : Tile) (i : Nat) : (t.setCir i).spcnt = t.spcnt := rfl
@[simp] theorem Tile.setCir_mxown (t : Tile) (i : Nat) : (t.setCir i).mxown = t.mxown := rfl
@[simp] theorem Tile.setCir_mxOwner (t : Tile) (i : Nat) : (t.setCir i).mxOwner = t.mxOwner := rfl
@[simp] theorem Tile.setCir_tstat (t : Tile) (i : Nat) : (t.setCir i).tstat = t.tstat := rfl
@[simp] theorem Tile.setCir_tcause (t : Tile) (i : Nat) : (t.setCir i).tcause = t.tcause := rfl
@[simp] theorem Tile.setCir_tepc (t : Tile) (i : Nat) : (t.setCir i).tepc = t.tepc := rfl
@[simp] theorem Tile.setCir_tinfo (t : Tile) (i : Nat) : (t.setCir i).tinfo = t.tinfo := rfl
@[simp] theorem Tile.setCir_tvec (t : Tile) (i : Nat) : (t.setCir i).tvec = t.tvec := rfl
@[simp] theorem Tile.setCir_tscr (t : Tile) (i : Nat) : (t.setCir i).tscr = t.tscr := rfl
@[simp] theorem Tile.setCir_ctxb (t : Tile) (i : Nat) : (t.setCir i).ctxb = t.ctxb := rfl
@[simp] theorem Tile.setCir_segtSet (t : Tile) (i : Nat) : (t.setCir i).segtSet = t.segtSet := rfl
@[simp] theorem Tile.setCir_segs (t : Tile) (i : Nat) : (t.setCir i).segs = t.segs := rfl
@[simp] theorem Tile.setCir_dialSample (t : Tile) (i : Nat) : (t.setCir i).dialSample = t.dialSample := rfl
@[simp] theorem Tile.setCir_ls (t : Tile) (i : Nat) : (t.setCir i).ls = t.ls := rfl
@[simp] theorem Tile.setCir_lsPoison (t : Tile) (i : Nat) : (t.setCir i).lsPoison = t.lsPoison := rfl
@[simp] theorem Tile.setCir_lsPending (t : Tile) (i : Nat) : (t.setCir i).lsPending = t.lsPending := rfl
@[simp] theorem Tile.setCir_tagsWas (t : Tile) (i : Nat) : (t.setCir i).tagsWas = t.tagsWas := rfl
@[simp] theorem Tile.setCir_landedIn (t : Tile) (i : Nat) : (t.setCir i).landedIn = t.landedIn := rfl
@[simp] theorem Tile.setCir_recent (t : Tile) (i : Nat) : (t.setCir i).recent = t.recent := rfl
@[simp] theorem Tile.setCir_fetchedAt (t : Tile) (i : Nat) : (t.setCir i).fetchedAt = t.fetchedAt := rfl
@[simp] theorem Tile.setCir_freshAt (t : Tile) (i : Nat) : (t.setCir i).freshAt = t.freshAt := rfl
@[simp] theorem Tile.setCir_streams (t : Tile) (i : Nat) : (t.setCir i).streams = t.streams := rfl
@[simp] theorem Tile.setCir_fillQ (t : Tile) (i : Nat) : (t.setCir i).fillQ = t.fillQ := rfl
@[simp] theorem Tile.setCir_fillCount (t : Tile) (i : Nat) : (t.setCir i).fillCount = t.fillCount := rfl
@[simp] theorem Tile.setCir_rmws (t : Tile) (i : Nat) : (t.setCir i).rmws = t.rmws := rfl
@[simp] theorem Tile.setCir_rings (t : Tile) (i : Nat) : (t.setCir i).rings = t.rings := rfl
@[simp] theorem Tile.setCir_heldStores (t : Tile) (i : Nat) : (t.setCir i).heldStores = t.heldStores := rfl
@[simp] theorem Tile.setCir_ac (t : Tile) (i : Nat) : (t.setCir i).ac = t.ac := rfl
@[simp] theorem Tile.setCir_acOld (t : Tile) (i : Nat) : (t.setCir i).acOld = t.acOld := rfl
@[simp] theorem Tile.setCir_m (t : Tile) (i : Nat) : (t.setCir i).m = t.m := rfl
@[simp] theorem Tile.setCir_op4s (t : Tile) (i : Nat) : (t.setCir i).op4s = t.op4s := rfl
@[simp] theorem Tile.setCir_maccs (t : Tile) (i : Nat) : (t.setCir i).maccs = t.maccs := rfl
@[simp] theorem Tile.setCir_mac (t : Tile) (i : Nat) : (t.setCir i).mac = t.mac := rfl
@[simp] theorem Tile.setCir_cc (t : Tile) (i : Nat) : (t.setCir i).cc = t.cc := rfl
@[simp] theorem Tile.setCir_mb (t : Tile) (i : Nat) : (t.setCir i).mb = t.mb := rfl
@[simp] theorem Tile.setCir_lstat (t : Tile) (i : Nat) : (t.setCir i).lstat = t.lstat := rfl
@[simp] theorem Tile.setCir_lcc (t : Tile) (i : Nat) : (t.setCir i).lcc = t.lcc := rfl
@[simp] theorem Tile.setCir_lidx (t : Tile) (i : Nat) : (t.setCir i).lidx = t.lidx := rfl
@[simp] theorem Tile.setCir_nack (t : Tile) (i : Nat) : (t.setCir i).nack = t.nack := rfl
@[simp] theorem Tile.setCir_reqNo (t : Tile) (i : Nat) : (t.setCir i).reqNo = t.reqNo := rfl
@[simp] theorem Tile.setCir_holdNo (t : Tile) (i : Nat) : (t.setCir i).holdNo = t.holdNo := rfl
@[simp] theorem Tile.setCir_seqNo (t : Tile) (i : Nat) : (t.setCir i).seqNo = t.seqNo := rfl
@[simp] theorem Tile.setCir_far (t : Tile) (i : Nat) : (t.setCir i).far = t.far := rfl
@[simp] theorem Tile.setCir_copies (t : Tile) (i : Nat) : (t.setCir i).copies = t.copies := rfl
@[simp] theorem Tile.setCir_egressFree (t : Tile) (i : Nat) : (t.setCir i).egressFree = t.egressFree := rfl
@[simp] theorem Tile.setCir_ingressAt (t : Tile) (i : Nat) : (t.setCir i).ingressAt = t.ingressAt := rfl
@[simp] theorem Tile.setCir_dmas (t : Tile) (i : Nat) : (t.setCir i).dmas = t.dmas := rfl
@[simp] theorem Tile.setCir_dmaFree (t : Tile) (i : Nat) : (t.setCir i).dmaFree = t.dmaFree := rfl
@[simp] theorem Tile.setCir_spawns (t : Tile) (i : Nat) : (t.setCir i).spawns = t.spawns := rfl
@[simp] theorem Tile.setCir_spawnIn (t : Tile) (i : Nat) : (t.setCir i).spawnIn = t.spawnIn := rfl
@[simp] theorem Tile.setCir_fences (t : Tile) (i : Nat) : (t.setCir i).fences = t.fences := rfl
@[simp] theorem Tile.setCir_layoutWait (t : Tile) (i : Nat) : (t.setCir i).layoutWait = t.layoutWait := rfl
@[simp] theorem Tile.setCir_colls (t : Tile) (i : Nat) : (t.setCir i).colls = t.colls := rfl
@[simp] theorem Tile.setCir_waddrAt (t : Tile) (i : Nat) : (t.setCir i).waddrAt = t.waddrAt := rfl
@[simp] theorem Tile.setCir_waddrOut (t : Tile) (i : Nat) : (t.setCir i).waddrOut = t.waddrOut := rfl
@[simp] theorem Tile.setCir_bal (t : Tile) (i : Nat) : (t.setCir i).bal = t.bal := rfl
@[simp] theorem Tile.setCir_kyJobs (t : Tile) (i : Nat) : (t.setCir i).kyJobs = t.kyJobs := rfl
@[simp] theorem Tile.setCir_sha (t : Tile) (i : Nat) : (t.setCir i).sha = t.sha := rfl
@[simp] theorem Tile.setCir_pend (t : Tile) (i : Nat) : (t.setCir i).pend = t.pend := rfl
@[simp] theorem Tile.setCir_counters (t : Tile) (i : Nat) : (t.setCir i).counters = t.counters := rfl
@[simp] theorem Tile.setCir_cntNew (t : Tile) (i : Nat) : (t.setCir i).cntNew = t.cntNew := rfl
@[simp] theorem Tile.setCir_snap (t : Tile) (i : Nat) : (t.setCir i).snap = t.snap := rfl
@[simp] theorem Tile.setCir_run (t : Tile) (i : Nat) : (t.setCir i).run = t.run := rfl
@[simp] theorem Tile.setCir_dead (t : Tile) (i : Nat) : (t.setCir i).dead = t.dead := rfl
@[simp] theorem Tile.setCir_fenced (t : Tile) (i : Nat) : (t.setCir i).fenced = t.fenced := rfl
@[simp] theorem Tile.setCir_nextAt (t : Tile) (i : Nat) : (t.setCir i).nextAt = t.nextAt := rfl
@[simp] theorem Tile.setCir_idleEnd (t : Tile) (i : Nat) : (t.setCir i).idleEnd = t.idleEnd := rfl
@[simp] theorem Tile.setCir_kBase (t : Tile) (i : Nat) : (t.setCir i).kBase = t.kBase := rfl
@[simp] theorem Tile.setCir_intFrom (t : Tile) (i : Nat) : (t.setCir i).intFrom = t.intFrom := rfl
@[simp] theorem Tile.setCir_gapEnd (t : Tile) (i : Nat) : (t.setCir i).gapEnd = t.gapEnd := rfl
@[simp] theorem Tile.setCir_stall (t : Tile) (i : Nat) : (t.setCir i).stall = t.stall := rfl
@[simp] theorem Tile.setCir_launch (t : Tile) (i : Nat) : (t.setCir i).launch = t.launch := rfl
@[simp] theorem Tile.setCir_tlin (t : Tile) (i : Nat) : (t.setCir i).tlin = t.tlin := rfl
@[simp] theorem Tile.setCir_isSpawn (t : Tile) (i : Nat) : (t.setCir i).isSpawn = t.isSpawn := rfl
@[simp] theorem Tile.setCir_sstep (t : Tile) (i : Nat) : (t.setCir i).sstep = t.sstep := rfl
@[simp] theorem Tile.setCir_arrivedAt (t : Tile) (i : Nat) : (t.setCir i).arrivedAt = t.arrivedAt := rfl
@[simp] theorem Tile.setCir_plandir (t : Tile) (i : Nat) : (t.setCir i).plandir = t.plandir := rfl
@[simp] theorem Tile.setCir_switchPend (t : Tile) (i : Nat) : (t.setCir i).switchPend = t.switchPend := rfl
@[simp] theorem Tile.setCir_switchAt (t : Tile) (i : Nat) : (t.setCir i).switchAt = t.switchAt := rfl
@[simp] theorem Tile.setCir_saved (t : Tile) (i : Nat) : (t.setCir i).saved = t.saved := rfl
@[simp] theorem Tile.setCir_egress (t : Tile) (i : Nat) : (t.setCir i).egress = t.egress := rfl
@[simp] theorem Tile.setCir_egressNo (t : Tile) (i : Nat) : (t.setCir i).egressNo = t.egressNo := rfl
@[simp] theorem Tile.setCir_diverged (t : Tile) (i : Nat) : (t.setCir i).diverged = t.diverged := rfl

/-! ### `Tile.lsWrite` -/

@[simp] theorem Tile.lsWrite_x (t : Tile) (clk a : Nat) (bs : List Byte) : (t.lsWrite clk a bs).x = t.x := rfl
@[simp] theorem Tile.lsWrite_v (t : Tile) (clk a : Nat) (bs : List Byte) : (t.lsWrite clk a bs).v = t.v := rfl
@[simp] theorem Tile.lsWrite_g (t : Tile) (clk a : Nat) (bs : List Byte) : (t.lsWrite clk a bs).g = t.g := rfl
@[simp] theorem Tile.lsWrite_latches (t : Tile) (clk a : Nat) (bs : List Byte) : (t.lsWrite clk a bs).latches = t.latches := rfl
@[simp] theorem Tile.lsWrite_socks (t : Tile) (clk a : Nat) (bs : List Byte) : (t.lsWrite clk a bs).socks = t.socks := rfl
@[simp] theorem Tile.lsWrite_seq (t : Tile) (clk a : Nat) (bs : List Byte) : (t.lsWrite clk a bs).seq = t.seq := rfl
@[simp] theorem Tile.lsWrite_pc (t : Tile) (clk a : Nat) (bs : List Byte) : (t.lsWrite clk a bs).pc = t.pc := rfl
@[simp] theorem Tile.lsWrite_loops (t : Tile) (clk a : Nat) (bs : List Byte) : (t.lsWrite clk a bs).loops = t.loops := rfl
@[simp] theorem Tile.lsWrite_depth (t : Tile) (clk a : Nat) (bs : List Byte) : (t.lsWrite clk a bs).depth = t.depth := rfl
@[simp] theorem Tile.lsWrite_tctl (t : Tile) (clk a : Nat) (bs : List Byte) : (t.lsWrite clk a bs).tctl = t.tctl := rfl
@[simp] theorem Tile.lsWrite_vctl (t : Tile) (clk a : Nat) (bs : List Byte) : (t.lsWrite clk a bs).vctl = t.vctl := rfl
@[simp] theorem Tile.lsWrite_vstat (t : Tile) (clk a : Nat) (bs : List Byte) : (t.lsWrite clk a bs).vstat = t.vstat := rfl
@[simp] theorem Tile.lsWrite_flagsAt (t : Tile) (clk a : Nat) (bs : List Byte) : (t.lsWrite clk a bs).flagsAt = t.flagsAt := rfl
@[simp] theorem Tile.lsWrite_mshape (t : Tile) (clk a : Nat) (bs : List Byte) : (t.lsWrite clk a bs).mshape = t.mshape := rfl
@[simp] theorem Tile.lsWrite_cir (t : Tile) (clk a : Nat) (bs : List Byte) : (t.lsWrite clk a bs).cir = t.cir := rfl
@[simp] theorem Tile.lsWrite_relmask (t : Tile) (clk a : Nat) (bs : List Byte) : (t.lsWrite clk a bs).relmask = t.relmask := rfl
@[simp] theorem Tile.lsWrite_beta (t : Tile) (clk a : Nat) (bs : List Byte) : (t.lsWrite clk a bs).beta = t.beta := rfl
@[simp] theorem Tile.lsWrite_wid (t : Tile) (clk a : Nat) (bs : List Byte) : (t.lsWrite clk a bs).wid = t.wid := rfl
@[simp] theorem Tile.lsWrite_widf (t : Tile) (clk a : Nat) (bs : List Byte) : (t.lsWrite clk a bs).widf = t.widf := rfl
@[simp] theorem Tile.lsWrite_segt (t : Tile) (clk a : Nat) (bs : List Byte) : (t.lsWrite clk a bs).segt = t.segt := rfl
@[simp] theorem Tile.lsWrite_fmtt (t : Tile) (clk a : Nat) (bs : List Byte) : (t.lsWrite clk a bs).fmtt = t.fmtt := rfl
@[simp] theorem Tile.lsWrite_spcnt (t : Tile) (clk a : Nat) (bs : List Byte) : (t.lsWrite clk a bs).spcnt = t.spcnt := rfl
@[simp] theorem Tile.lsWrite_mxown (t : Tile) (clk a : Nat) (bs : List Byte) : (t.lsWrite clk a bs).mxown = t.mxown := rfl
@[simp] theorem Tile.lsWrite_mxOwner (t : Tile) (clk a : Nat) (bs : List Byte) : (t.lsWrite clk a bs).mxOwner = t.mxOwner := rfl
@[simp] theorem Tile.lsWrite_tstat (t : Tile) (clk a : Nat) (bs : List Byte) : (t.lsWrite clk a bs).tstat = t.tstat := rfl
@[simp] theorem Tile.lsWrite_tcause (t : Tile) (clk a : Nat) (bs : List Byte) : (t.lsWrite clk a bs).tcause = t.tcause := rfl
@[simp] theorem Tile.lsWrite_tepc (t : Tile) (clk a : Nat) (bs : List Byte) : (t.lsWrite clk a bs).tepc = t.tepc := rfl
@[simp] theorem Tile.lsWrite_tinfo (t : Tile) (clk a : Nat) (bs : List Byte) : (t.lsWrite clk a bs).tinfo = t.tinfo := rfl
@[simp] theorem Tile.lsWrite_tvec (t : Tile) (clk a : Nat) (bs : List Byte) : (t.lsWrite clk a bs).tvec = t.tvec := rfl
@[simp] theorem Tile.lsWrite_tscr (t : Tile) (clk a : Nat) (bs : List Byte) : (t.lsWrite clk a bs).tscr = t.tscr := rfl
@[simp] theorem Tile.lsWrite_ctxb (t : Tile) (clk a : Nat) (bs : List Byte) : (t.lsWrite clk a bs).ctxb = t.ctxb := rfl
@[simp] theorem Tile.lsWrite_segtSet (t : Tile) (clk a : Nat) (bs : List Byte) : (t.lsWrite clk a bs).segtSet = t.segtSet := rfl
@[simp] theorem Tile.lsWrite_segs (t : Tile) (clk a : Nat) (bs : List Byte) : (t.lsWrite clk a bs).segs = t.segs := rfl
@[simp] theorem Tile.lsWrite_dialSample (t : Tile) (clk a : Nat) (bs : List Byte) : (t.lsWrite clk a bs).dialSample = t.dialSample := rfl
@[simp] theorem Tile.lsWrite_ls (t : Tile) (clk a : Nat) (bs : List Byte) : (t.lsWrite clk a bs).ls = t.ls.write a bs := rfl
@[simp] theorem Tile.lsWrite_lsPoison (t : Tile) (clk a : Nat) (bs : List Byte) : (t.lsWrite clk a bs).lsPoison = t.lsPoison.filter fun w => !(wholeWords a bs.length).contains w := rfl
@[simp] theorem Tile.lsWrite_lsPending (t : Tile) (clk a : Nat) (bs : List Byte) : (t.lsWrite clk a bs).lsPending = t.lsPending := rfl
@[simp] theorem Tile.lsWrite_tagsWas (t : Tile) (clk a : Nat) (bs : List Byte) : (t.lsWrite clk a bs).tagsWas = (clk + 1, t.tagsAt clk) := rfl
@[simp] theorem Tile.lsWrite_landedIn (t : Tile) (clk a : Nat) (bs : List Byte) : (t.lsWrite clk a bs).landedIn = t.landedIn := rfl
@[simp] theorem Tile.lsWrite_recent (t : Tile) (clk a : Nat) (bs : List Byte) : (t.lsWrite clk a bs).recent = t.logWrite clk a bs.length := rfl
@[simp] theorem Tile.lsWrite_fetchedAt (t : Tile) (clk a : Nat) (bs : List Byte) : (t.lsWrite clk a bs).fetchedAt = t.fetchedAt := rfl
@[simp] theorem Tile.lsWrite_freshAt (t : Tile) (clk a : Nat) (bs : List Byte) : (t.lsWrite clk a bs).freshAt = t.freshAt := rfl
@[simp] theorem Tile.lsWrite_streams (t : Tile) (clk a : Nat) (bs : List Byte) : (t.lsWrite clk a bs).streams = t.streams := rfl
@[simp] theorem Tile.lsWrite_fillQ (t : Tile) (clk a : Nat) (bs : List Byte) : (t.lsWrite clk a bs).fillQ = t.fillQ := rfl
@[simp] theorem Tile.lsWrite_fillCount (t : Tile) (clk a : Nat) (bs : List Byte) : (t.lsWrite clk a bs).fillCount = t.fillCount := rfl
@[simp] theorem Tile.lsWrite_rmws (t : Tile) (clk a : Nat) (bs : List Byte) : (t.lsWrite clk a bs).rmws = t.rmws := rfl
@[simp] theorem Tile.lsWrite_rings (t : Tile) (clk a : Nat) (bs : List Byte) : (t.lsWrite clk a bs).rings = t.rings := rfl
@[simp] theorem Tile.lsWrite_heldStores (t : Tile) (clk a : Nat) (bs : List Byte) : (t.lsWrite clk a bs).heldStores = t.heldStores := rfl
@[simp] theorem Tile.lsWrite_ac (t : Tile) (clk a : Nat) (bs : List Byte) : (t.lsWrite clk a bs).ac = t.ac := rfl
@[simp] theorem Tile.lsWrite_acOld (t : Tile) (clk a : Nat) (bs : List Byte) : (t.lsWrite clk a bs).acOld = t.acOld := rfl
@[simp] theorem Tile.lsWrite_m (t : Tile) (clk a : Nat) (bs : List Byte) : (t.lsWrite clk a bs).m = t.m := rfl
@[simp] theorem Tile.lsWrite_op4s (t : Tile) (clk a : Nat) (bs : List Byte) : (t.lsWrite clk a bs).op4s = t.op4s := rfl
@[simp] theorem Tile.lsWrite_maccs (t : Tile) (clk a : Nat) (bs : List Byte) : (t.lsWrite clk a bs).maccs = t.maccs := rfl
@[simp] theorem Tile.lsWrite_mac (t : Tile) (clk a : Nat) (bs : List Byte) : (t.lsWrite clk a bs).mac = t.mac := rfl
@[simp] theorem Tile.lsWrite_cc (t : Tile) (clk a : Nat) (bs : List Byte) : (t.lsWrite clk a bs).cc = t.cc := rfl
@[simp] theorem Tile.lsWrite_mb (t : Tile) (clk a : Nat) (bs : List Byte) : (t.lsWrite clk a bs).mb = t.mb := rfl
@[simp] theorem Tile.lsWrite_lstat (t : Tile) (clk a : Nat) (bs : List Byte) : (t.lsWrite clk a bs).lstat = t.lstat := rfl
@[simp] theorem Tile.lsWrite_lcc (t : Tile) (clk a : Nat) (bs : List Byte) : (t.lsWrite clk a bs).lcc = t.lcc := rfl
@[simp] theorem Tile.lsWrite_lidx (t : Tile) (clk a : Nat) (bs : List Byte) : (t.lsWrite clk a bs).lidx = t.lidx := rfl
@[simp] theorem Tile.lsWrite_nack (t : Tile) (clk a : Nat) (bs : List Byte) : (t.lsWrite clk a bs).nack = t.nack := rfl
@[simp] theorem Tile.lsWrite_reqNo (t : Tile) (clk a : Nat) (bs : List Byte) : (t.lsWrite clk a bs).reqNo = t.reqNo := rfl
@[simp] theorem Tile.lsWrite_holdNo (t : Tile) (clk a : Nat) (bs : List Byte) : (t.lsWrite clk a bs).holdNo = t.holdNo := rfl
@[simp] theorem Tile.lsWrite_seqNo (t : Tile) (clk a : Nat) (bs : List Byte) : (t.lsWrite clk a bs).seqNo = t.seqNo := rfl
@[simp] theorem Tile.lsWrite_far (t : Tile) (clk a : Nat) (bs : List Byte) : (t.lsWrite clk a bs).far = t.far := rfl
@[simp] theorem Tile.lsWrite_copies (t : Tile) (clk a : Nat) (bs : List Byte) : (t.lsWrite clk a bs).copies = t.copies := rfl
@[simp] theorem Tile.lsWrite_egressFree (t : Tile) (clk a : Nat) (bs : List Byte) : (t.lsWrite clk a bs).egressFree = t.egressFree := rfl
@[simp] theorem Tile.lsWrite_ingressAt (t : Tile) (clk a : Nat) (bs : List Byte) : (t.lsWrite clk a bs).ingressAt = t.ingressAt := rfl
@[simp] theorem Tile.lsWrite_dmas (t : Tile) (clk a : Nat) (bs : List Byte) : (t.lsWrite clk a bs).dmas = t.dmas := rfl
@[simp] theorem Tile.lsWrite_dmaFree (t : Tile) (clk a : Nat) (bs : List Byte) : (t.lsWrite clk a bs).dmaFree = t.dmaFree := rfl
@[simp] theorem Tile.lsWrite_spawns (t : Tile) (clk a : Nat) (bs : List Byte) : (t.lsWrite clk a bs).spawns = t.spawns := rfl
@[simp] theorem Tile.lsWrite_spawnIn (t : Tile) (clk a : Nat) (bs : List Byte) : (t.lsWrite clk a bs).spawnIn = t.spawnIn := rfl
@[simp] theorem Tile.lsWrite_fences (t : Tile) (clk a : Nat) (bs : List Byte) : (t.lsWrite clk a bs).fences = t.fences := rfl
@[simp] theorem Tile.lsWrite_layoutWait (t : Tile) (clk a : Nat) (bs : List Byte) : (t.lsWrite clk a bs).layoutWait = t.layoutWait := rfl
@[simp] theorem Tile.lsWrite_colls (t : Tile) (clk a : Nat) (bs : List Byte) : (t.lsWrite clk a bs).colls = t.colls := rfl
@[simp] theorem Tile.lsWrite_waddrAt (t : Tile) (clk a : Nat) (bs : List Byte) : (t.lsWrite clk a bs).waddrAt = t.waddrAt := rfl
@[simp] theorem Tile.lsWrite_waddrOut (t : Tile) (clk a : Nat) (bs : List Byte) : (t.lsWrite clk a bs).waddrOut = t.waddrOut := rfl
@[simp] theorem Tile.lsWrite_bal (t : Tile) (clk a : Nat) (bs : List Byte) : (t.lsWrite clk a bs).bal = t.bal := rfl
@[simp] theorem Tile.lsWrite_kyJobs (t : Tile) (clk a : Nat) (bs : List Byte) : (t.lsWrite clk a bs).kyJobs = t.kyJobs := rfl
@[simp] theorem Tile.lsWrite_sha (t : Tile) (clk a : Nat) (bs : List Byte) : (t.lsWrite clk a bs).sha = t.sha := rfl
@[simp] theorem Tile.lsWrite_pend (t : Tile) (clk a : Nat) (bs : List Byte) : (t.lsWrite clk a bs).pend = t.pend := rfl
@[simp] theorem Tile.lsWrite_counters (t : Tile) (clk a : Nat) (bs : List Byte) : (t.lsWrite clk a bs).counters = t.counters := rfl
@[simp] theorem Tile.lsWrite_cntNew (t : Tile) (clk a : Nat) (bs : List Byte) : (t.lsWrite clk a bs).cntNew = t.cntNew := rfl
@[simp] theorem Tile.lsWrite_snap (t : Tile) (clk a : Nat) (bs : List Byte) : (t.lsWrite clk a bs).snap = t.snap := rfl
@[simp] theorem Tile.lsWrite_run (t : Tile) (clk a : Nat) (bs : List Byte) : (t.lsWrite clk a bs).run = t.run := rfl
@[simp] theorem Tile.lsWrite_dead (t : Tile) (clk a : Nat) (bs : List Byte) : (t.lsWrite clk a bs).dead = t.dead := rfl
@[simp] theorem Tile.lsWrite_fenced (t : Tile) (clk a : Nat) (bs : List Byte) : (t.lsWrite clk a bs).fenced = t.fenced := rfl
@[simp] theorem Tile.lsWrite_nextAt (t : Tile) (clk a : Nat) (bs : List Byte) : (t.lsWrite clk a bs).nextAt = t.nextAt := rfl
@[simp] theorem Tile.lsWrite_idleEnd (t : Tile) (clk a : Nat) (bs : List Byte) : (t.lsWrite clk a bs).idleEnd = t.idleEnd := rfl
@[simp] theorem Tile.lsWrite_kBase (t : Tile) (clk a : Nat) (bs : List Byte) : (t.lsWrite clk a bs).kBase = t.kBase := rfl
@[simp] theorem Tile.lsWrite_intFrom (t : Tile) (clk a : Nat) (bs : List Byte) : (t.lsWrite clk a bs).intFrom = t.intFrom := rfl
@[simp] theorem Tile.lsWrite_gapEnd (t : Tile) (clk a : Nat) (bs : List Byte) : (t.lsWrite clk a bs).gapEnd = t.gapEnd := rfl
@[simp] theorem Tile.lsWrite_stall (t : Tile) (clk a : Nat) (bs : List Byte) : (t.lsWrite clk a bs).stall = t.stall := rfl
@[simp] theorem Tile.lsWrite_launch (t : Tile) (clk a : Nat) (bs : List Byte) : (t.lsWrite clk a bs).launch = t.launch := rfl
@[simp] theorem Tile.lsWrite_tlin (t : Tile) (clk a : Nat) (bs : List Byte) : (t.lsWrite clk a bs).tlin = t.tlin := rfl
@[simp] theorem Tile.lsWrite_isSpawn (t : Tile) (clk a : Nat) (bs : List Byte) : (t.lsWrite clk a bs).isSpawn = t.isSpawn := rfl
@[simp] theorem Tile.lsWrite_sstep (t : Tile) (clk a : Nat) (bs : List Byte) : (t.lsWrite clk a bs).sstep = t.sstep := rfl
@[simp] theorem Tile.lsWrite_arrivedAt (t : Tile) (clk a : Nat) (bs : List Byte) : (t.lsWrite clk a bs).arrivedAt = t.arrivedAt := rfl
@[simp] theorem Tile.lsWrite_plandir (t : Tile) (clk a : Nat) (bs : List Byte) : (t.lsWrite clk a bs).plandir = t.plandir := rfl
@[simp] theorem Tile.lsWrite_switchPend (t : Tile) (clk a : Nat) (bs : List Byte) : (t.lsWrite clk a bs).switchPend = t.switchPend := rfl
@[simp] theorem Tile.lsWrite_switchAt (t : Tile) (clk a : Nat) (bs : List Byte) : (t.lsWrite clk a bs).switchAt = t.switchAt := rfl
@[simp] theorem Tile.lsWrite_saved (t : Tile) (clk a : Nat) (bs : List Byte) : (t.lsWrite clk a bs).saved = t.saved := rfl
@[simp] theorem Tile.lsWrite_egress (t : Tile) (clk a : Nat) (bs : List Byte) : (t.lsWrite clk a bs).egress = t.egress := rfl
@[simp] theorem Tile.lsWrite_egressNo (t : Tile) (clk a : Nat) (bs : List Byte) : (t.lsWrite clk a bs).egressNo = t.egressNo := rfl
@[simp] theorem Tile.lsWrite_diverged (t : Tile) (clk a : Nat) (bs : List Byte) : (t.lsWrite clk a bs).diverged = t.diverged := rfl

/-! ### `Tile.result` -/

@[simp] theorem Tile.result_x (t : Tile) (k clk lat : Nat) (wide : Bool) (val : Wide) (f : BitVec 6) : (t.result k clk lat wide val f).x = t.x := rfl
@[simp] theorem Tile.result_v (t : Tile) (k clk lat : Nat) (wide : Bool) (val : Wide) (f : BitVec 6) : (t.result k clk lat wide val f).v = t.v := rfl
@[simp] theorem Tile.result_g (t : Tile) (k clk lat : Nat) (wide : Bool) (val : Wide) (f : BitVec 6) : (t.result k clk lat wide val f).g = t.g := rfl
@[simp] theorem Tile.result_latches (t : Tile) (k clk lat : Nat) (wide : Bool) (val : Wide) (f : BitVec 6) : (t.result k clk lat wide val f).latches = t.latches := rfl
@[simp] theorem Tile.result_seq (t : Tile) (k clk lat : Nat) (wide : Bool) (val : Wide) (f : BitVec 6) : (t.result k clk lat wide val f).seq = t.seq + 1 := rfl
@[simp] theorem Tile.result_pc (t : Tile) (k clk lat : Nat) (wide : Bool) (val : Wide) (f : BitVec 6) : (t.result k clk lat wide val f).pc = t.pc := rfl
@[simp] theorem Tile.result_loops (t : Tile) (k clk lat : Nat) (wide : Bool) (val : Wide) (f : BitVec 6) : (t.result k clk lat wide val f).loops = t.loops := rfl
@[simp] theorem Tile.result_depth (t : Tile) (k clk lat : Nat) (wide : Bool) (val : Wide) (f : BitVec 6) : (t.result k clk lat wide val f).depth = t.depth := rfl
@[simp] theorem Tile.result_tctl (t : Tile) (k clk lat : Nat) (wide : Bool) (val : Wide) (f : BitVec 6) : (t.result k clk lat wide val f).tctl = t.tctl := rfl
@[simp] theorem Tile.result_vctl (t : Tile) (k clk lat : Nat) (wide : Bool) (val : Wide) (f : BitVec 6) : (t.result k clk lat wide val f).vctl = t.vctl := rfl
@[simp] theorem Tile.result_vstat (t : Tile) (k clk lat : Nat) (wide : Bool) (val : Wide) (f : BitVec 6) : (t.result k clk lat wide val f).vstat = t.vstat := rfl
@[simp] theorem Tile.result_flagsAt (t : Tile) (k clk lat : Nat) (wide : Bool) (val : Wide) (f : BitVec 6) : (t.result k clk lat wide val f).flagsAt = t.flagsAt := rfl
@[simp] theorem Tile.result_mshape (t : Tile) (k clk lat : Nat) (wide : Bool) (val : Wide) (f : BitVec 6) : (t.result k clk lat wide val f).mshape = t.mshape := rfl
@[simp] theorem Tile.result_cir (t : Tile) (k clk lat : Nat) (wide : Bool) (val : Wide) (f : BitVec 6) : (t.result k clk lat wide val f).cir = t.cir := rfl
@[simp] theorem Tile.result_relmask (t : Tile) (k clk lat : Nat) (wide : Bool) (val : Wide) (f : BitVec 6) : (t.result k clk lat wide val f).relmask = t.relmask := rfl
@[simp] theorem Tile.result_beta (t : Tile) (k clk lat : Nat) (wide : Bool) (val : Wide) (f : BitVec 6) : (t.result k clk lat wide val f).beta = t.beta := rfl
@[simp] theorem Tile.result_wid (t : Tile) (k clk lat : Nat) (wide : Bool) (val : Wide) (f : BitVec 6) : (t.result k clk lat wide val f).wid = t.wid := rfl
@[simp] theorem Tile.result_widf (t : Tile) (k clk lat : Nat) (wide : Bool) (val : Wide) (f : BitVec 6) : (t.result k clk lat wide val f).widf = t.widf := rfl
@[simp] theorem Tile.result_segt (t : Tile) (k clk lat : Nat) (wide : Bool) (val : Wide) (f : BitVec 6) : (t.result k clk lat wide val f).segt = t.segt := rfl
@[simp] theorem Tile.result_fmtt (t : Tile) (k clk lat : Nat) (wide : Bool) (val : Wide) (f : BitVec 6) : (t.result k clk lat wide val f).fmtt = t.fmtt := rfl
@[simp] theorem Tile.result_spcnt (t : Tile) (k clk lat : Nat) (wide : Bool) (val : Wide) (f : BitVec 6) : (t.result k clk lat wide val f).spcnt = t.spcnt := rfl
@[simp] theorem Tile.result_mxown (t : Tile) (k clk lat : Nat) (wide : Bool) (val : Wide) (f : BitVec 6) : (t.result k clk lat wide val f).mxown = t.mxown := rfl
@[simp] theorem Tile.result_mxOwner (t : Tile) (k clk lat : Nat) (wide : Bool) (val : Wide) (f : BitVec 6) : (t.result k clk lat wide val f).mxOwner = t.mxOwner := rfl
@[simp] theorem Tile.result_tstat (t : Tile) (k clk lat : Nat) (wide : Bool) (val : Wide) (f : BitVec 6) : (t.result k clk lat wide val f).tstat = t.tstat := rfl
@[simp] theorem Tile.result_tcause (t : Tile) (k clk lat : Nat) (wide : Bool) (val : Wide) (f : BitVec 6) : (t.result k clk lat wide val f).tcause = t.tcause := rfl
@[simp] theorem Tile.result_tepc (t : Tile) (k clk lat : Nat) (wide : Bool) (val : Wide) (f : BitVec 6) : (t.result k clk lat wide val f).tepc = t.tepc := rfl
@[simp] theorem Tile.result_tinfo (t : Tile) (k clk lat : Nat) (wide : Bool) (val : Wide) (f : BitVec 6) : (t.result k clk lat wide val f).tinfo = t.tinfo := rfl
@[simp] theorem Tile.result_tvec (t : Tile) (k clk lat : Nat) (wide : Bool) (val : Wide) (f : BitVec 6) : (t.result k clk lat wide val f).tvec = t.tvec := rfl
@[simp] theorem Tile.result_tscr (t : Tile) (k clk lat : Nat) (wide : Bool) (val : Wide) (f : BitVec 6) : (t.result k clk lat wide val f).tscr = t.tscr := rfl
@[simp] theorem Tile.result_ctxb (t : Tile) (k clk lat : Nat) (wide : Bool) (val : Wide) (f : BitVec 6) : (t.result k clk lat wide val f).ctxb = t.ctxb := rfl
@[simp] theorem Tile.result_segtSet (t : Tile) (k clk lat : Nat) (wide : Bool) (val : Wide) (f : BitVec 6) : (t.result k clk lat wide val f).segtSet = t.segtSet := rfl
@[simp] theorem Tile.result_segs (t : Tile) (k clk lat : Nat) (wide : Bool) (val : Wide) (f : BitVec 6) : (t.result k clk lat wide val f).segs = t.segs := rfl
@[simp] theorem Tile.result_dialSample (t : Tile) (k clk lat : Nat) (wide : Bool) (val : Wide) (f : BitVec 6) : (t.result k clk lat wide val f).dialSample = t.dialSample := rfl
@[simp] theorem Tile.result_ls (t : Tile) (k clk lat : Nat) (wide : Bool) (val : Wide) (f : BitVec 6) : (t.result k clk lat wide val f).ls = t.ls := rfl
@[simp] theorem Tile.result_lsPoison (t : Tile) (k clk lat : Nat) (wide : Bool) (val : Wide) (f : BitVec 6) : (t.result k clk lat wide val f).lsPoison = t.lsPoison := rfl
@[simp] theorem Tile.result_lsPending (t : Tile) (k clk lat : Nat) (wide : Bool) (val : Wide) (f : BitVec 6) : (t.result k clk lat wide val f).lsPending = t.lsPending := rfl
@[simp] theorem Tile.result_tagsWas (t : Tile) (k clk lat : Nat) (wide : Bool) (val : Wide) (f : BitVec 6) : (t.result k clk lat wide val f).tagsWas = t.tagsWas := rfl
@[simp] theorem Tile.result_landedIn (t : Tile) (k clk lat : Nat) (wide : Bool) (val : Wide) (f : BitVec 6) : (t.result k clk lat wide val f).landedIn = t.landedIn := rfl
@[simp] theorem Tile.result_recent (t : Tile) (k clk lat : Nat) (wide : Bool) (val : Wide) (f : BitVec 6) : (t.result k clk lat wide val f).recent = t.recent := rfl
@[simp] theorem Tile.result_fetchedAt (t : Tile) (k clk lat : Nat) (wide : Bool) (val : Wide) (f : BitVec 6) : (t.result k clk lat wide val f).fetchedAt = t.fetchedAt := rfl
@[simp] theorem Tile.result_freshAt (t : Tile) (k clk lat : Nat) (wide : Bool) (val : Wide) (f : BitVec 6) : (t.result k clk lat wide val f).freshAt = t.freshAt := rfl
@[simp] theorem Tile.result_streams (t : Tile) (k clk lat : Nat) (wide : Bool) (val : Wide) (f : BitVec 6) : (t.result k clk lat wide val f).streams = t.streams := rfl
@[simp] theorem Tile.result_fillQ (t : Tile) (k clk lat : Nat) (wide : Bool) (val : Wide) (f : BitVec 6) : (t.result k clk lat wide val f).fillQ = t.fillQ := rfl
@[simp] theorem Tile.result_fillCount (t : Tile) (k clk lat : Nat) (wide : Bool) (val : Wide) (f : BitVec 6) : (t.result k clk lat wide val f).fillCount = t.fillCount := rfl
@[simp] theorem Tile.result_rmws (t : Tile) (k clk lat : Nat) (wide : Bool) (val : Wide) (f : BitVec 6) : (t.result k clk lat wide val f).rmws = t.rmws := rfl
@[simp] theorem Tile.result_rings (t : Tile) (k clk lat : Nat) (wide : Bool) (val : Wide) (f : BitVec 6) : (t.result k clk lat wide val f).rings = t.rings := rfl
@[simp] theorem Tile.result_heldStores (t : Tile) (k clk lat : Nat) (wide : Bool) (val : Wide) (f : BitVec 6) : (t.result k clk lat wide val f).heldStores = t.heldStores := rfl
@[simp] theorem Tile.result_ac (t : Tile) (k clk lat : Nat) (wide : Bool) (val : Wide) (f : BitVec 6) : (t.result k clk lat wide val f).ac = t.ac := rfl
@[simp] theorem Tile.result_acOld (t : Tile) (k clk lat : Nat) (wide : Bool) (val : Wide) (f : BitVec 6) : (t.result k clk lat wide val f).acOld = t.acOld := rfl
@[simp] theorem Tile.result_m (t : Tile) (k clk lat : Nat) (wide : Bool) (val : Wide) (f : BitVec 6) : (t.result k clk lat wide val f).m = t.m := rfl
@[simp] theorem Tile.result_op4s (t : Tile) (k clk lat : Nat) (wide : Bool) (val : Wide) (f : BitVec 6) : (t.result k clk lat wide val f).op4s = t.op4s := rfl
@[simp] theorem Tile.result_maccs (t : Tile) (k clk lat : Nat) (wide : Bool) (val : Wide) (f : BitVec 6) : (t.result k clk lat wide val f).maccs = t.maccs := rfl
@[simp] theorem Tile.result_mac (t : Tile) (k clk lat : Nat) (wide : Bool) (val : Wide) (f : BitVec 6) : (t.result k clk lat wide val f).mac = t.mac := rfl
@[simp] theorem Tile.result_cc (t : Tile) (k clk lat : Nat) (wide : Bool) (val : Wide) (f : BitVec 6) : (t.result k clk lat wide val f).cc = t.cc := rfl
@[simp] theorem Tile.result_mb (t : Tile) (k clk lat : Nat) (wide : Bool) (val : Wide) (f : BitVec 6) : (t.result k clk lat wide val f).mb = t.mb := rfl
@[simp] theorem Tile.result_lstat (t : Tile) (k clk lat : Nat) (wide : Bool) (val : Wide) (f : BitVec 6) : (t.result k clk lat wide val f).lstat = t.lstat := rfl
@[simp] theorem Tile.result_lcc (t : Tile) (k clk lat : Nat) (wide : Bool) (val : Wide) (f : BitVec 6) : (t.result k clk lat wide val f).lcc = t.lcc := rfl
@[simp] theorem Tile.result_lidx (t : Tile) (k clk lat : Nat) (wide : Bool) (val : Wide) (f : BitVec 6) : (t.result k clk lat wide val f).lidx = t.lidx := rfl
@[simp] theorem Tile.result_nack (t : Tile) (k clk lat : Nat) (wide : Bool) (val : Wide) (f : BitVec 6) : (t.result k clk lat wide val f).nack = t.nack := rfl
@[simp] theorem Tile.result_reqNo (t : Tile) (k clk lat : Nat) (wide : Bool) (val : Wide) (f : BitVec 6) : (t.result k clk lat wide val f).reqNo = t.reqNo := rfl
@[simp] theorem Tile.result_holdNo (t : Tile) (k clk lat : Nat) (wide : Bool) (val : Wide) (f : BitVec 6) : (t.result k clk lat wide val f).holdNo = t.holdNo := rfl
@[simp] theorem Tile.result_seqNo (t : Tile) (k clk lat : Nat) (wide : Bool) (val : Wide) (f : BitVec 6) : (t.result k clk lat wide val f).seqNo = t.seqNo := rfl
@[simp] theorem Tile.result_far (t : Tile) (k clk lat : Nat) (wide : Bool) (val : Wide) (f : BitVec 6) : (t.result k clk lat wide val f).far = t.far := rfl
@[simp] theorem Tile.result_copies (t : Tile) (k clk lat : Nat) (wide : Bool) (val : Wide) (f : BitVec 6) : (t.result k clk lat wide val f).copies = t.copies := rfl
@[simp] theorem Tile.result_egressFree (t : Tile) (k clk lat : Nat) (wide : Bool) (val : Wide) (f : BitVec 6) : (t.result k clk lat wide val f).egressFree = t.egressFree := rfl
@[simp] theorem Tile.result_ingressAt (t : Tile) (k clk lat : Nat) (wide : Bool) (val : Wide) (f : BitVec 6) : (t.result k clk lat wide val f).ingressAt = t.ingressAt := rfl
@[simp] theorem Tile.result_dmas (t : Tile) (k clk lat : Nat) (wide : Bool) (val : Wide) (f : BitVec 6) : (t.result k clk lat wide val f).dmas = t.dmas := rfl
@[simp] theorem Tile.result_dmaFree (t : Tile) (k clk lat : Nat) (wide : Bool) (val : Wide) (f : BitVec 6) : (t.result k clk lat wide val f).dmaFree = t.dmaFree := rfl
@[simp] theorem Tile.result_spawns (t : Tile) (k clk lat : Nat) (wide : Bool) (val : Wide) (f : BitVec 6) : (t.result k clk lat wide val f).spawns = t.spawns := rfl
@[simp] theorem Tile.result_spawnIn (t : Tile) (k clk lat : Nat) (wide : Bool) (val : Wide) (f : BitVec 6) : (t.result k clk lat wide val f).spawnIn = t.spawnIn := rfl
@[simp] theorem Tile.result_fences (t : Tile) (k clk lat : Nat) (wide : Bool) (val : Wide) (f : BitVec 6) : (t.result k clk lat wide val f).fences = t.fences := rfl
@[simp] theorem Tile.result_layoutWait (t : Tile) (k clk lat : Nat) (wide : Bool) (val : Wide) (f : BitVec 6) : (t.result k clk lat wide val f).layoutWait = t.layoutWait := rfl
@[simp] theorem Tile.result_colls (t : Tile) (k clk lat : Nat) (wide : Bool) (val : Wide) (f : BitVec 6) : (t.result k clk lat wide val f).colls = t.colls := rfl
@[simp] theorem Tile.result_waddrAt (t : Tile) (k clk lat : Nat) (wide : Bool) (val : Wide) (f : BitVec 6) : (t.result k clk lat wide val f).waddrAt = t.waddrAt := rfl
@[simp] theorem Tile.result_waddrOut (t : Tile) (k clk lat : Nat) (wide : Bool) (val : Wide) (f : BitVec 6) : (t.result k clk lat wide val f).waddrOut = t.waddrOut := rfl
@[simp] theorem Tile.result_bal (t : Tile) (k clk lat : Nat) (wide : Bool) (val : Wide) (f : BitVec 6) : (t.result k clk lat wide val f).bal = t.bal := rfl
@[simp] theorem Tile.result_kyJobs (t : Tile) (k clk lat : Nat) (wide : Bool) (val : Wide) (f : BitVec 6) : (t.result k clk lat wide val f).kyJobs = t.kyJobs := rfl
@[simp] theorem Tile.result_sha (t : Tile) (k clk lat : Nat) (wide : Bool) (val : Wide) (f : BitVec 6) : (t.result k clk lat wide val f).sha = t.sha := rfl
@[simp] theorem Tile.result_pend (t : Tile) (k clk lat : Nat) (wide : Bool) (val : Wide) (f : BitVec 6) : (t.result k clk lat wide val f).pend = t.pend := rfl
@[simp] theorem Tile.result_counters (t : Tile) (k clk lat : Nat) (wide : Bool) (val : Wide) (f : BitVec 6) : (t.result k clk lat wide val f).counters = t.counters := rfl
@[simp] theorem Tile.result_cntNew (t : Tile) (k clk lat : Nat) (wide : Bool) (val : Wide) (f : BitVec 6) : (t.result k clk lat wide val f).cntNew = t.cntNew := rfl
@[simp] theorem Tile.result_snap (t : Tile) (k clk lat : Nat) (wide : Bool) (val : Wide) (f : BitVec 6) : (t.result k clk lat wide val f).snap = t.snap := rfl
@[simp] theorem Tile.result_run (t : Tile) (k clk lat : Nat) (wide : Bool) (val : Wide) (f : BitVec 6) : (t.result k clk lat wide val f).run = t.run := rfl
@[simp] theorem Tile.result_dead (t : Tile) (k clk lat : Nat) (wide : Bool) (val : Wide) (f : BitVec 6) : (t.result k clk lat wide val f).dead = t.dead := rfl
@[simp] theorem Tile.result_fenced (t : Tile) (k clk lat : Nat) (wide : Bool) (val : Wide) (f : BitVec 6) : (t.result k clk lat wide val f).fenced = t.fenced := rfl
@[simp] theorem Tile.result_nextAt (t : Tile) (k clk lat : Nat) (wide : Bool) (val : Wide) (f : BitVec 6) : (t.result k clk lat wide val f).nextAt = t.nextAt := rfl
@[simp] theorem Tile.result_idleEnd (t : Tile) (k clk lat : Nat) (wide : Bool) (val : Wide) (f : BitVec 6) : (t.result k clk lat wide val f).idleEnd = t.idleEnd := rfl
@[simp] theorem Tile.result_kBase (t : Tile) (k clk lat : Nat) (wide : Bool) (val : Wide) (f : BitVec 6) : (t.result k clk lat wide val f).kBase = t.kBase := rfl
@[simp] theorem Tile.result_intFrom (t : Tile) (k clk lat : Nat) (wide : Bool) (val : Wide) (f : BitVec 6) : (t.result k clk lat wide val f).intFrom = t.intFrom := rfl
@[simp] theorem Tile.result_gapEnd (t : Tile) (k clk lat : Nat) (wide : Bool) (val : Wide) (f : BitVec 6) : (t.result k clk lat wide val f).gapEnd = t.gapEnd := rfl
@[simp] theorem Tile.result_stall (t : Tile) (k clk lat : Nat) (wide : Bool) (val : Wide) (f : BitVec 6) : (t.result k clk lat wide val f).stall = t.stall := rfl
@[simp] theorem Tile.result_launch (t : Tile) (k clk lat : Nat) (wide : Bool) (val : Wide) (f : BitVec 6) : (t.result k clk lat wide val f).launch = t.launch := rfl
@[simp] theorem Tile.result_tlin (t : Tile) (k clk lat : Nat) (wide : Bool) (val : Wide) (f : BitVec 6) : (t.result k clk lat wide val f).tlin = t.tlin := rfl
@[simp] theorem Tile.result_isSpawn (t : Tile) (k clk lat : Nat) (wide : Bool) (val : Wide) (f : BitVec 6) : (t.result k clk lat wide val f).isSpawn = t.isSpawn := rfl
@[simp] theorem Tile.result_sstep (t : Tile) (k clk lat : Nat) (wide : Bool) (val : Wide) (f : BitVec 6) : (t.result k clk lat wide val f).sstep = t.sstep := rfl
@[simp] theorem Tile.result_arrivedAt (t : Tile) (k clk lat : Nat) (wide : Bool) (val : Wide) (f : BitVec 6) : (t.result k clk lat wide val f).arrivedAt = t.arrivedAt := rfl
@[simp] theorem Tile.result_plandir (t : Tile) (k clk lat : Nat) (wide : Bool) (val : Wide) (f : BitVec 6) : (t.result k clk lat wide val f).plandir = t.plandir := rfl
@[simp] theorem Tile.result_switchPend (t : Tile) (k clk lat : Nat) (wide : Bool) (val : Wide) (f : BitVec 6) : (t.result k clk lat wide val f).switchPend = t.switchPend := rfl
@[simp] theorem Tile.result_switchAt (t : Tile) (k clk lat : Nat) (wide : Bool) (val : Wide) (f : BitVec 6) : (t.result k clk lat wide val f).switchAt = t.switchAt := rfl
@[simp] theorem Tile.result_saved (t : Tile) (k clk lat : Nat) (wide : Bool) (val : Wide) (f : BitVec 6) : (t.result k clk lat wide val f).saved = t.saved := rfl
@[simp] theorem Tile.result_egress (t : Tile) (k clk lat : Nat) (wide : Bool) (val : Wide) (f : BitVec 6) : (t.result k clk lat wide val f).egress = t.egress := rfl
@[simp] theorem Tile.result_egressNo (t : Tile) (k clk lat : Nat) (wide : Bool) (val : Wide) (f : BitVec 6) : (t.result k clk lat wide val f).egressNo = t.egressNo := rfl
@[simp] theorem Tile.result_diverged (t : Tile) (k clk lat : Nat) (wide : Bool) (val : Wide) (f : BitVec 6) : (t.result k clk lat wide val f).diverged = t.diverged := rfl

end Sys2Proof.Machine
end

