-- ==== Sys2Proof/Tests/Slice0.lean ====
section
/-! SUPPORT. The model's own tests: words written out from the encoding tables decode to their instructions, ill-formed
terms are refused, and every statement's hypotheses are met by a state written here. -/

namespace Sys2Proof.Tests

open Machine Claims

set_option Elab.async false

/-! ### The states of the witnesses -/

/-- The move of `x3` to a trigger, in slot 0 under g0. -/
def mv : TrigMove := { slot := 0, src := 3 }

/-- A tile of a launch in program mode, with the values of `x3` and of latches (4 × socket + port). -/
def prog (x3 : Word := 0) (lat : List (Nat × Wide) := []) : Tile :=
  { x := vset (Vector.replicate 64 0) 3 x3
    latches := lat.foldl (fun l a => vset l a.1 a.2) (Vector.replicate 52 0)
    tstat := 0x00050000, mxown := 5, pc := 10, run := .computing, launch := some 1 }

/-- A code object without bytes. -/
def noCode : CodeObj :=
  { owner := 3, handle := 1, base := 0, entry := 0, image := [], segt := 0, fmtt := 0, plandir := 0, safe := [] }

/-- A launch of 4 × 3 tiles, the last row for spawns. -/
def aLaunch : Launch :=
  { id := 1, owner := 3, handle := 7, ring := 0, cscope := 0, caddr := 0, state := .running, code := noCode
    preemptible := true, balance := true, dual := false, w := 4, h := 3, dmask := 1, srows := 1, prio := 0, tstart := 0
    late := 0, lead := 0, widf := 0x283, counts := [8, 32], items := 40, segt := 0, fmtt := 0, plandir := 0, ox := 8, oy := 16
    placedDone := true }

/-- A module in which only one tile holds anything. -/
def only (t : Tile) : State :=
  { clk := 100, cur := 2056, tiles := [(2056, t)], launches := [(1, aLaunch)] }

/-- The tile of a state after the move's source is read, and the value. -/
def got (s : State) : Wide × Tile := (s.sourced mv).getD (0, {})

/-- What `Begins` asks, as a test. -/
def beginning (s : State) (code : Nat) : Bool :=
  wfTrig code mv && decide (dstOf (isCrown s.cur) code = .trig (sockOf code)) && s.canIssue s.cur &&
    (s.me.bundleTrap (isCrown s.cur) (moveBundle code mv)).isNone && !s.me.windowWait && s.me.taking 0 &&
    (s.sourced mv).isSome && !s.me.emptyRead (s.mySrc mv) &&
    (!hasResult code || decide (((got s).2.sock (sockOf code)).size < 8))

/-- What `Starts` asks, as a test. -/
def starting (s : State) (code : Nat) : Bool :=
  beginning s code && !(isCrown s.cur && needsLaunch code) && !(supOnly code && !s.me.sup)

theorem begins_of (s : State) (code : Nat) (h : beginning s code = true) : Begins s code mv (got s).1 (got s).2 := by
  simp only [beginning, Bool.and_eq_true, Bool.not_eq_true', decide_eq_true_eq, Option.isNone_iff_eq_none, Bool.or_eq_true] at h
  obtain ⟨⟨⟨⟨⟨⟨⟨⟨h1, h2⟩, h3⟩, h4⟩, h5⟩, h6⟩, h7⟩, h8⟩, h9⟩ := h
  refine ⟨h1, h2, h3, h4, h5, h6, ?_, h8, fun hr => ?_⟩
  · obtain ⟨a, ha⟩ := Option.isSome_iff_exists.mp h7
    simp [got, ha]
  · rcases h9 with h | h
    · simp [hr] at h
    · exact h

theorem starts_of (s : State) (code : Nat) (h : starting s code = true) : Starts s code mv (got s).1 (got s).2 := by
  simp only [starting, Bool.and_eq_true, Bool.not_eq_true'] at h
  exact ⟨begins_of s code h.1.1, h.1.2, h.2⟩

/-- The bundle of `code` around the move of `x3` starts in a state whose value and tile have a property. -/
abbrev Meets (s : State) (code : Nat) (P : Word → Tile → Prop) : Prop :=
  Starts s code mv (got s).1 (got s).2 ∧ P (narrowOf (got s).1) (got s).2

/-- A tile in supervisor mode. -/
def inSup (t : Tile) : Tile := { t with tstat := t.tstat ||| 1 }

/-- Segment entries that cover all of global space with every permission. -/
def far15 : Vector Seg 64 :=
  Vector.replicate 64 { valid := true, gbase := 0x9000000000000, len := 0xFFFFFFFFFFFF, perm := 15, owner := 3 }

/-- A sweep in progress. -/
def sweep1 : Sweep := { total := 1, left := 1, marg := false, prime := false, beta := 0, phase := 0, begun := 90 }

/-- A module in which only a crown tile holds anything. -/
def crown (t : Tile) : State := { clk := 100, cur := 0x40003, tiles := [(0x40003, t)] }

/-- A shape block at 0x2000: four elements, pitch 1 on both sides. -/
def layLs : Memory := [⟨0x2000, 4⟩, ⟨0x2040, 1⟩, ⟨0x2060, 1⟩]

/-- The only tile of a module by its number. -/
abbrev T : Nat := 2056

/-- Bank memory of owner 3. -/
def bk : Nat := bankBase + 0x50000

/-- A ring of owner 3 with a presented packet. -/
def ring0 : Ring :=
  { base := BitVec.ofNat 64 bk, owner := 3, queue := 9, en := true, lgn := 4, exp := 17, head := BitVec.ofNat 64 (bk + 0xA000)
    presented := true }

/-- A module whose ring 7 holds one packet of a type with a payload, its record at `bk + 0x8000`. -/
def pkt (kind : Nat) (pay : List Nat) (r : Ring := ring0) : State :=
  { clk := 10000, feCtrl := 3, bu := { ready := 0xFFFFFFFF }, bankOwner := [(5, 3)], rings := [(7, r)], queues := [(9, [BitVec.ofNat 64 (17 * 2 ^ 32 + 7)])]
    serveQueue := 9
    bank := Memory.write [] (0x50000 + 128)
      (([17, kind, (bk + 0x8000) % 2 ^ 32, bk / 2 ^ 32, 7, 0, 0, 0] ++ pay).flatMap fun w => toBytes 4 w) }

/-- The words of that packet. -/
def words (s : State) : List Nat := (s.packetWords 7).getD []

/-- The address of a byte of owner 3's bank memory as two words. -/
def at2 (o : Nat) : List Nat := [(bk + o) % 2 ^ 32, bk / 2 ^ 32]

/-- A packet that the firmware serves and may answer. -/
abbrev Served (s : State) (kind : Nat) : Prop :=
  s.packetWords 7 = some (words s) ∧ Answers s 7 (words s) ∧ Turn s 7 kind (words s)

/-- A launch of 2 × 2 tiles at (20, 20). -/
def small (st : LaunchState) : Launch := { aLaunch with id := 1, state := st, w := 2, h := 2, srows := 0, ox := 20, oy := 20, items := 3 }

/-- A module with that launch, its tiles computing. -/
def holding (l : Launch) (run : RunState := .computing) : State :=
  { clk := 10000, feCtrl := 3, launches := [(1, l)], bu := { ready := 0xFFFFFFFF, dial := 1000, budget := 7200 }
    tiles := [20, 21].flatMap fun y => [20, 21].map fun x =>
      (tileAt x y, { tstat := 0x00050000, run, launch := some 1, tlin := x - 20 + 2 * (y - 20) }) }

/-- A module whose tree maps page 7 of address space 77: the entry, of a state, stands at die 5 and names frame 3 of die 6. -/
def tree0 (state : Nat) : State :=
  { clk := 100
    xl := { live := 0x20, tree := true, tasid := 77, troot := BitVec.ofNat 64 (5 * 2 ^ 52 + 2 ^ 21 * 5)
            miga := BitVec.ofNat 64 (77 * 2 ^ 48 + 7) }
    hbm := vset (Vector.replicate 16 []) 5 (Memory.write (Memory.write [] (2 ^ 21 * 5) (toBytes 8 (2 ^ 63 + 5 * 2 ^ 52 + 2 ^ 21 * 4)))
      (2 ^ 21 * 4 + 112) (toBytes 16 (2 ^ 63 + state * 2 ^ 60 + 77 * 2 ^ 40 + 7 + 6 * 2 ^ 116 + 3 * 2 ^ 74 + 3 * 2 ^ 122))) }

/-- That entry. -/
def page0 (s : State) : Pte := pteOf (pteNum s 5 (2 ^ 21 * 4 + 112))

/-- A collective group of two ranks here, with one submission that has arrived. -/
def coll1 (at_ : Nat) : State :=
  { only (prog 0) with
    csram := Memory.write [] 0x1000 ((List.range 2).flatMap fun r => toBytes 4 5 ++ toBytes 4 7 ++ toBytes 4 r ++ toBytes 4 0)
    br := { id := 5, cen := true, groups := [(0, { en := true, rm1 := 1, owner := 3, mlist := 0x100, exps := [0, 0] })]
            subs := [{ group := 0, rank := 0, seqNo := 0, tile := T, kind := 0, rop := 0, len := 64, src := { addr := 0 }
                       dst := { addr := 0 }, cc := 15, issuer := 3, arriveAt := at_ }] } }


/-! ### Every statement's hypotheses are met: one theorem for each claim, a state and operands for each clause -/

theorem test_witness_ArithmeticResults :
    Meets (only (prog 7)) 0x300 (fun _ _ => True) ∧
    Meets (only (prog 0x80000000)) 0x402 (fun w t => (t.latchN 2 0).toInt + w.toInt ≤ 0) ∧
    Meets (only (prog 0 [(12, 0x80000000)])) 0x504 (fun w t => w = 0 ∧ t.latchN 3 0 = 0x80000000) ∧
    Meets (only (prog 0xFFFFFFFF [(12, 0x80000000)])) 0x506 (fun _ _ => True) := by
  repeat' apply And.intro
  all_goals first | exact starts_of _ _ (by decide +kernel) | decide +kernel

theorem test_witness_ControlTransfers :
    Meets (only (prog 5)) 0x203 (fun _ _ => True) ∧
    Meets (only (prog 3 [(0, 0x302000)])) 0x202 (fun w t => (t.latchN 0 0).toNat / 2 ^ 20 ≤ w.toNat) ∧
    Meets (only (prog 2 [(0, 0x302000)])) 0x205 (fun w t => w.toNat < (t.latchN 0 0).toNat / 2 ^ 20 ∧ 0x2000 + 2 * w.toNat + 2 ≤ lsLimit (only (prog 2)).me) ∧
    Meets (only (prog 1 [(0, 0x317FFE)])) 0x202 (fun w _ => w.toNat < 3 ∧ 0x18000 < 0x17FFE + 2 * w.toNat + 2) ∧
    Meets (only (prog 0 [(0, 0x317000)])) 0x202 (fun w _ => w.toNat < 3 ∧ 0x17000 < 0x17000 + 2 * w.toNat + 2) ∧
    Meets (only { prog 2 [(0, 0x302000)] with lsPoison := [0x2004] }) 0x205 (fun w _ => w.toNat < 3 ∧ (only { prog 2 with lsPoison := [0x2004] }).me.poisoned 0x2004 2 = true) ∧
    Meets (only { prog 0x20007 with depth := 2 }) 0x206 (fun w _ => w.toNat / 2 ^ 16 % 8 ≤ 2) ∧
    Meets (only { prog 0x30007 with depth := 2 }) 0x206 (fun w _ => 2 < w.toNat / 2 ^ 16 % 8) := by
  repeat' apply And.intro
  all_goals first | exact starts_of _ _ (by decide +kernel) | decide +kernel

theorem test_witness_HardwareLoops :
    Meets (only { prog 4 [(0, 20)] with depth := 6 }) 0x207 (fun _ _ => True) ∧
    Meets (only (prog 4 [(0, 10)])) 0x208 (fun _ t => ¬ (11 ≤ (t.latchN 0 0).toNat % 4096)) ∧
    Meets (only (prog 0 [(0, 20)])) 0x207 (fun w t => 11 ≤ (t.latchN 0 0).toNat % 4096 ∧ w = 0) ∧
    Meets (only (prog 4 [(0, 11)])) 0x208 (fun w t => 11 ≤ (t.latchN 0 0).toNat % 4096 ∧ w ≠ 0) ∧
    Meets (only { prog 4 with depth := 1 }) 0x210 (fun _ _ => True) ∧
    Meets (only { prog 4 with depth := 1 }) 0x211 (fun _ _ => True) ∧
    Meets (only { prog 4 with depth := 6 }) 0x20A (fun _ _ => True) ∧
    Meets (only { prog 4 with depth := 1, loops := Vector.replicate 6 { count := 2 } }) 0x209 (fun _ _ => 1 < ((only { prog 4 with depth := 1, loops := Vector.replicate 6 { count := 2 } }).me.loop 0).count.toNat) ∧
    Meets (only (prog 4)) 0x209 (fun _ _ => (only (prog 4)).me.depth = 0) := by
  repeat' apply And.intro
  all_goals first | exact starts_of _ _ (by decide +kernel) | decide +kernel

theorem test_witness_EndAction :
    (prog 0).depth = 0 ∧
    (let t : Tile := { prog 0 with depth := 6, loops := Vector.replicate 6 { stop := 10, count := 2 } }; t.depth ≤ 6 ∧ 0 < t.depth ∧ (t.loop 5).stop.setWidth 32 = t.pc ∧ 1 < (t.loop 5).count.toNat) ∧
    (let t : Tile := { prog 0 with depth := 1, loops := Vector.replicate 6 { stop := 10, count := 1 } }; t.depth ≤ 6 ∧ 0 < t.depth ∧ (t.loop 0).stop.setWidth 32 = t.pc ∧ (t.loop 0).count.toNat ≤ 1) := by
  decide +kernel

theorem test_witness_WorkItems :
    Meets (only { prog 1 with widf := 0x283 }) 0x20B (fun _ _ => (only (prog 1)).me.isSpawn = false ∧ aLaunch.nextWork 0x283 (only (prog 1)).me.wid = some 8) ∧
    Meets (only { prog 1 with isSpawn := true }) 0x20B (fun _ _ => True) ∧
    Meets (only { prog 1 with wid := 39, widf := 0x283 }) 0x20B (fun _ _ => aLaunch.nextWork 0x283 39 = none) := by
  repeat' apply And.intro
  all_goals first | exact starts_of _ _ (by decide +kernel) | decide +kernel

theorem test_witness_ArrivalAndHalting :
    Meets (only (inSup (prog 0))) 0x20C (fun _ _ => True) ∧
    Meets (only (prog 1)) 0x20C (fun _ _ => (only (prog 1)).me.planEntries 1 = none) ∧
    Meets (only (prog 0)) 0x20C (fun _ t => (only (prog 0)).me.planEntries 0 = some [] ∧ ((only (prog 0)).setTile 2056 t).egressFull 2056 = false) ∧
    Meets (only (prog 0)) 0x20D (fun _ t => ((only (prog 0)).setTile 2056 t).egressFull 2056 = false) ∧
    Meets (only (inSup (prog 0))) 0x20D (fun _ _ => True) := by
  repeat' apply And.intro
  all_goals first | exact starts_of _ _ (by decide +kernel) | decide +kernel

theorem test_witness_SoftwareTraps :
    Meets (only (prog 9)) 0x20E (fun _ _ => True) ∧
    Meets (only (inSup (prog 9))) 0x20F (fun _ _ => True) := by
  repeat' apply And.intro
  all_goals first | exact starts_of _ _ (by decide +kernel) | decide +kernel

theorem test_witness_SegmentLookups :
    Meets (only { prog 0x40 with segs := vset (Vector.replicate 64 {}) 63 { valid := true, len := 0x41, perm := 3 } }) 0x602 (fun w _ => w.toNat = 0x40 ∧ (only { prog 0x40 with segs := vset (Vector.replicate 64 {}) 63 { valid := true, len := 0x41, perm := 3 } }).me.segHit 0x40 = some 63) ∧
    Meets (only (prog 0x40)) 0x604 (fun _ _ => (only (prog 0x40)).me.segHit 0x40 = none) := by
  repeat' apply And.intro
  all_goals first | exact starts_of _ _ (by decide +kernel) | decide +kernel

theorem test_witness_AddressSocket :
    Meets (only (prog 5 [(16, 8), (17, 3)])) 0x609 (fun _ _ => True) ∧
    Meets (only (prog 5 [(16, 8), (17, 3)])) 0x608 (fun _ _ => True) ∧
    Meets (only (prog 0x20003)) 0x605 (fun w _ => w.toNat % 512 < aLaunch.w ∧ w.toNat / 2 ^ 16 % 512 < aLaunch.h) ∧
    Meets (only (prog 0x00004)) 0x605 (fun w _ => aLaunch.w ≤ w.toNat % 512) ∧
    Meets (only (prog 5 [(16, 2)])) 0x606 (fun _ t => (t.latchN 4 0).toNat % 4 ≠ 3) ∧
    Meets (only (prog 5 [(16, 3)])) 0x60A (fun _ t => (t.latchN 4 0).toNat % 4 = 3) ∧
    Meets (only (prog 2)) 0x60B (fun w _ => w.toNat % 4 ≠ 3) ∧
    Meets (only (prog 3)) 0x60B (fun w _ => w.toNat % 4 = 3) := by
  repeat' apply And.intro
  all_goals first | exact starts_of _ _ (by decide +kernel) | decide +kernel

theorem test_witness_VectorResults :
    Meets (only { prog 0x3F800000 with vctl := 3 }) 0x803 (fun _ _ => True) ∧
    Meets (only (prog 0x3F800000)) 0x80E (fun _ _ => True) ∧
    Meets (only (prog 0x3F800000)) 0x829 (fun _ _ => True) ∧
    Meets (only (prog 0x3F800000)) 0x82A (fun _ _ => True) := by
  repeat' apply And.intro
  all_goals first | exact starts_of _ _ (by decide +kernel) | decide +kernel

theorem test_witness_LoadResults :
    Meets (only (prog 0 [(20, 0x16FC0)])) 0x706 (fun w t => lsFits (only (prog 0)) (lsAddr (t.latchN 5 0) w.toInt 64) 64 64 ∧ noPending (only (prog 0)) (wordsOf 0x16FC0 64)) ∧
    Meets (only (prog 4 [(20, 0xB0802004)])) 0x708 (fun w t => (t.latchN 5 0).toNat / 2 ^ 28 < 12 ∧ lsFits (only (prog 0)) (lsAddr (t.latchN 5 0) w.toInt 4) 4 4) ∧
    Meets (only (prog 0x10004 [(20, 0x2000)])) 0x707 (fun w t => lsFits (only (prog 0)) (lsAddr (t.latchN 5 0) (halfIndex w) 4) 4 (60 * (w.toNat / 2 ^ 16 % 2 ^ 12) + 4)) := by
  repeat' first | decide +kernel | apply And.intro
  all_goals first
    | exact starts_of _ _ (by decide +kernel)
    | (unfold noWindow; decide +kernel)
    | (unfold noPending; decide +kernel)

theorem test_witness_StoreFrame :
    Meets (only (prog 0 [(20, 0x16FFC), (21, 0x12345678)])) 0x70C (fun w t => lsFits (only (prog 0)) (lsAddr (t.latchN 5 0) w.toInt 4) 4 4) ∧
    Meets (only (prog 1 [(20, 0x402000), (21, 0x12345678)])) 0x70B (fun w t => lsFits (only (prog 0)) (lsAddr (t.latchN 5 0) w.toInt 2) 2 2) := by
  repeat' first | decide +kernel | apply And.intro
  all_goals first
    | exact starts_of _ _ (by decide +kernel)
    | (unfold noWindow; decide +kernel)

theorem test_witness_StoreEffects :
    Meets (only (prog 0 [(20, 0x2040)])) 0x70E (fun w t => lsFits (only (prog 0)) (lsAddr (t.latchN 5 0) w.toInt 64) 64 64) ∧
    Meets (only (prog 0x80010040 [(20, 0x2000)])) 0x70F (fun w t => lsFits (only (prog 0)) (lsAddr (t.latchN 5 0) (halfIndex w) 64) 64 64 ∧ w.getLsbD 16 = true ∧ w.getLsbD 17 = false ∧ w.getLsbD 31 = true) ∧
    Meets (only (prog 0 [(20, 0xB1002000)])) 0x710 (fun w t => (t.latchN 5 0).toNat / 2 ^ 28 < 12 ∧ lsFits (only (prog 0)) (lsAddr (t.latchN 5 0) w.toInt 4) 4 4 ∧ (only (prog 0)).me.fenceWait 1 = false) := by
  repeat' first | decide +kernel | apply And.intro
  all_goals first
    | exact starts_of _ _ (by decide +kernel)
    | (unfold noWindow; decide +kernel)

theorem test_witness_ReadModifyWrites :
    Meets (only (prog 0x16FFC [(21, 5)])) 0x716 (fun w _ => lsFits (only (prog 0)) (w.toNat % 2 ^ 17 : Nat) 4 4 ∧ noPending (only (prog 0)) (wordsOf 0x16FFC 4)) := by
  repeat' first | decide +kernel | apply And.intro
  all_goals first
    | exact starts_of _ _ (by decide +kernel)
    | (unfold noWindow; decide +kernel)
    | (unfold noPending; decide +kernel)

theorem test_witness_RingOperations :
    Meets (only { prog 1 [(20, 0x2000)] with ls := [⟨0x2001, 0x40⟩, ⟨0x2002, 0x0C⟩, ⟨0x2008, 2⟩] }) 0x714 (fun _ _ => lsFits (only (prog 0)) (0x2000 : Nat) 16 16 ∧ noPending (only (prog 0)) (wordsOf 0x2000 16)) ∧
    Meets (only { prog 1 [(20, 0x2000)] with ls := [⟨0x2001, 0x40⟩, ⟨0x2002, 0x0C⟩, ⟨0x2008, 2⟩] }) 0x715 (fun _ _ => ringOk false ((only { prog 1 with ls := [⟨0x2001, 0x40⟩, ⟨0x2002, 0x0C⟩, ⟨0x2008, 2⟩] }).me.ringWords 0x2000) = true) := by
  repeat' first | decide +kernel | apply And.intro
  all_goals first
    | exact starts_of _ _ (by decide +kernel)
    | (unfold noWindow; decide +kernel)
    | (unfold noPending; decide +kernel)

theorem test_witness_LoadStoreTraps :
    Meets (only (prog 0 [(20, 0xC0002000)])) 0x708 (fun _ t => 12 ≤ (t.latchN 5 0).toNat / 2 ^ 28) ∧
    Meets (only (prog 0 [(20, 0x2001)])) 0x702 (fun w t => lsAddr (t.latchN 5 0) w.toInt 2 % 2 ≠ 0) ∧
    Meets (only (prog 0xFFFFFFFC [(20, 0)])) 0x704 (fun w t => lsAddr (t.latchN 5 0) w.toInt 4 % 4 = 0 ∧ lsAddr (t.latchN 5 0) w.toInt 4 < 0) ∧
    Meets (only (prog 0x7FFFFFC0 [(20, 0x17FFC)])) 0x704 (fun w t => lsAddr (t.latchN 5 0) w.toInt 4 % 4 = 0 ∧ 0x18000 < lsAddr (t.latchN 5 0) w.toInt 4 + 4) ∧
    Meets (only (prog 0 [(20, 0x17000)])) 0x704 (fun w t => lsAddr (t.latchN 5 0) w.toInt 4 = 0x17000 ∧ (only (prog 0)).me.sup = false) ∧
    Meets (only (prog 0 [(20, 0x17FFC)])) 0x704 (fun w t => lsAddr (t.latchN 5 0) w.toInt 4 + 4 = 0x18000) := by
  repeat' apply And.intro
  all_goals first | exact starts_of _ _ (by decide +kernel) | decide +kernel

theorem test_witness_StreamModes :
    Meets (only { prog 7 [(20, 0x2000)] with ls := [⟨0x2001, 0x40⟩, ⟨0x2004, 3⟩] }) 0x712 (fun _ _ => lsFits (only (prog 0)) (0x2000 : Nat) 32 32 ∧ streamReserved ((only { prog 0 with ls := [⟨0x2001, 0x40⟩, ⟨0x2004, 3⟩] }).me.mem 0x2000 32) = false ∧ (streamOf ((only { prog 0 with ls := [⟨0x2001, 0x40⟩, ⟨0x2004, 3⟩] }).me.mem 0x2000 32)).bad false = false ∧ (streamOf ((only { prog 0 with ls := [⟨0x2001, 0x40⟩, ⟨0x2004, 3⟩] }).me.mem 0x2000 32)).supByte = none) ∧
    Meets (only (prog 0x2007)) 0x713 (fun w _ => w.toNat / 8 % 2 ≠ 1 ∧ w.toNat / 16 % 2 ≠ 1) ∧
    Meets (only (prog 0x2018)) 0x713 (fun w _ => w.toNat / 8 % 2 = 1 ∧ w.toNat / 16 % 2 = 1 ∧ lsFits (only (prog 0)) ((w.toNat % 2 ^ 17 / 32 * 32 : Nat) : Int) 32 256) := by
  repeat' first | decide +kernel | apply And.intro
  all_goals first
    | exact starts_of _ _ (by decide +kernel)
    | (unfold noWindow; decide +kernel)

theorem test_witness_MatrixChecks :
    Meets (only { prog 0 with mxown := 6 }) 0x900 (fun _ _ => (only { prog 0 with mxown := 6 }).me.mxown.setWidth 16 ≠ (only { prog 0 with mxown := 6 }).me.cid) ∧
    Meets (only { prog 0 with mac := some { code := 0x911, v := 0, n := 16, done := 0, base := 90 } }) 0x90F (fun _ _ => ({ prog 0 with mac := some { code := 0x911, v := 0, n := 16, done := 0, base := 90 } } : Tile).mac ≠ none) ∧
    Meets (only (prog 3)) 0x910 (fun w _ => (prog 3).mac = none ∧ isCfg (shape (only (prog 3)).me (w.toNat % 4)) = false) := by
  repeat' apply And.intro
  all_goals first | exact starts_of _ _ (by decide +kernel) | decide +kernel

theorem test_witness_AccumulatorForms :
    Meets (only (prog 0x16FE0)) 0x902 (fun w _ => w.toNat % 2 ^ 17 / 32 * 32 + 32 ≤ lsLimit (only (prog 0)).me) ∧
    Meets (only (prog 0)) 0x905 (fun _ _ => (prog 0).mac = none) ∧
    Meets (only (prog 0)) 0x906 (fun _ _ => True) := by
  repeat' apply And.intro
  all_goals first | exact starts_of _ _ (by decide +kernel) | decide +kernel

theorem test_witness_TileRegisterForms :
    Meets (only { prog 0xF00 with mshape := Vector.replicate 4 0x2FF }) 0x90B (fun w _ => isCfg (shape (only { prog 0 with mshape := Vector.replicate 4 0x2FF }).me 0) = true ∧ w.toNat / 256 % 16 ≤ rowsOf 0x2FF) ∧
    Meets (only { prog 0xF03 with mshape := Vector.replicate 4 0x2FF }) 0x90C (fun w _ => w.toNat / 256 % 16 ≤ colsOf 0x2FF) ∧
    Meets (only { prog 0x000 with mshape := Vector.replicate 4 0x200 }) 0x90D (fun w _ => w.toNat / 256 % 16 ≤ rowsOf 0x200) ∧
    Meets (only { prog 0x000 with mshape := Vector.replicate 4 0x200 }) 0x90E (fun w _ => w.toNat / 256 % 16 ≤ colsOf 0x200) ∧
    Meets (only { prog 0x001 with mshape := Vector.replicate 4 0x337 }) 0x910 (fun _ _ => True) ∧
    Meets (only { prog 0x001 with mshape := Vector.replicate 4 0x337 }) 0x90F (fun _ _ => True) ∧
    Meets (only { prog 0x800 with mshape := Vector.replicate 4 0x237 }) 0x90B (fun w _ => rowsOf 0x237 < w.toNat / 256 % 16) ∧
    Meets (only { prog 0x400 with mshape := Vector.replicate 4 0x237 }) 0x90E (fun w _ => colsOf 0x237 < w.toNat / 256 % 16) := by
  repeat' apply And.intro
  all_goals first | exact starts_of _ _ (by decide +kernel) | decide +kernel

theorem test_witness_MatrixMultiplies :
    Meets (only { prog 0x04200100 with mshape := Vector.replicate 4 0x3FF }) 0x909 (fun w _ => mmaFits (only { prog 0 with mshape := Vector.replicate 4 0x3FF }).me w ⟨256, 256, true⟩) ∧
    Meets (only { prog 0x04200100 with mshape := Vector.replicate 4 0x2FF }) 0x90A (fun w _ => mmaFits (only { prog 0 with mshape := Vector.replicate 4 0x2FF }).me w ⟨288, 512, false⟩) ∧
    Meets (only { prog 0x04200100 with mshape := Vector.replicate 4 0x2FF, fmtt := 0x2000 }) 0x908 (fun w _ => entryOk (only { prog 0 with fmtt := 0x2000 }).me ∧ mmaFits (only { prog 0 with mshape := Vector.replicate 4 0x2FF }).me w ⟨256, 512, false⟩) ∧
    Meets (only { prog 0x04200100 with mshape := Vector.replicate 4 0x2FF, fmtt := 0x2000, ls := [⟨0x2000, 0x77⟩, ⟨0x2001, 5⟩] }) 0x907 (fun w _ => entryOk (only { prog 0 with fmtt := 0x2000, ls := [⟨0x2000, 0x77⟩, ⟨0x2001, 5⟩] }).me ∧ (entryNeeds (entryOf (only { prog 0 with fmtt := 0x2000, ls := [⟨0x2000, 0x77⟩, ⟨0x2001, 5⟩] }).me)).isSome = true ∧ mmaFits (only { prog 0 with mshape := Vector.replicate 4 0x2FF }).me w ⟨512, 512, false⟩) := by
  repeat' apply And.intro
  all_goals first | exact starts_of _ _ (by decide +kernel) | decide +kernel

theorem test_witness_TileMoves :
    Meets (only { prog 0x16C00 with mshape := Vector.replicate 4 0x2FF }) 0x911 (fun w _ => w.toNat % 2 ^ 17 / 64 * 64 + moveBytes 0x2FF w = lsLimit (only (prog 0)).me) ∧
    Meets (only { prog 0x17FC0 with mshape := Vector.replicate 4 0x2FF }) 0x912 (fun w _ => 0x18000 < w.toNat % 2 ^ 17 / 64 * 64 + moveBytes 0x2FF w) ∧
    Meets (only { prog 0x17C00 with mshape := Vector.replicate 4 0x2FF }) 0x911 (fun w _ => w.toNat % 2 ^ 17 / 64 * 64 + moveBytes 0x2FF w = 0x18000) := by
  repeat' apply And.intro
  all_goals first | exact starts_of _ _ (by decide +kernel) | decide +kernel

theorem test_witness_FormatChanges :
    Meets (only { prog 0x0 with mshape := Vector.replicate 4 0x3FF }) 0x913 (fun _ _ => isInt 0x3FF = true ∧ isCfg 0x3FF = true) ∧
    Meets (only { prog 0x4 with mshape := Vector.replicate 4 0x2FF }) 0x913 (fun w _ => w.toNat / 4 % 4 = 1 ∧ isInt 0x2FF = false) ∧
    Meets (only { prog 0x8 with mshape := Vector.replicate 4 0x2FF, fmtt := 0x2000, ls := [⟨0x2005, 0x30⟩, ⟨0x2007, 0x80⟩] }) 0x913 (fun _ _ => entryOk (only { prog 0 with fmtt := 0x2000, ls := [⟨0x2005, 0x30⟩, ⟨0x2007, 0x80⟩] }).me ∧ senOf (entryOf (only { prog 0 with fmtt := 0x2000, ls := [⟨0x2005, 0x30⟩, ⟨0x2007, 0x80⟩] }).me) = true) ∧
    Meets (only { prog 0x0 with mshape := Vector.replicate 4 0x2FF }) 0x913 (fun w _ => w.toNat / 4 % 4 = 0) ∧
    Meets (only { prog 0x8 with mshape := Vector.replicate 4 0x3FF }) 0x913 (fun w _ => w.toNat / 4 % 4 = 2) ∧
    Meets (only { prog 0xC with mshape := Vector.replicate 4 0x3FF }) 0x913 (fun w _ => w.toNat / 4 % 4 = 3) := by
  repeat' apply And.intro
  all_goals first | exact starts_of _ _ (by decide +kernel) | decide +kernel

theorem test_witness_FarRequests :
    Meets (only { prog 0 [(32, 0x1000), (35, 0x90000)] with segs := far15 }) 0xA03 (fun w t => farOpen (only (prog 0)) 0 (.load 4) 0 0 [] ∧ scopeFits w ∧ fawClean (t.latchN 8 3) ∧ mode3 (t.latchN 8 3) 0x9000000001000 = false ∧ (only { prog 0 with segs := far15 }).me.farAllowed 0x90000 0x9000000001000 4 0 = true) ∧
    Meets (only { prog 0x0180 [(32, 0x1000), (35, 0x90000)] with segs := far15 }) 0xA07 (fun w _ => 6 ≤ w.toNat % 2 ^ 14 / 64 % 64 ∧ w.toNat % 2 ^ 14 / 64 % 64 ≤ 47) ∧
    Meets (only { prog 0x0 [(32, 0x1000), (35, 0x90000)] with segs := far15 }) 0xA13 (fun w _ => w.toNat % 2 = 0 ∧ (only { prog 0 with segs := far15 }).me.farAllowed 0x90000 0x9000000001000 8 2 = true) := by
  repeat' first | decide +kernel | apply And.intro
  all_goals first
    | exact starts_of _ _ (by decide +kernel)
    | (simp only [scopeFits]; decide +kernel)
    | (simp only [fawClean]; decide +kernel)

theorem test_witness_FarChecks :
    Meets (only { prog 0xC0800000 [(35, 0x90000)] with segs := far15 }) 0xA05 (fun w _ => w.getLsbD 23 = true ∧ 12 ≤ w.toNat / 2 ^ 28 ∧ farOpen (only (prog 0)) 0 (.store 4) 0 1 []) ∧
    Meets (only { prog 1 [(35, 0x90000)] with segs := far15 }) 0xA13 (fun w _ => scopeFits w ∧ w.toNat % 2 = 1) ∧
    Meets (only { prog 0 [(35, 0x20090000)] with segs := far15 }) 0xA03 (fun w t => scopeFits w ∧ 2 ^ 29 ≤ (t.latchN 8 3).toNat) ∧
    Meets (only { prog 0 [(32, 1), (35, 0x90000)] with segs := far15 }) 0xA03 (fun _ t => mode3 (t.latchN 8 3) 0x9000000000001 = false ∧ globalAddr (t.latchN 8 3) (t.latchN 8 0) % 4 ≠ 0) ∧
    Meets (only { prog 0 [(35, 0x380000)] with segs := far15 }) 0xA03 (fun _ t => mode3 (t.latchN 8 3) (globalAddr (t.latchN 8 3) (t.latchN 8 0)) = true) ∧
    Meets (only (prog 0 [(35, 0x90000)])) 0xA03 (fun _ _ => (only (prog 0)).me.farAllowed 0x90000 0x9000000000000 4 0 = false) := by
  repeat' first | decide +kernel | apply And.intro
  all_goals first
    | exact starts_of _ _ (by decide +kernel)
    | (simp only [scopeFits]; decide +kernel)

theorem test_witness_CopiesAndSpawn :
    Meets (only (prog 0)) 0xA00 (fun w _ => w.toNat % 2 ^ 17 = 0) ∧
    Meets (only (prog 0x40 [(32, 0x16FC0), (33, 0x2000), (35, 1)])) 0xA00 (fun _ _ => copyFits 0x16FC0 0x2000 0x40 ∧ (only (prog 0)).egressFull 2056 = false ∧ (aLaunch.relTile 0 1 0 false).isSome = true) ∧
    Meets (only (prog 0x40 [(32, 0x16FC0), (33, 0x2000), (35, 0x3FF)])) 0xA00 (fun _ _ => aLaunch.relTile 0 (-1) 0 false = none) ∧
    Meets (only { prog 1 [(32, 0x2000)] with ls := [⟨0x2001, 0x20⟩, ⟨0x2002, 0x10⟩, ⟨0x2005, 0x30⟩] }) 0xA01 (fun _ _ => (only (prog 0)).me.mem 0x2000 8 = 0) ∧
    Meets (only (prog 0 [(32, 4)])) 0xA02 (fun _ t => aLaunch.w * aLaunch.srows ≤ (t.latchN 8 0).toNat) ∧
    Meets (only (prog 0 [(32, 3)])) 0xA02 (fun _ t => (t.latchN 8 0).toNat < aLaunch.w * aLaunch.srows ∧ (prog 0).spawns = []) ∧
    Meets (only { prog 0 [(32, 3)] with spawns := [{ target := 9000, entry := 0, args := [], wid := 0, arriveAt := 80, startAt := 0, answerAt := 100, answer := some true }] }) 0xA02 (fun _ _ => True) ∧
    Meets (only { prog 0 [(32, 3)] with spawns := [{ target := 9000, entry := 0, args := [], wid := 0, arriveAt := 80, startAt := 0, answerAt := 100, answer := some false }] }) 0xA02 (fun _ _ => True) := by
  repeat' apply And.intro
  all_goals first | exact starts_of _ _ (by decide +kernel) | decide +kernel

theorem test_witness_EngineCommands :
    Meets (only { prog 0x8000 [(32, 0x1000), (33, 0x2000), (34, 0x40 + 0x40 * 2 ^ 32 + 2 ^ 64 + 2 ^ 128), (35, 0x90000)] with segs := far15 }) 0xA15 (fun w t => scopeFits w ∧ w.getLsbD 15 = true ∧ fawClean (t.latchN 8 3) ∧ chC t 0 = 0x40 ∧ chC t 1 = 0x40 ∧ chC t 2 = 1 ∧ chC t 4 = 1 ∧ dealBad false 4 3 0x40 0x40 1 0 0 1 0x2000 = false) ∧
    Meets (only { prog 0x8000 [(34, 0x40 * 2 ^ 32 + 0x90000 * 2 ^ 96 + 0x90000 * 2 ^ 160)] with segs := far15 }) 0xA18 (fun _ t => chC t 1 = 0x40 ∧ fawClean (lane (t.latch 8 2) 3) ∧ fawClean (lane (t.latch 8 2) 5) ∧ collRange 0x9000000000000 0x40 = true ∧ (only { prog 0 with segs := far15 }).me.farAllowed 0x90000 0x9000000000000 0x40 0 = true) := by
  repeat' first | decide +kernel | apply And.intro
  all_goals first
    | exact starts_of _ _ (by decide +kernel)
    | (simp only [scopeFits]; decide +kernel)
    | (simp only [fawClean]; decide +kernel)

theorem test_witness_LayoutCommands :
    Meets (only { prog 0x8000 [(32, 0x1000), (33, 0x2000), (34, 0x90000 * 2 ^ 160), (35, 0x90000)] with segs := far15, ls := layLs }) 0xA17 (fun w t => scopeFits w ∧ w.getLsbD 15 = true ∧ fawClean (t.latchN 8 3) ∧ dmwReason 0 = none ∧ (shapeOf 0 ((only { prog 0 with ls := layLs }).me.lsRead 0x2000 160)).padMissing = false ∧ (shapeOf 0 ((only { prog 0 with ls := layLs }).me.lsRead 0x2000 160)).bad ((only { prog 0 with ls := layLs }).me.lsRead 0x2000 160) 0x17000 = false ∧ (only (prog 0)).mayAdmit 2056 (engKey (tileDie 2056) 0) = true) := by
  repeat' first | decide +kernel | apply And.intro
  all_goals first
    | exact starts_of _ _ (by decide +kernel)
    | (simp only [scopeFits]; decide +kernel)
    | (simp only [fawClean]; decide +kernel)

theorem test_witness_CountersAndWaits :
    Meets (only (prog 3 [(32, 7)])) 0xA19 (fun _ _ => True) ∧
    Meets (only { prog 3 with cc := Vector.replicate 16 { count := 1 } }) 0xA1A (fun _ _ => True) ∧
    Meets (only { prog 3 with cc := Vector.replicate 16 { count := 1, status := 2 } }) 0xA1A (fun _ _ => True) ∧
    Meets (only (prog 0x1FFFF)) 0xA1B (fun _ _ => True) ∧
    Meets (only (prog 0xF)) 0xA1C (fun _ _ => True) ∧
    Meets (only (prog 3 [(32, 1)])) 0xA1D (fun _ t => (0 : Word).toNat < (t.latchN 8 0).toNat) ∧
    Meets (only (prog 3)) 0xA1D (fun _ t => (t.latchN 8 0).toNat ≤ (0 : Word).toNat) ∧
    Meets (only (prog 7)) 0xA1E (fun w _ => w.toNat % 8 = 7) ∧
    Meets (only (prog 0 [(32, 0x17000)])) 0xA1E (fun _ t => modeLimit false < (t.latchN 8 0).toNat % 2 ^ 17 / 4 * 4 + 4) ∧
    Meets (only (prog 0 [(32, 0x16FFC)])) 0xA1E (fun _ t => (t.latchN 8 0).toNat % 2 ^ 17 / 4 * 4 + 4 ≤ modeLimit false ∧ t.latchN 8 1 = 0) ∧
    Meets (only { prog 1 [(32, 0x2000)] with waddrOut := true }) 0xA1E (fun w _ => w.toNat % 8 = 1) ∧
    Meets (only (prog 0x101 [(32, 0x2000)])) 0xA1E (fun w _ => w.toNat / 2 ^ 8 = 1) := by
  repeat' apply And.intro
  all_goals first | exact starts_of _ _ (by decide +kernel) | decide +kernel

theorem test_witness_BalanceChecks :
    Meets ({ only (prog 0) with launches := [(1, { aLaunch with balance := false })] }) 0xB0D (fun _ _ => True) ∧
    Meets (only { prog 0 with bal := { sweep := some sweep1 } }) 0xB05 (fun _ _ => True) ∧
    Meets (only (prog 0)) 0xB05 (fun _ _ => (prog 0).bal.loaded = false ∧ (prog 0).bal.sweep = none) := by
  repeat' apply And.intro
  all_goals first | exact starts_of _ _ (by decide +kernel) | decide +kernel

theorem test_witness_BalanceRegisters :
    Meets (only (prog 5)) 0xB01 (fun _ _ => aLaunch.balance = true ∧ (prog 5).bal.sweep = none) ∧
    Meets (only (prog 5)) 0xB02 (fun _ _ => True) ∧
    Meets (only (prog 5)) 0xB08 (fun _ _ => True) ∧
    Meets (only (prog 5)) 0xB09 (fun _ _ => (only (prog 5)).isDual 2056 = false) ∧
    Meets (only (prog 0)) 0xB0A (fun w _ => w = 0) ∧
    Meets (only (prog 0x30004)) 0xB0A (fun w t => groupFits (groupOf (t.latchN 9 0).toNat w.toNat) aLaunch.w aLaunch.h 0 = true) ∧
    Meets (only (prog 0x40004)) 0xB0A (fun w t => groupFits (groupOf (t.latchN 9 0).toNat w.toNat) aLaunch.w aLaunch.h 0 = false) ∧
    Meets (only { prog 0x104 with bal := { loaded := true } }) 0xB0B (fun w _ => 64 < w.toNat / 4 % 2 ^ 7) ∧
    Meets (only { prog 0x100 with bal := { loaded := true } }) 0xB0B (fun w _ => w.toNat / 4 % 2 ^ 7 = 64) ∧
    Meets (only (prog 0)) 0xB0C (fun _ _ => True) ∧
    Meets (only { prog 0x4FF with bal := { n := 5 } }) 0xB0D (fun _ _ => True) := by
  repeat' apply And.intro
  all_goals first | exact starts_of _ _ (by decide +kernel) | decide +kernel

theorem test_witness_BalanceRecords :
    Meets (only (prog 0 [(36, 0x2000)])) 0xB00 (fun _ _ => (scanWords (only (prog 0)).me 0x2000).all (fun k => !(prog 0).lsPending.contains k) = true) ∧
    Meets (only { prog 0 [(36, 0x2000)] with bal := { scanAt := some 100 }, ls := [⟨0x2000, 1⟩] }) 0xB00 (fun _ _ => (scanFault (only { prog 0 with ls := [⟨0x2000, 1⟩] }).me 0x2000).isSome = true) ∧
    Meets (only { prog 0 [(36, 0x2000)] with bal := { scanAt := some 100 }, ls := [⟨0x2001, 0x30⟩] }) 0xB00 (fun _ _ => scanFault (only { prog 0 with ls := [⟨0x2001, 0x30⟩] }).me 0x2000 = none) ∧
    Meets (only { prog 9 [(36, 1)] with bal := { loaded := true, n := 10, rbase := 0x2000 } }) 0xB03 (fun w t => 10 < w.toNat % 2 ^ 10 + ((t.latchN 9 0).toNat % 16 + 1)) ∧
    Meets (only { prog 8 [(36, 1)] with bal := { loaded := true, n := 10, rbase := 0x2000 } }) 0xB04 (fun w t => w.toNat % 2 ^ 10 + ((t.latchN 9 0).toNat % 16 + 1) ≤ 10) := by
  repeat' apply And.intro
  all_goals first | exact starts_of _ _ (by decide +kernel) | decide +kernel

theorem test_witness_SweepsAndReadouts :
    Meets (only { prog 0 with bal := { loaded := true } }) 0xB05 (fun w t => w.toNat % 2 ^ 16 = 0 ∧ (t.latchN 9 0).getLsbD 1 = false) ∧
    Meets (only { prog 1 with bal := { loaded := true } }) 0xB05 (fun w _ => w.toNat % 2 ^ 16 ≠ 0) ∧
    Meets (only { prog 0 [(36, 0x16FC0)] with bal := { loaded := true } }) 0xB06 (fun _ t => modeLimit false < (t.latchN 9 0).toNat % 2 ^ 17 / 64 * 64 + 128) ∧
    Meets (only { prog 0 [(36, 0x16F80)] with bal := { loaded := true } }) 0xB06 (fun _ t => (t.latchN 9 0).toNat % 2 ^ 17 / 64 * 64 + 128 = modeLimit false) := by
  repeat' apply And.intro
  all_goals first | exact starts_of _ _ (by decide +kernel) | decide +kernel

theorem test_witness_ControlRegisterReads :
    Meets (only (prog 0x3)) 0xC00 (fun w _ => ∀ r ∈ cregRows, r.num ≠ w.toNat % 2 ^ 12) ∧
    Meets (only (prog 0x1000)) 0xC00 (fun w _ => w.toNat.testBit 12 = true) ∧
    Meets (only (prog 0x21)) 0xC00 (fun _ _ => True) ∧
    Meets (only { prog 0xF with mxown := 6 }) 0xC00 (fun _ _ => True) ∧
    Meets (only (prog 0x100C)) 0xC00 (fun _ _ => True) ∧
    Meets (only (inSup (prog 0x26))) 0xC00 (fun _ _ => True) := by
  repeat' apply And.intro
  all_goals first | exact starts_of _ _ (by decide +kernel) | decide +kernel

theorem test_witness_ControlRegisterWrites :
    Meets (only (prog 0x3)) 0xC01 (fun _ _ => True) ∧
    Meets (only (prog 0x8)) 0xC02 (fun _ _ => True) ∧
    Meets (only { prog 0xF with mxown := 6 }) 0xC01 (fun _ _ => True) ∧
    Meets (only { prog 0x4 with mac := some { code := 0x911, v := 0, n := 16, done := 0, base := 90 } }) 0xC03 (fun _ _ => True) ∧
    Meets (only (inSup (prog 0xB [(40, 7)]))) 0xC01 (fun _ t => valueBad 0xB (t.latchN 10 0).toNat = true) ∧
    Meets (only (prog 0x9 [(40, 0xFFFF)])) 0xC03 (fun _ t => valueBad 9 (t.latchN 10 0).toNat = false) := by
  repeat' apply And.intro
  all_goals first | exact starts_of _ _ (by decide +kernel) | decide +kernel

theorem test_witness_SystemOperations :
    Meets (only (prog 12)) 0xC04 (fun w _ => 12 ≤ w.toNat % 16) ∧
    Meets (only (prog 11 [(40, 0x8001)])) 0xC04 (fun w _ => w.toNat % 16 < 12) ∧
    Meets (only (prog 0)) 0xC06 (fun _ _ => True) ∧
    Meets (only (prog 0)) 0xC07 (fun _ _ => True) ∧
    Meets (only (prog 0)) 0xC05 (fun _ _ => True) ∧
    Meets (only (prog 0xF)) 0xC08 (fun _ _ => True) ∧
    Meets (only (prog 15)) 0xC0A (fun _ _ => True) ∧
    Meets (only (inSup (prog 7 [(40, 0x101)]))) 0xC0B (fun _ _ => True) ∧
    Meets (only (inSup (prog 0))) 0xC0C (fun _ _ => True) ∧
    Meets (only (inSup (prog 3))) 0xC0D (fun _ _ => True) := by
  repeat' apply And.intro
  all_goals first | exact starts_of _ _ (by decide +kernel) | decide +kernel

theorem test_witness_TrapReturn :
    Meets (only { inSup (prog 0) with snap := some { latches := Vector.replicate 52 0, socks := Vector.replicate 13 {}, op4s := [] } }) 0xC09 (fun _ _ => (only { inSup (prog 0) with snap := some { latches := Vector.replicate 52 0, socks := Vector.replicate 13 {}, op4s := [] } }).me.handlerOpen = false) := by
  repeat' apply And.intro
  all_goals first | exact starts_of _ _ (by decide +kernel) | decide +kernel

theorem test_witness_HashAndFuses :
    Meets (crown (inSup (prog 0))) 0xD00 (fun w _ => w.toNat = 0) ∧
    Meets (crown { inSup (prog 0) with sha := { declared := 5 } }) 0xD01 (fun _ _ => True) ∧
    Meets (crown (inSup (prog 0))) 0xD02 (fun _ _ => (prog 0).sha.ready = false) ∧
    Meets (crown { inSup (prog 0) with sha := { ready := true } }) 0xD02 (fun _ _ => True) ∧
    Meets (crown (inSup (prog 3))) 0xD07 (fun w _ => w.toNat % 4 = 3) ∧
    Meets (crown (inSup (prog 2))) 0xD07 (fun w _ => w.toNat % 4 ≠ 3) := by
  repeat' apply And.intro
  all_goals first | exact starts_of _ _ (by decide +kernel) | decide +kernel

theorem test_witness_KeyEngine :
    Meets (crown (inSup (prog 0 [(44, 0x17FE1)]))) 0xD03 (fun _ t => modeLimit true < (t.latchN 11 0).toNat + 32) ∧
    Meets (crown (inSup (prog 0 [(44, 0x2000), (45, 0x17FFC)]))) 0xD03 (fun _ _ => rangesFit (crown (inSup (prog 0))) [(0x2000, 32), (0, 1793), (0, 0), (0x17FFC, 4)]) ∧
    Meets (crown (inSup (prog 0 [(44, 31), (45, 0x17FC0)]))) 0xD04 (fun _ _ => rangesFit (crown (inSup (prog 0))) [(0x17FC0, 64)] ∧ (crown (inSup (prog 0))).provisional 0x40003 = false) ∧
    Meets (crown (inSup (prog 0 [(44, 3), (45, 0x17FE0)]))) 0xD05 (fun _ _ => rangesFit (crown (inSup (prog 0))) [(0x17FE0, 32)]) ∧
    Meets (crown (inSup (prog 3))) 0xD06 (fun _ _ => crownComplex 0x40003 = (crown (prog 0)).fw.act) ∧
    Meets ({ crown (inSup (prog 3)) with fw := { act := 1 } }) 0xD06 (fun _ _ => crownComplex 0x40003 ≠ 1) := by
  repeat' first | decide +kernel | apply And.intro
  all_goals first
    | exact starts_of _ _ (by decide +kernel)
    | (simp only [rangesFit]; decide +kernel)

theorem test_witness_QueueOperations :
    Meets (crown (inSup (prog 9 [(48, 255)]))) 0xE03 (fun _ _ => ((crown (prog 0)).queue 255).length < 64 ∧ activeHere (crown (prog 0))) ∧
    Meets ({ crown (inSup (prog 9)) with queues := [(0, List.replicate 64 5)] }) 0xE03 (fun _ _ => 64 ≤ (List.replicate 64 (5 : DWord)).length) ∧
    Meets (crown (inSup (prog 9))) 0xE04 (fun _ _ => (crown (prog 0)).queue 9 = []) ∧
    Meets ({ crown (inSup (prog 0x100)) with queues := [(0, [5])] }) 0xE04 (fun w _ => w.getLsbD 8 = true) ∧
    Meets ({ crown (inSup (prog 0)) with queues := [(0, [5])] }) 0xE04 (fun w _ => w.getLsbD 8 = false) ∧
    Meets (crown (inSup (prog 9))) 0xE05 (fun _ _ => True) ∧
    Meets (crown (inSup (prog 255 [(48, 7)]))) 0xE01 (fun _ _ => True) ∧
    Meets (crown (inSup (prog 0 [(48, 7)]))) 0xE00 (fun _ _ => (crown (inSup (prog 0))).me.fenceWait 15 = false ∧ (crown (inSup (prog 0))).me.farLimit { id := 0, kind := .ringrd 7 0, dests := [], issuedAt := 0, reg := 0 } = false) := by
  repeat' apply And.intro
  all_goals first | exact starts_of _ _ (by decide +kernel) | decide +kernel

theorem test_witness_PrivilegeAndLaunch :
    supRows[0]?.map Prod.snd = some 0xC09 ∧ Begins (only (prog 0)) 0xC09 mv (got (only (prog 0))).1 (got (only (prog 0))).2 ∧ (only (prog 0)).me.sup = false ∧
    launchRows[1]?.map Prod.snd = some 0x20C ∧ Begins (crown (inSup (prog 0))) 0x20C mv (got (crown (inSup (prog 0)))).1 (got (crown (inSup (prog 0)))).2 ∧ isCrown (crown (inSup (prog 0))).cur = true := by
  repeat' apply And.intro
  all_goals first | exact starts_of _ _ (by decide +kernel) | exact begins_of _ _ (by decide +kernel) | decide +kernel

theorem test_witness_BundleIssue :
    (only (prog 5)).canIssue T = true ∧ (only (prog 5)).me.bundleTrap false (moveBundle 0x46 mv) = none ∧ (only (prog 5)).me.windowWait = false ∧ (only (prog 5)).me.depth = 0 ∧ ∀ x ∈ bundleMoves (moveBundle 0x46 mv), x.2.src.toNat < 64 ∧ 64 ≤ x.2.dst.toNat ∧ x.2.dst.toNat < 128 ∧ x.2.grd = 0 ∧
    rowOf 0x300 mv = some (.iaAdd false mv) ∧ codeOf (.iaAdd false mv) = some (0x300, mv) ∧ wfTrig 0x300 mv = true := by
  decide +kernel

theorem test_witness_BundleTraps :
    (only { prog 5 with pc := 3072 }).canIssue T = true ∧
    (only { prog 5 with pc := 3071 }).canIssue T = true ∧ (only { prog 5 with pc := 3071 }).me.sup = false ∧
    (only { prog 5 with pc := 2944 }).canIssue T = true ∧ (only { prog 5 with pc := 2944 }).me.sup = false ∧
    (only (prog 5)).canIssue T = true ∧ (only (prog 5)).me.fetchTrap = none ∧ (violation false (prog 5).streaming (moveBundle 0x212 mv)).isSome = true ∧
    (let s := only { prog 5 with far := [{ id := 0, kind := .load 4, dests := [], issuedAt := 5, look := 0, passed := 1, sup := false }] }; s.canIssue T = true ∧ s.me.fetchTrap = none ∧ violation false s.me.streaming (moveBundle 0x46 mv) = none ∧ s.me.windowWait = true ∧ s.me.spcnt.toNat < 4095) := by
  decide +kernel

theorem test_witness_TrapEntry :
    (let t := (only (prog 0)).me; t.sup = false ∧ t.mac = none ∧ t.rmws = [] ∧ t.rings = [] ∧ t.maccs = []) ∧
    (only (inSup (prog 0))).me.sup = true := by
  decide +kernel

theorem test_witness_TileCompletions :
    (only { prog 0 with socks := vset (Vector.replicate 13 {}) 12 { fly := [{ due := 100 }] } }).me.resultDue 12 100 = true ∧
    (∃ o ∈ ({ prog 0 with op4s := [{ stageAt := 100, seq := 0, code := 0x900, v := 0, a := 0, b := [], md := 0 }] } : Tile).op4s, o.stageAt ≤ 100) ∧ (prog 0).acCleared 100 = false ∧
    (only { prog 0 with maccs := [{ cyc := 99, dst := 3, br := 0, bc := 0, elems := [] }] }).me.maccs.all (fun a => decide (a.cyc < 100) && decide (a.dst < 4)) = true ∧
    (only { prog 0 with mac := some { code := 0x911, v := 0, n := 16, done := 0, base := 100 } }).me.mac.any (fun m => !m.susp && decide (m.done < m.n) && decide (m.base + m.done ≤ 100)) = true ∧
    (only { prog 0 with mac := some { code := 0x911, v := 0, n := 16, done := 16, base := 83 } }).me.mac.any (fun m => !m.susp && decide (m.done = m.n) && decide (m.base + m.n + 1 ≤ 100)) = true ∧
    (only { prog 0 with rmws := [{ cyc := 98, op := 0x16, addr := 0x2000, d := 0, n := 1, seq := 0 }] }).me.rmws.all (fun r => decide (r.cyc + 1 < 100) && !r.written) = true ∧
    (∃ r ∈ ({ prog 0 with rings := [{ cyc := 99, rel := false, addr := 0x2000, k := 1, seq := 0 }] } : Tile).rings, r.cyc < 100) ∧ ringOk false (0xD4000, 2, 0, 0) = true ∧
    (only { prog 0 with streams := vset (Vector.replicate 8 {}) 7 { on := true, base := 0x3000, n0 := 3 }, fillQ := [{ freed := 90, stream := 7, first := 90 }] }).me.fillDue 100 = some 7 ∧
    (only { prog 0 with waddrAt := some 100 }).me.waddrAt = some 100 ∧ 100 ≤ (only (prog 0)).clk := by
  decide +kernel

theorem test_witness_EventEntry :
    ((only { prog 0 with pend := 2 }).tile T).interruptDue 100 = true ∧
    (let s : State := { only { prog 0 with switchPend := true, switchAt := some (.safePoint 9) } with launches := [(1, { aLaunch with ctxs := [newCtx 0 5 0] })] }; s.switchDue T = some (.safePoint 9) ∧ s.isTwin T = false ∧ ∃ l, s.launch? 1 = some l ∧ ∃ c ∈ l.ctxs, c.tlin = (s.tile T).tlin) ∧
    (only { prog 0 with switchPend := true, run := .arrived }).switchDue T = some .arrival ∧
    (only { prog 0 with switchPend := true, stall := .classW }).switchDue T = some .wait := by
  decide +kernel

theorem test_witness_FarCompletions :
    (let r : FarReq := { id := 4, kind := .load 4, dests := [{ addr := BitVec.ofNat 52 (bankBase - 4) }], issuedAt := 2 }; let s := only { prog 0 with far := [r] }; single s T ∧ farOf (s.tile T) 4 = some r ∧ s.farReady T r false = true ∧ region (bankBase - 4) = .none) ∧
    (let r : FarReq := { id := 4, kind := .store 4, dests := [{ addr := BitVec.ofNat 52 bk }], issuedAt := 2 }; let s : State := only { prog 0 with far := [r] }; farOf (s.tile T) 4 = some r ∧ s.farReady T r false = true ∧ region bk = .bank ∧ s.rel.evEn = false ∧ s.pathDown (tileDie T) ((bk - bankBase) / 2 ^ 26) = false ∧ r.issuer = 0) ∧
    (let r : FarReq := { id := 4, kind := .load 64, dests := [{ addr := BitVec.ofNat 52 (bk + 0xFFC0), owner := 4 }], issuedAt := 2, issuer := 4 }; let s : State := only { prog 0 with far := [r] }; s.farReady T r false = true ∧ region (bk + 0xFFC0) = .bank ∧ s.bankOwnerOf 5 ≠ 4) ∧
    (farOf { prog 0 with far := [{ id := 4, kind := .load 4, dests := [], issuedAt := 2, gs := 7, reg := 63, phase := .performed 0 [1, 2, 3, 4] false }] } 4).map (fun r => (r.replies, r.drop, decide (r.replyAt ≤ 100))) = some (true, false, true) ∧
    (farOf { inSup (prog 0) with far := [{ id := 4, kind := .atomic 9 8, dests := [], issuedAt := 2, reg := 62, phase := .performed stDenied [] false }] } 4).map (fun r => (r.replies, r.sup)) = some (true, false) ∧
    (farOf { prog 0 with far := [{ id := 4, kind := .store 4, dests := [{ addr := 0 }], issuedAt := 2, cc := some 15, phase := .performed 0 [] false }] } 4).map (fun r => r.replies) = some false := by
  repeat' first | decide +kernel | apply And.intro
  all_goals first
    | (unfold single; decide +kernel)

theorem test_witness_EngineCompletions :
    (let c : CopyReq := { id := 0, kind := .halo 3, start := 10, src := 0, len := 4, dstTile := 2057, dst := 0x16FFC, travel := 7, read := 4, groups := [(0, [(1, false), (2, false), (3, false), (4, false)], 60)] }; let s := only { prog 0 with copies := [c] }; s.copyDue T c = true ∧ c.arrived 100 = some (0, [(1, false), (2, false), (3, false), (4, false)])) ∧
    (let d : Dma := { id := 9, toGlobal := true, dest := { addr := 0 }, len := 64, blk := 64, p := 1, x0 := 0, y0 := 0, wd := 1, base := 0, cc := 15, cls := 0, issuer := 3, firstAt := 5, grans := [(0, .performed stOK [] 100)] }; d.state 0 = .performed stOK [] 100 ∧ d.toGlobal = true) ∧
    (let s := only { prog 0 with layoutWait := some 0 }; (s.engine 0).ready 100 = true ∧ (∃ w ∈ s.waiters 0, s.waiterReady 0 w = true) ∧ s.comparedCmd T 0 = none) ∧
    (let t : Tile := { prog 0 with kyJobs := [(0, .mextend 0 15)] }; t.kyFind 0 = some (.mextend 0 15)) ∧
    (let t : Tile := { prog 0 with kyJobs := [(0, .keyld 3 0x2000 15)] }; t.kyFind 0 = some (.keyld 3 0x2000 15)) ∧ crownComplex 0x40003 = ({} : State).fw.act ∧
    (let t : Tile := { prog 0 with kyJobs := [(0, .fverify 0x2000 0x3000 9 { addr := 0 } 4 3 0x4000 false 15)] }; t.kyFind 0 = some (.fverify 0x2000 0x3000 9 { addr := 0 } 4 3 0x4000 false 15)) ∧
    (let q : SpawnReq := { target := 9000, entry := 0, args := [], wid := 0, arriveAt := 100, startAt := 0, answerAt := 110 }; (only { prog 0 with spawns := [q] }).me.spawns = [q] ∧ q.answer = none ∧ q.arriveAt ≤ 100) ∧
    (let q : SpawnReq := { target := T, entry := 0, args := [], wid := 0, arriveAt := 90, startAt := 101, answerAt := 110, answer := some true }; let s := only { prog 0 with run := .idle, spawnIn := some q }; (s.tile T).spawnIn = some q ∧ (s.tile T).launch.bind s.launch? = some aLaunch ∧ q.startAt ≤ s.clk + 1 ∧ (s.tile T).sup = false ∧ aLaunch.state = .running) := by
  decide +kernel

theorem test_witness_LayoutElements :
    (let c : LayoutCmd := { tile := T, launch := some 1, admitted := 68, dmw := 0, shape := ([1] ++ List.replicate 7 0 ++ [4] ++ List.replicate 7 0 ++ [1] ++ List.replicate 7 0 ++ [1] ++ List.replicate 15 0).flatMap (fun w => toBytes 4 w), src := { addr := 0 }, dst := none, blk := 64, p := 1, x0 := 0, y0 := 0, wd := 1, base := 0x2000, cc := 15, cls := 0, issuer := 3, elems := [(0, .read (clean (toBytes 4 7)))], after := [] }; c.admitted + 32 ≤ 100 ∧ c.fault = none ∧ c.elem 0 = .read (clean (toBytes 4 7))) := by
  decide +kernel

theorem test_witness_Releases :
    (let s := holding (small .running) .arrived; s.launch? 1 = some (small .running) ∧ (small .running).allTiles.Nodup ∧ (small .running).escT + 2 * (small .running).latency ≤ s.clk ∧ (∃ k ∈ (small .running).allTiles, (s.tile k).run = .arrived) ∧ ∀ k ∈ (small .running).allTiles, (s.tile k).escReady = true) ∧
    (let s := holding (small .running); s.launch? 1 = some (small .running) ∧ ∃ k ∈ (small .running).allTiles, (s.tile k).escReady = false) ∧
    (let l : Launch := { small .placed with releaseAt := some 10000 }; let s := holding l .waitRelease; s.launch? 1 = some l ∧ l.state = .placed ∧ l.releaseAt = some 10000 ∧ 10000 ≤ s.clk) ∧
    (let l : Launch := { small .placed with releaseAt := some 10001 }; let s := holding l .waitRelease; s.launch? 1 = some l ∧ s.clk < 10001) := by
  decide +kernel

theorem test_witness_BalancePhases :
    (let t : Tile := { prog 0 with bal := { loaded := true, n := 1024, ncol := 1, rbase := 0x2000, sweep := some { sweep1 with updateAt := 100 } } }; let s := only t; single s T ∧ (s.tile T).launch.bind s.launch? = some aLaunch ∧ t.bal.sweep = some { sweep1 with updateAt := 100 } ∧ sweep1.stage = .updating ∧ sweep1.begun ≤ s.clk) ∧
    (let h : HaloSpin := { dstTile := T + 1, slot := 255, bit := true, landAt := 100 }; let s := only { prog 0 with bal := { sends := [h] } }; (s.tile T).bal.sends[0]? = some h ∧ h.landAt ≤ s.clk ∧ single s h.dstTile) ∧
    (let c : CopyReq := { id := 0, kind := .readout, start := 10, src := 0, len := 4, dstTile := T, dst := 0x16FFC, travel := 0, read := 4, groups := [(0, [(1, false), (2, false), (3, false), (4, false)], 60)] }; let s := only { prog 0 with copies := [c] }; c.arrived s.clk = some (0, [(1, false), (2, false), (3, false), (4, false)]) ∧ (s.tile T).rmwHolds s.clk 0x16FFC 4 = false ∧ (s.tile T).storeHeld 0x16FFC 4 = false) := by
  repeat' first | decide +kernel | apply And.intro
  all_goals first
    | (unfold single; decide +kernel)

theorem test_witness_ColourBarrier :
    (let l : Launch := { small .running with w := 1, h := 1 }; let s : State := { clk := 100, launches := [(1, l)], tiles := [(tileAt 20 20, { prog 0 with bal := { loaded := true, n := 1, ncol := 1, sweep := some { sweep1 with stage := .arrived 90 } } })] }; (s.tile (tileAt 20 20)).launch.bind s.launch? = some l ∧ (s.balRelease? (tileAt 20 20) l).isSome = true ∧ (s.balReached l (({ loaded := true } : Bal).rect l)).Nodup) ∧
    (let l : Launch := { small .running with w := 1, h := 1 }; let s : State := { clk := 1000, launches := [(1, l)], tiles := [(tileAt 20 20, { prog 0 with bal := { loaded := true, n := 1, ncol := 1, sweep := some { sweep1 with stage := .arrived 90 } } })] }; released s (tileAt 20 20) l (s.balReached l ((s.tile (tileAt 20 20)).bal.rect l))) := by
  repeat' apply And.intro
  all_goals first | exact starts_of _ _ (by decide +kernel) | decide +kernel

theorem test_witness_RingSteps :
    (let r : Ring := { ring0 with presented := false }; let s := pkt 7 [] r; s.ring 7 = r ∧ s.feCtrl.getLsbD 0 = true ∧ r.headOwed = false ∧ r.blocked = none ∧ s.fw.hang = false ∧ (s.rings.map Prod.fst).Pairwise (· < ·) ∧ (∀ p ∈ s.rings, p.1 ≠ 7 → p.2.queue = r.queue → p.2.ready = false) ∧ s.slotsRead 7 = s ∧ s.packetWords 7 = some (words s) ∧ pktType (words s) = 7) ∧
    (pkt 7 [] { ring0 with presented := false, exp := 18 }).packetWords 7 = none ∧
    (pkt 7 []).ring 7 = ring0 ∧ ring0.headOwed = false ∧ ring0.presented = true ∧
    ({ ring0 with en := false } : Ring).en = false ∧ (0x90 : Word).getLsbD 7 = true := by
  decide +kernel

theorem test_witness_WritePackets :
    Served (pkt 2 (at2 0x4000 ++ [4, 0, 0x55])) 2 ∧ headerBad (words (pkt 2 (at2 0x4000 ++ [4, 0, 0x55]))) = false ∧ Free (pkt 2 (at2 0x4000 ++ [4, 0, 0x55])) 7 (words (pkt 2 (at2 0x4000 ++ [4, 0, 0x55]))) (bk + 0x4000) 4 ∧
    Served (pkt 2 (at2 0x4000 ++ [0, 0])) 2 ∧ pw (words (pkt 2 (at2 0x4000 ++ [0, 0]))) 10 = 0 ∧
    Served (pkt 2 (at2 0x4000 ++ [84, 0])) 2 ∧ 80 + 124 * (pktSlots (words (pkt 2 (at2 0x4000 ++ [84, 0]))) - 1) < 84 ∧
    Served (pkt 2 (at2 0x14000 ++ [64, 0])) 2 ∧ (pkt 2 []).bankOwnerOf 6 ≠ 3 ∧ (pkt 2 []).rel.evEn = false ∧
    Served { pkt (2 + 1024) [0, 0x16FFC + 2 ^ 18 * 3, 4, 1, 0x55] with launches := [(1, small .running)] } 2 ∧ (let s : State := { pkt (2 + 1024) [0, 0x16FFC + 2 ^ 18 * 3, 4, 7, 0x55] with launches := [(1, { small .running with handle := 7 })] }; s.mailTarget 3 7 = some { small .running with handle := 7 } ∧ s.fenceReason 1 = none) ∧
    Served (pkt 3 (at2 0x4000 ++ [4, 0, 3])) 3 ∧ Free (pkt 3 (at2 0x4000 ++ [4, 0, 3])) 7 (words (pkt 3 (at2 0x4000 ++ [4, 0, 3]))) (bk + 0x4000) 8 ∧
    Served (pkt 3 (at2 0x4004 ++ [4, 0, 3])) 3 ∧ pd2 (words (pkt 3 (at2 0x4004 ++ [4, 0, 3]))) 8 % 8 ≠ 0 ∧
    Served (pkt 4 (at2 0x4000 ++ [4, 0] ++ at2 0x4100 ++ [1, 0, 0, 0, 0, 0, 0x55])) 4 ∧ Free (pkt 4 (at2 0x4000 ++ [4, 0] ++ at2 0x4100 ++ [1, 0, 0, 0, 0, 0, 0x55])) 7 (words (pkt 4 (at2 0x4000 ++ [4, 0] ++ at2 0x4100 ++ [1, 0, 0, 0, 0, 0, 0x55]))) (bk + 0x4100) 4 ∧ apart (bk + 0x4000) 4 (bk + 0x4100) 4 ∧
    Served (pkt 4 (at2 0x4000 ++ [4, 0] ++ at2 0x4100 ++ [1, 0, 0, 1, 0, 0, 0x55])) 4 := by
  repeat' first | decide +kernel | apply And.intro | apply Answers.mk | apply Turn.mk | apply Free.mk
  all_goals first
    | (unfold apart; decide +kernel)

theorem test_witness_BlockingPackets :
    Served (pkt 5 (at2 0x4000 ++ [0, 0, 0, 0])) 5 ∧ waitHolds (pkt 5 (at2 0x4000 ++ [0, 0, 0, 0])) (words (pkt 5 (at2 0x4000 ++ [0, 0, 0, 0]))) = true ∧
    Served (pkt 5 (at2 0x4000 ++ [1, 0, 0, 0])) 5 ∧ waitHolds (pkt 5 (at2 0x4000 ++ [1, 0, 0, 0])) (words (pkt 5 (at2 0x4000 ++ [1, 0, 0, 0]))) = false ∧
    Served (pkt 5 (at2 0x4004 ++ [1, 0, 0, 0])) 5 ∧ pd2 (words (pkt 5 (at2 0x4004 ++ [1, 0, 0, 0]))) 8 % 8 ≠ 0 ∧
    Served (pkt 7 []) 7 ∧ headerBad (words (pkt 7 [])) = false ∧ (pkt 7 []).launches = [] ∧
    Served { pkt 7 [] with launches := [(1, { small .running with ring := 7 })] } 7 ∧
    (let s := pkt 5 (at2 0x4000 ++ [1, 0, 0, 1]) { ring0 with blocked := some (.wait 6700 none) }; s.serves = true ∧ (s.ring 7).blocked = some (.wait 6700 none) ∧ pw (words s) 13 = 1 ∧ 6700 + 1 * 3300 ≤ s.clk) ∧
    (let s := pkt 7 [] { ring0 with blocked := some (.fence false) }; s.serves = true ∧ (s.ring 7).blocked = some (.fence false) ∧ s.launches = []) := by
  repeat' first | decide +kernel | apply And.intro | apply Answers.mk | apply Turn.mk
  all_goals first
    | (unfold apart; decide +kernel)

theorem test_witness_CodePackets :
    Served (pkt 6 (at2 0x6000 ++ [0, 1023, 0])) 6 ∧ headerBad (words (pkt 6 (at2 0x6000 ++ [0, 1023, 0]))) = false ∧ (pkt 6 (at2 0x6000 ++ [0, 1023, 0])).launches = [] ∧
    Served (pkt 6 (at2 0x6000 ++ [0, 1024, 0])) 6 ∧ 1024 ≤ pw (words (pkt 6 (at2 0x6000 ++ [0, 1024, 0]))) 11 ∧
    Served { pkt 6 (at2 0x6000 ++ [0, 1, 0]) with launches := [(1, { small .running with ring := 7 })] } 6 ∧ (small .running).code.handle = 1 ∧ (small .running).owner = 3 ∧
    Served (pkt 6 (at2 0x6000 ++ [100, 5, 0])) 6 ∧ (pkt 6 (at2 0x6000 ++ [100, 5, 0])).crownRead 3 (bk + 0x6000) 100 = (some (stOK, List.replicate 100 0), pkt 6 (at2 0x6000 ++ [100, 5, 0])) ∧ loadObject (List.replicate 100 0) 0 = .imageInvalid := by
  repeat' first | decide +kernel | apply And.intro | apply Answers.mk | apply Turn.mk
  all_goals first
    | (unfold apart; decide +kernel)

theorem test_witness_LaunchPackets :
    Served (pkt 1 []) 1 ∧ headerBad (words (pkt 1 [])) = true ∧
    Served (pkt 8 (at2 0x10 ++ [257])) 8 ∧ 256 < pw (words (pkt 8 (at2 0x10 ++ [257]))) 10 ∧
    Served (pkt 8 (at2 0x10 ++ [256])) 8 ∧ headerBad (words (pkt 8 (at2 0x10 ++ [256]))) = false ∧ (pkt 8 (at2 0x10 ++ [256])).pending + 256 ≤ 16384 ∧
    Served (pkt 8 (at2 0x10000 ++ [1])) 8 ∧ (pkt 8 (at2 0x10000 ++ [1])).crownRead 3 (bk + 0x10000) 16 = (some (stDenied, []), pkt 8 (at2 0x10000 ++ [1])) ∧
    Served (pkt 8 (at2 0x1000 ++ [1])) 8 ∧ (pkt 8 (at2 0x1000 ++ [1])).fw.notices = [] := by
  repeat' first | decide +kernel | apply And.intro | apply Answers.mk | apply Turn.mk
  all_goals first
    | (unfold apart; decide +kernel)

theorem test_witness_LaunchAccepted :
    (let s : State := { pkt (1 + 256) ([5, 4 + 2 ^ 16 * 3, 2 ^ 16, 7, 0, 0, 0, 0, 0x183, 0, 2, 3, 1, 1, 1, 1, noVal, noVal, noVal, 0, 0, 0, 0, 0, 18] ++ List.replicate 31 0) with objects := [{ noCode with handle := 5, segt := 0xFFFFFFFF }] }; Turn s 7 1 (words s) ∧ headerBad (words s) = false ∧ launchHeaderBad (words s) = false ∧ s.pending < 16384 ∧ (s.object? 3 5).isSome = true ∧ itemsOf (pd2 (words s) 16) ((upTo 6).map fun i => pw (words s) (18 + i)) ≠ 0) ∧
    (let s : State := pkt (1 + 256) ([5, 4 + 2 ^ 16 * 3, 2 ^ 16, 7, 0, 0, 0, 0, 0x183, 0, 2, 3, 1, 1, 1, 1, noVal, noVal, noVal, 0, 0, 0, 0, 0, 18] ++ List.replicate 31 0); launchHeaderBad (words s) = false ∧ s.object? 3 5 = none) := by
  repeat' first | decide +kernel | apply And.intro | apply Answers.mk | apply Turn.mk

theorem test_witness_Aborts :
    (let l : Launch := { small .swapping with ring := 7 }; let s : State := { pkt 7 [] with launches := [(1, l)] }; s.launch? l.id = some l ∧ l.owner = (s.ring 7).owner ∧ (s.launches.map Prod.fst).Pairwise (· < ·)) ∧
    (let l : Launch := { small .running with ring := 7 }; let s : State := { pkt 7 [] with launches := [(1, l)] }; s.launch? l.id = some l ∧ s.fenceReason l.id = none ∧ s.rel.wishes = []) ∧
    (let l : Launch := { small .swapped with ring := 7 }; let s : State := { pkt 7 [] with launches := [(1, l)] }; s.launch? l.id = some l) := by
  decide +kernel

theorem test_witness_StartChecks :
    (let l : Launch := { small .queued with deps := [{ addr := BitVec.ofNat 52 bk, strict := true, handle := 0, satisfied := false }], tstart := 1000 }; let s : State := { holding l with bankOwner := [(5, 3)] }; s.launch? 1 = some l ∧ alone s 1 ∧ recordOpen s l { addr := BitVec.ofNat 52 bk, strict := true, handle := 0, satisfied := false } ∧ ¬ unfinished s { addr := BitVec.ofNat 52 bk, strict := true, handle := 0, satisfied := false } ∧ l.tstart.toNat ≤ s.bu.dial.toNat) ∧
    (let l : Launch := { small .queued with deps := [{ addr := BitVec.ofNat 52 bk, strict := true, handle := 9, satisfied := false }], tstart := 1000 }; let s : State := { holding l with bankOwner := [(5, 3)] }; recordOpen s l { addr := BitVec.ofNat 52 bk, strict := true, handle := 9, satisfied := false } ∧ unfinished s { addr := BitVec.ofNat 52 bk, strict := true, handle := 9, satisfied := false }) ∧
    (let l : Launch := { small .queued with tstart := 1001 }; l.tstart ≠ 0 ∧ (holding l).bu.dial.toNat < l.tstart.toNat) ∧
    (let l : Launch := { small .queued with tstart := 1000, items := 0 }; l.tstart ≠ 0 ∧ l.tstart.toNat ≤ (holding l).bu.dial.toNat ∧ l.depsOk = true) ∧
    (let l : Launch := { small .placed with tstart := 900, late := 99 }; l.depsOk = true ∧ l.releaseAt = none ∧ l.late ≠ 0 ∧ ¬ (holding l).bu.dial.toNat ≤ l.tstart.toNat + l.late.toNat) ∧
    (let l : Launch := { small .placed with tstart := 900, late := 100 }; (holding l).bu.dial.toNat ≤ l.tstart.toNat + l.late.toNat) := by
  repeat' first | decide +kernel | apply And.intro
  all_goals first
    | (unfold unfinished; decide +kernel)

theorem test_witness_Placement :
    (let l := small .queued; let s : State := { holding l with tiles := [], bu := { ready := 0xFFFFFFFF, budget := 0 } }; s.launch? 1 = some l ∧ l.id = 1 ∧ l.items ≠ 0 ∧ s.feCtrl.getLsbD 1 = true ∧ s.bu.ready.getLsbD 26 = true ∧ s.fits l .all = none) ∧
    (let l : Launch := { small .queued with dmask := 0xFFFF, code := { noCode with base := 0x16FFF, image := [7] } }; let s : State := { holding l with tiles := [] }; s.turnOf l = true ∧ s.fits l .all ≠ none ∧ (s.fits l (.these [])).isSome = true ∧ l.code.base + l.code.image.length ≤ supBase) ∧
    (let l : Launch := { small .queued with deps := [{ addr := 0, strict := false, handle := 9, satisfied := false }], dmask := 0xFFFF }; let s : State := { holding l with tiles := [] }; s.fits l .all ≠ none ∧ s.turnOf l = false) := by
  decide +kernel

theorem test_witness_Preemption :
    (let l : Launch := { small .queued with waitSince := 0 }; let s := holding l; s.launch? 1 = some l ∧ s.feCtrl.getLsbD 1 = true ∧ s.bu.ready.getLsbD 26 = true ∧ l.waits = true ∧ s.mayPlace l = true) ∧
    (let l : Launch := { small .queued with prio := 7, waitSince := 0 }; let s : State := { holding l with tiles := [], schReserve := 0, bu := { ready := 0xFFFFFFFF, budget := 0 } }; eligible s l ∧ s.fits l (.these []) = none ∧ (s.ticksAt7 l).isSome = true ∧ s.reservedOne = none ∧ s.candidates (fun v => decide (s.effPrio v < s.effPrio l)) = []) ∧
    (let v : Launch := { small .running with id := 2, preemptible := true }; v.state = .running ∧ v.allTiles.Nodup) := by
  repeat' apply And.intro
  all_goals first | exact starts_of _ _ (by decide +kernel) | decide +kernel

theorem test_witness_SwapsAndEnds :
    (let l := small .running; let s := holding l .halted; s.launch? 1 = some l ∧ s.layoutBusy 1 = false ∧ alone s 1 ∧ l.allTiles.Nodup ∧ ∀ k ∈ l.allTiles, (s.tile k).ended = true ∧ (s.tile k).cir = 0) ∧
    (let l := small .running; let s := holding l; ¬ ∀ k ∈ l.allTiles, (s.tile k).ended = true) ∧
    (let l := small .swapping; let s := holding l .halted; s.launch? 1 = some l ∧ s.layoutBusy 1 = false ∧ alone s 1 ∧ l.tiles.Nodup ∧ l.dual = false ∧ ∀ k ∈ l.allTiles, (s.tile k).stopped = true ∧ (s.tile k).quiet = true ∧ (s.tile k).bal.paused = true) ∧
    (let l := small .swapping; let s := holding l; ¬ ∀ k ∈ l.allTiles, (s.tile k).stopped = true ∧ (s.tile k).quiet = true ∧ (s.tile k).bal.paused = true) ∧
    (let l := small .swapped; let s : State := { holding l with tiles := [], bu := { ready := 0xFFFFFFFF, budget := 0 } }; s.launch? 1 = some l ∧ s.fits l .all = none) ∧
    (let l : Launch := { small .swapped with dmask := 0xFFFF, w := 1, h := 1, ctxs := [newCtx 0 5 0] }; let s : State := { holding l with tiles := [] }; s.turnOf l = true ∧ s.fits l .all ≠ none ∧ (s.fits l (.these [])).isSome = true ∧ (∀ i < l.w * l.h, (l.ctxs[i]?.map fun c => c.tlin) = some i) ∧ (∀ c ∈ l.ctxs, c.ok = true) ∧ s.holders 1 = [] ∧ l.mail = []) ∧
    ∃ c ∈ [{ newCtx 0 5 0 with block := [⟨0x3FFF, 1⟩] }], c.ok = false := by
  repeat' apply And.intro
  all_goals first | exact starts_of _ _ (by decide +kernel) | decide +kernel

theorem test_witness_TranslationRegisters :
    ({} : State).xl.lock = false ∧ ({} : State).xl.genBusy = none ∧ ({} : State).xl.mig = none ∧
    ({ lock := true } : Xl).lock = true ∧
    ({ genBusy := some 3, genQueue := [0x80000000, 77] } : Xl).genQueue = 0x80000000 :: (77 : BitVec 16).setWidth 32 :: [] ∧
    ({ genBusy := some 3, genQueue := [0xFFFF, 5] } : Xl).genQueue = (0xFFFF : BitVec 16).setWidth 32 :: [5] := by
  decide +kernel

theorem test_witness_PageStates :
    (let s := tree0 3; entryAt s 77 7 5 (2 ^ 21 * 4 + 112) (page0 s) ∧ (page0 s).state = 3) ∧
    (let s := tree0 1; entryAt s 77 7 5 (2 ^ 21 * 4 + 112) (page0 s) ∧ (page0 s).state = 1 ∧ (page0 s).kind = 0 ∧ (page0 s).home < 16 ∧ (page0 s).home ≠ 5) := by
  repeat' apply And.intro
  all_goals first | exact starts_of _ _ (by decide +kernel) | decide +kernel

theorem test_witness_Migrations :
    (let s := tree0 0; entryAt s 77 7 5 (2 ^ 21 * 4 + 112) (page0 s) ∧ (page0 s).state = 0 ∧ (page0 s).kind = 0 ∧ (page0 s).home = 6 ∧ s.xl.mig = none) ∧
    (let m : Migration := { asid := 77, vpn := 7, oldDie := 6, oldFrame := 3, newDie := 15, newFrame := 9, large := false, phase := 1 }; m.phase = 1 ∧ m.newDie < 16 ∧ m.oldDie ≠ m.newDie ∧ ofPage m { src := 1, seqNo := 3, old := [], poison := false, die := 6, addr := 7 * 65536 + 65535, asid := some 77 }) ∧
    (let s : State := { tree0 0 with xl := { (tree0 0).xl with mig := some { asid := 77, vpn := 7, oldDie := 6, oldFrame := 3, newDie := 15, newFrame := 9, large := false, phase := 2 } } }; s.xl.genBusy = none ∧ entryAt s 77 7 5 (2 ^ 21 * 4 + 112) (page0 s)) := by
  repeat' apply And.intro
  all_goals first | exact starts_of _ _ (by decide +kernel) | decide +kernel

theorem test_witness_Bringup :
    ({} : State).bu.ready.getLsbD 25 = false ∧ ({} : State).bu.failed.getLsbD 25 = false ∧ ({} : State).bu.heldInReset = false ∧
    ({} : State).bu.ready.getLsbD 26 = false ∧ ({} : State).bu.failed.getLsbD 26 = false ∧
    ({ bu := { ready := 1 } } : State).bu.ready.getLsbD 0 = true := by
  decide +kernel

theorem test_witness_Dial :
    33 * 10 ^ 9 ≤ ({ dialAcc := 33000000000 } : Bu).dialAcc ∧ ({ dialAcc := 32999999999 } : Bu).dialAcc < 33 * 10 ^ 9 ∧
    (-500000 : Int) ≤ (BitVec.ofInt 32 (-500000)).toInt ∧ (BitVec.ofInt 32 (-500001)).toInt < -500000 ∧ (BitVec.ofInt 32 500000).toInt ≤ 500000 ∧
    (0x7FFFFFFFFFFFFFFF : DWord).getLsbD 63 = false ∧ (0x8000000000000000 : DWord).getLsbD 63 = true := by
  decide +kernel

theorem test_witness_Temperatures :
    (let l := small .running; let s := holding l; (s.launches.map Prod.fst).Pairwise (· < ·) ∧ s.launch? 1 = some l ∧ alone s 1 ∧ s.rel.evEn = false ∧ onDie l (tileDie (tileAt 20 20))) ∧
    ({} : Bu).ttrip.toNat ≤ (100 : Byte).toNat ∧ 15 ∉ ({} : Bu).tripped ∧ (99 : Byte).toNat < ({} : Bu).ttrip.toNat ∧
    (89 : Byte).toNat + 10 < ({} : Bu).ttrip.toNat ∧ ({} : Bu).ttrip.toNat ≤ (90 : Byte).toNat + 10 ∧
    115 ≤ (115 : Byte).toNat ∧ 15 ∉ ({} : Bu).unpowered ∧ (114 : Byte).toNat < 115 := by
  repeat' first | decide +kernel | apply And.intro
  all_goals first
    | (unfold onDie; decide +kernel)

theorem test_witness_LinksAndKeys :
    (let s : State := { br := { lock := true, ports := vset (Vector.replicate 24 {}) 23 { en := true, state := 2 } } }; (portOf s 23).state = 2 ∧ s.br.key 3 = none ∧ s.br.ualHeld = []) ∧
    (portOf { br := { ports := vset (Vector.replicate 24 {}) 23 { en := true, state := 1 } } } 23).state = 1 := by
  decide +kernel

theorem test_witness_ExportedWindows :
    (win ({} : State) 4095).state = 0 ∧
    (let x : Window := { state := 2, applied := List.range 18 }; x.state = 2 ∧ ∀ h < 18, h ∈ x.applied) ∧
    (let x : Window := { state := 2, applied := List.range 17 }; ∃ h < 18, h ∉ x.applied) ∧
    (let s : State := { bu := { ready := 0xFFFFFFFF }, br := { pages := [(3, { cmd := 1, busy := true, gbase := 0, len := 0x10000 })] } }; s.serves = true ∧ (cmdPage s 3).busy = true ∧ (cmdPage s 3).revoking = none ∧ (cmdPage s 3).cmd.toNat % 2 ^ 8 = 1 ∧ s.allMapped 3 0 0x10000 = false) ∧
    (let s : State := { bu := { ready := 0xFFFFFFFF }, br := { pages := [(3, { cmd := 2 + 4095 * 65536, busy := true })], windows := [(4095, { state := 1, exporter := 3 })] } }; s.serves = true ∧ (win s 4095).exporter = 3 ∧ (win s 4095).state = 1) := by
  decide +kernel

theorem test_witness_HostMemory :
    (let h : Hdm := { en := true, size := 1, owner := 3 }; h.en = true ∧ h.hbase.toNat ≤ 2 ^ 28 - 64 ∧ 2 ^ 28 - 64 < h.hbase.toNat + hdmBytes h ∧ (2 ^ 28 - 64) % 64 = 0) ∧
    (let h : Hdm := { en := true, size := 1, owner := 3 }; ¬ 2 ^ 28 < h.hbase.toNat + hdmBytes h) ∧
    (let s : State := { br := { hostHeld := [(7, 64, none, {})] } }; ¬ ∀ g ∈ s.br.hostHeld, g.2.1 ≠ 64) := by
  decide +kernel

theorem test_witness_Collectives :
    (grp ({} : State) 4095).stopped = none ∧ ({} : State).br.cen = false ∧
    (let s := coll1 100; s.br.cen = true ∧ (grp s 0).stopped = none ∧ (∀ b ∈ s.br.subs, b.group = 0 ∧ b.accepted = false ∧ b.held = false ∧ b.arriveAt ≤ s.clk ∧ (s.tile b.tile).egress = [] ∧ (s.tile b.tile).anyOpen b.after = false) ∧ s.br.subs.Nodup ∧ single s T ∧ ∃ r ∈ here s 0, r ≠ 0 ∧ nextSub s 0 r = none) := by
  repeat' first | decide +kernel | apply And.intro
  all_goals first
    | (unfold single; decide +kernel)

theorem test_witness_Fences :
    (let l := small .running; let s := holding l; keptTables s ∧ l.dual = false ∧ (fenceOf s 15).busy = false ∧ l.holds = true) ∧
    ¬ boxBad (boxOf (BitVec.ofNat 64 (511 + 319 * 2 ^ 16 + 1 * 2 ^ 32 + 1 * 2 ^ 48))) ∧ boxBad (boxOf (BitVec.ofNat 64 (511 + 319 * 2 ^ 16 + 2 * 2 ^ 32 + 1 * 2 ^ 48))) ∧ boxBad (boxOf 0) ∧
    (let s : State := { holding (small .running) with rel := { fences := vset (Vector.replicate 16 {}) 15 { busy := true, stage := 2, launches := [1] } } }; (fenceOf s 15).busy = true ∧ (fenceOf s 15).stage = 2 ∧ s.br.subs = [] ∧ (∀ k ∈ (fenceOf s 15).tests, k ∉ s.rel.testing) ∧ ∀ g < 16, (fenceOf s g).stage ≠ 1) ∧
    (let w : FenceWish := { launch := 1, reason := 0x11, info := { status := 0x11 }, since := 4 }; let s : State := { holding (small .running) with rel := { wishes := [w] } }; (s.rel.wishes.find? fun w => decide (w.launch = 1)) = some w) := by
  repeat' first | decide +kernel | apply And.intro
  all_goals first
    | (unfold boxBad; decide +kernel)

theorem test_witness_ErrorReports :
    (let s : State := { rel := { evEn := true, evBase := BitVec.ofNat 64 bk, evLgn := 4, evCons := BitVec.ofNat 64 (bk + 0x1000) } }; openBank s 0 bk 32 ∧ openBank s 0 (bk + 0x1000) 4 ∧ (s.rel.evSeq - BitVec.ofNat 32 (bankNum s (bk + 0x1000) 4)).toNat < 2 ^ 4) ∧
    (let s : State := { rel := { evEn := true, evSeq := 16, evBase := BitVec.ofNat 64 bk, evLgn := 4, evCons := BitVec.ofNat 64 (bk + 0x1000) } }; 2 ^ 4 ≤ (s.rel.evSeq - BitVec.ofNat 32 (bankNum s (bk + 0x1000) 4)).toNat) ∧
    (let s := holding (small .running); tileAt 20 20 < 0x40000 ∧ s.rel.evEn = false ∧ (s.tile (tileAt 20 20)).launch.bind s.launch? = some (small .running) ∧ alone s 1) ∧
    ({} : State).rel.edges.getLsbD 23 = false ∧ ({ edges := 1 } : Rel).edges.getLsbD 0 = true ∧
    (let s : State := { rel := { testing := [25] } }; 25 ∈ s.rel.testing ∧ ¬ retired s 25 ∧ (s.tile 25).launch = none) ∧
    (let s : State := {}; (s.tile (15 * 16384 + 10239)).launch = none ∧ (0 ∉ s.bankPoison)) ∧
    (let s : State := { rel := { evEn := true, unread := true, evSeq := 3, evCons := BitVec.ofNat 64 (bk + 0x1000) } }; bankNum s (bk + 0x1000) 4 ≠ s.rel.evSeq.toNat ∧ s.rel.msix0At ≤ s.clk ∧ openBank s 0 (bk + 0x1000) 4) := by
  repeat' first | decide +kernel | apply And.intro
  all_goals first
    | (unfold retired; decide +kernel)

theorem test_witness_TwinMessages :
    (let l : Launch := { small .running with dual := true, tox := 40, toy := 40 }; let s := holding l; s.launch? 1 = some l ∧ l.tileOf (s.tile (tileAt 20 20)).tlin = tileAt 20 20 ∧ l.twinOf (s.tile (tileAt 20 20)).tlin ≠ tileAt 20 20 ∧ alone s 1) ∧
    (let e : Egress := { k := 0, kind := 1, words := [1], since := 98 }; max e.since e.since + 2 ≤ 100 ∧ crc64 (e.kind :: e.words) ≠ crc64 (1 :: [2])) := by
  repeat' apply And.intro
  all_goals first | exact starts_of _ _ (by decide +kernel) | decide +kernel

theorem test_witness_BootRom :
    State.reset.fw.phase = .idle ∧ State.reset.fw.sb = .reset ∧ State.reset.fw.booting = none ∧
    headerWrong [] := by
  repeat' first | decide +kernel | apply And.intro
  all_goals first
    | exact Or.inl (by decide)

theorem test_witness_Handover :
    ({ phase := .switched } : Fw).notices = [] ∧ ({ phase := .switched } : Fw).heldWrites = [] ∧
    ({ phase := .switched, switchedAt := 0 } : Fw).switchedAt + 20 * 3300000 ≤ 66000000 ∧ ¬ ({ phase := .switched, switchedAt := 1 } : Fw).switchedAt + 20 * 3300000 ≤ 66000000 ∧
    ({ fw := { arb := some 63 } } : State).arbOf.toNat = 63 ∧
    (let s : State := { clk := 9, agenda := [(9, .importTable)], fw := { phase := .switched } }; s.due = none ∧ s.agenda = (9, .importTable) :: [] ∧ s.bu.heldInReset = false ∧ tableWrong s.csram 0 0) := by
  repeat' first | decide +kernel | apply And.intro
  all_goals first
    | exact Or.inl (by decide)

theorem test_witness_Identity :
    ({ bu := { ready := 0xFFFFFFFF } } : State).serves = true ∧ ({ bu := { ready := 0xFFFFFFFF }, fw := { hang := true } } : State).serves = false ∧
    ({} : Fw).idBusy = false ∧ ({ idMsg := 2 ^ 24 - 64 } : Fw).idMsg.toNat % 2 ^ 24 + 64 ≤ 2 ^ 24 ∧ 2 ^ 24 < ({ idMsg := 2 ^ 24 - 63 } : Fw).idMsg.toNat % 2 ^ 24 + 64 ∧
    mbIdle { bu := { ready := 0xFFFFFFFF } } ∧ mbWaits { bu := { ready := 0xFFFFFFFF }, fw := { mbBusy := true } } := by
  repeat' apply And.intro
  all_goals first | exact starts_of _ _ (by decide +kernel) | decide +kernel

theorem test_witness_Mailbox :
    mbIdle { bu := { ready := 0xFFFFFFFF } } ∧ ({} : State).rel.evEn = false ∧ ({} : State).fw.phase = .idle ∧
    mbIdle { fw := { recovery := true } } ∧ ({ fw := { recovery := true } } : State).serves = false ∧
    (List.replicate 20480 (0 : Byte)).length = 20480 := by
  repeat' apply And.intro
  all_goals first | exact starts_of _ _ (by decide +kernel) | decide +kernel

theorem test_witness_CrownWrites :
    ({ fw := { phase := .switched } } : State).crnStands 0x1000000 4 = true ∧ ({ fw := { phase := .switched } } : State).crnStands 0x4018000 4 = false ∧
    (2 ^ 24 - 32) + 32 ≤ 2 ^ 24 ∧ ({} : State).fw.phase ≠ .switched := by
  decide +kernel

theorem test_witness_DecodeEncode :
    decode (Claims.words45 0x20D00000 0x400) = .ok (.cuHalt (Claims.plainMove 0x400)) ∧
    Instr.wf (.cuHalt (Claims.plainMove 0x400)) = true ∧ encode (.cuHalt (Claims.plainMove 0x400)) = some (Claims.words45 0x20D00000 0x400) ∧
    rowOf 0x20D (Claims.plainMove 0x400) = some (.cuHalt (Claims.plainMove 0x400)) := by
  decide +kernel

theorem test_witness_StepRunsDecoded :
    (only (prog 0)).bu.heldInReset = false ∧ (only (prog 0)).due = some (.issue T) ∧ plainFetch (only (prog 0)) T ∧
    (let s : State := { only { prog 0 with run := .halted } with agenda := [(100, .event .ppsInEdge)] }; s.due = none ∧ s.agenda = (100, .event .ppsInEdge) :: []) ∧
    ({ clk := 100, bu := { dialAcc := 33000000000 } } : State).due = some .dial ∧ runBy .dial .dialTick ∧
    ({ bu := { heldInReset := true } } : State).agenda = [] ∧
    codeOf .ppsInEdge = none := by
  repeat' first | decide +kernel | apply And.intro
  all_goals first
    | rfl

theorem test_witness_MemoriesStayCanonical :
    State.reset.memWf = true ∧
    (only { prog 0 with ls := [⟨3, 1⟩, ⟨5, 2⟩] }).memWf = true ∧ ∃ s', step (only { prog 0 with ls := [⟨3, 1⟩, ⟨5, 2⟩] }) = .next s' := by
  repeat' first | decide +kernel | apply And.intro
  all_goals first
    | exact ⟨_, rfl⟩


/-! ### The wider clauses: what the homes, the front end, the engine, the bridge and the firmware meet -/

/-- A load of request number 4 from a list of places. -/
def fetching (kind : FarKind) (ds : List Nat) : FarReq :=
  { id := 4, kind, dests := ds.map fun a => { addr := BitVec.ofNat 52 a }, issuedAt := 2 }

/-- What comes of that request, and whether it is ready and its reply lost. -/
def comes (s : State) (r : FarReq) : MultiOut × Bool × Bool :=
  ((s.performAll T r r.kind.size r.op {} 0 r.dests).1, s.farReady T r false, s.replyLost T r)

theorem test_witness_FarCompletions_at_home :
    (let r := fetching (.load 4) [bk + 5 * 2 ^ 26]
      let s : State := { only { prog 0 with far := [r] } with rel := { edges := BitVec.ofNat 24 (2 ^ edgeRight 4) }, clk := 1000 };
      comes s r = (.ok (clean [0, 0, 0, 0]), true, true)) ∧
    (let r := fetching (.load 4) [bk]; comes (only { prog 0 with far := [r] }) r = (.ok (clean [0, 0, 0, 0]), true, false)) ∧
    (let r := fetching (.ringrd 0 0) [bk + 4, bk]; comes (only { prog 0 with far := [r] }) r = (.ok (clean [0, 0, 0, 0, 0, 0, 0, 0]), true, false)) ∧
    (let r := fetching (.load 4) [bankBase - 4]; comes (only { prog 0 with far := [r] }) r = (.denied 0 stNoTarget, true, false)) ∧
    (let r := fetching .multi [bk, bankBase - 64]; comes (only { prog 0 with far := [r] }) r = (.denied 1 stNoTarget, true, false)) ∧
    (let r := fetching (.load 4) [lsWinBase + T * 2 ^ 17 + 0x2000];
      comes (only { prog 0 with far := [r], rmws := [{ cyc := 99, op := 0x16, addr := 0x2000, d := 0, n := 1, seq := 0 }] }) r = (.later, true, false)) ∧
    (let r := fetching .multi [bk, lsWinBase + T * 2 ^ 17 + 0x2000];
      comes (only { prog 0 with far := [r], rmws := [{ cyc := 99, op := 0x16, addr := 0x2000, d := 0, n := 1, seq := 0 }] }) r = (.later, true, false)) := by
  decide +kernel

/-- A command of four words from bank memory to tile-local storage or to bank memory, element 0 in a state. -/
def laying (dst : Option FarDest) (st : ElemState) (src : Nat := bk) : LayoutCmd :=
  { tile := T, launch := some 1, admitted := 68, dmw := 2 ^ 4, shape := (shapeOf4.flatMap fun w => toBytes 4 w), src := { addr := BitVec.ofNat 52 src }
    dst, blk := 64, p := 1, x0 := 0, y0 := 0, wd := 1, base := 0x2000, cc := 15, cls := 0, issuer := 0, elems := [(0, st)], after := [] }
where
  shapeOf4 : List Nat := [4, 0, 0, 0, 0, 0, 0, 0, 4, 0, 0, 0, 0, 0, 0, 0, 4, 0, 0, 0, 0, 0, 0, 0, 4] ++ List.replicate 15 0

theorem test_witness_CopyLandings_on_an_edge_that_is_down :
    (let c : CopyReq := { id := 0, kind := .halo 1, start := 10, src := 0, len := 4, dstTile := tileAt 130 16, dst := 0, travel := 7, read := 4, groups := [(0, clean [1, 2, 3, 4], 60)] }; let s : State := { only { prog 0 with copies := [c] } with rel := { edges := BitVec.ofNat 24 (2 ^ edgeRight 0) } }; s.copyDue T c = true ∧ c.arrived 100 = some (0, clean [1, 2, 3, 4]) ∧ s.pathDown (tileDie T) (tileDie c.dstTile) = true) := by
  decide +kernel

theorem test_witness_Granules_at_home :
    (let d : Dma := { id := 9, toGlobal := true, dest := { addr := BitVec.ofNat 52 bk }, len := 64, blk := 64, p := 1, x0 := 0, y0 := 0, wd := 1, base := 0, cc := 15, cls := 0, issuer := 0, firstAt := 5, grans := [] }; let s := only { prog 0 with dmas := [d] }; let ps := d.places T (some aLaunch) 0; d.state 0 = .waiting ∧ 0 < granCount d.dest.addr.toNat d.len ∧ s.me.awaits 100 d.after = false ∧ d.firstAt + (s.farTimes T d.dest false).1 ≤ 100 ∧ s.placesFree ps = true ∧ (s.performAt T (s.granAccess T d 0 (.write (ps.flatMap fun q => (s.tile q.1).taggedAt 100 q.2.1 4)) {})).1 = .done stOK []) ∧
    (let d : Dma := { id := 9, toGlobal := false, dest := { addr := BitVec.ofNat 52 bk, owner := 4 }, len := 64, blk := 64, p := 1, x0 := 0, y0 := 0, wd := 1, base := 0, cc := 15, cls := 0, issuer := 4, firstAt := 5, grans := [] }; let s := only { prog 0 with dmas := [d] }; (s.performAt T (s.granAccess T d 0 .read {})).1 = .done stDenied []) ∧
    region redBase = .reduce ∧
    (let d : Dma := { id := 9, toGlobal := false, dest := { addr := 0 }, len := 64, blk := 64, p := 1, x0 := 0, y0 := 0, wd := 1, base := 0, cc := 15, cls := 0, issuer := 3, firstAt := 5, grans := [(0, .performed stDenied [] 100)] }; d.state 0 = .performed stDenied [] 100 ∧ stDenied ≠ stOK) ∧
    (let d : Dma := { id := 9, toGlobal := false, dest := { addr := 0 }, len := 64, blk := 64, p := 1, x0 := 0, y0 := 0, wd := 1, base := 0, cc := 15, cls := 0, issuer := 3, firstAt := 5, grans := [(0, .performed stOK (clean (List.replicate 64 7)) 100)] }; d.state 0 = .performed stOK (clean (List.replicate 64 7)) 100 ∧ d.verdict = none ∧ (only { prog 0 with dmas := [d] }).placesFree (d.places T (some aLaunch) 0) = true) := by
  decide +kernel

theorem test_witness_LayoutSteps :
    (let c := laying none .waiting; let s := only (prog 0); c.shp.count = 4 ∧ (c.elem 0).unwritten = true ∧ s.me.awaits 100 c.after = false ∧ (s.elemTake c 0 { readOnly := true }).1 = some (.ok (clean [0, 0, 0, 0])) ∧ (s.elemTake c 0 {}).1 = some (.ok (clean [0, 0, 0, 0])) ∧ (s.elemWrite c 0 (clean [0, 0, 0, 0]) {}).1 = some stOK) ∧
    (let c := laying (some { addr := BitVec.ofNat 52 (bankBase - 64) }) (.read (clean [0, 0, 0, 0])); let s := only (prog 0); (s.elemWrite c 0 (clean [0, 0, 0, 0]) {}).1 = some stNoTarget ∧ s.endFree (c.fail 0 stNoTarget true) = true) ∧
    (let c := laying none .waiting (bankBase - 64); let s := only (prog 0); (s.elemTake c 0 {}).1 = some (.error stNoTarget) ∧ s.endFree (c.fail 0 stNoTarget false) = true) ∧
    (let c := laying none (.read (clean [7, 0, 0, 0])); let s := only (prog 0); let p := dealPlace T (some aLaunch) 64 1 0 0 1 0x2000 (c.shp.dofs 0).toNat; c.elem 0 = .read (clean [7, 0, 0, 0]) ∧ c.fault = none ∧ s.isDual T = false ∧ s.pathDown (tileDie T) (tileDie p.1) = false ∧ (s.tile p.1).rmwHolds 100 p.2 c.shp.z = false ∧ (s.tile p.1).storeHeld p.2 c.shp.z = false) ∧
    (let c := laying none .waiting; let k := engKey 0 0; let s : State := { only { prog 0 with egressNo := 1 } with engines := [(k, { dualQ := [c] })] }; s.comparedCmd T k = some c ∧ (s.engine k).ready 100 = true ∧ s.waiters k = [T] ∧ s.waiterReady k T = true) := by
  decide +kernel

theorem test_witness_KeyJobs_verify :
    (let s := only { prog 0 with kyJobs := [(0, .fverify 0x2000 0x3000 9 { addr := BitVec.ofNat 52 bk } 4 0 0x4000 false 15)] }; s.landFree T 0x4000 4 = true ∧ (s.engineRead T 0 0 { addr := BitVec.ofNat 52 bk } bk 4 2).1 = some (stOK, [0, 0, 0, 0]) ∧ (s.engineRead T 0 0 { addr := BitVec.ofNat 52 (bankBase - 64) } (bankBase - 64) 4 2).1 = some (stNoTarget, [])) := by
  decide +kernel

theorem test_witness_Spawns_of_two_modes :
    (let q : SpawnReq := { target := 9000, entry := 0, args := [], wid := 0, arriveAt := 100, startAt := 0, answerAt := 110 }; let s := only { prog 0 with spawns := [{ q with answer := some true }, { q with sup := true }] }; s.me.spawns.find? (fun r => s.spawnArrived T r) = some { q with sup := true } ∧ s.isTwin T = false) := by
  decide +kernel

/-- That packet of owner 77, whose page 7 is in a state of Table 17-5. -/
def paged (state kind : Nat) (pay : List Nat) (r : Ring := ring0) : State :=
  let s := pkt kind pay { r with owner := 77 }
  { s with bankOwner := [(5, 77)], xl := { (tree0 state).xl with lock := true }, hbm := (tree0 state).hbm }

/-- The packet that the firmware takes from ring 7, and the state after it. -/
def took (s : State) (kind : Nat) : List Nat × State := (s.takePacket 7 kind).getD ([], {})

/-- It takes one, and it can write its record. -/
def takes (s : State) (kind : Nat) : Bool :=
  let r := s.ring 7; let w := took s kind
  (s.takePacket 7 kind).isSome && (w.2.writeRecord 7 r.owner r.exp (pktCaddr w.1) kind (BitVec.ofNat 32 (pw w.1 4)) { status := stOK }).1

theorem test_witness_RingSteps_runs :
    (let s := pkt 7 [] { ring0 with presented := false }; s.feCtrl.getLsbD 0 = true ∧ (s.ring 7).en = true ∧ (s.ring 7).presented = false ∧ (s.ring 7).blocked = none ∧ s.serves = true) ∧
    (let s := { pkt 7 [] with feCtrl := 2 }; s.serves = true ∧ s.feCtrl.getLsbD 0 = false) ∧
    (let s := pkt 7 [] { ring0 with headOwed := true }; (s.ring 7).headOwed = true ∧ (s.ring 7).presented = true) ∧
    (let s : State := { pkt 7 [] with fw := { phase := .switched } }; s.serves = false ∧ s.fw.phase = .switched) ∧
    (let s : State := { pkt 7 [] with fw := { hang := true } }; s.serves = false ∧ s.fw.phase ≠ .switched) ∧
    (let s := { pkt 7 [] with queues := [] }; s.serveQueue = 9 ∧ s.queue 9 = []) := by
  decide +kernel

theorem test_witness_PacketEffects_of_writes :
    (let s := pkt 2 (at2 0x4000 ++ [4, 0, 0x55]); takes s 2 = true ∧ headerBad (took s 2).1 = false ∧ ((took s 2).2.writePart 7 (took s 2).1 12 (writeMax 1)).1 = some stOK) ∧
    (let s := pkt (2 + 2 ^ 31) []; takes s 2 = true ∧ headerBad (took s 2).1 = true) ∧
    (let s := paged 1 2 [7 * 65536, 0, 4, 0, 0x55]; takes s 2 = true ∧ headerBad (took s 2).1 = false ∧ ((took s 2).2.writePart 7 (took s 2).1 12 (writeMax 1)).1 = none) ∧
    (let s := pkt 3 (at2 0x4000 ++ [4, 0, 3]); takes s 3 = true ∧ headerBad (took s 3).1 = false ∧ signalOk (bk + 0x4000) 3 = true ∧ ((took s 3).2.signalPart 7 (bk + 0x4000) 4 3).1 = some stOK) ∧
    (let s := pkt 3 (at2 0x4000 ++ [4, 0, 4]); takes s 3 = true ∧ signalOk (bk + 0x4000) 4 = false) ∧
    (let s := paged 1 3 [7 * 65536, 0, 4, 0, 0]; takes s 3 = true ∧ headerBad (took s 3).1 = false ∧ signalOk (7 * 65536) 0 = true ∧ ((took s 3).2.signalPart 7 (7 * 65536) 4 0).1 = none) ∧
    (let s := pkt 4 (at2 0x4000 ++ [4, 0] ++ at2 0x4100 ++ [1, 0, 0, 0, 0, 0, 0x55]); takes s 4 = true ∧ headerBad (took s 4).1 = false ∧ ((took s 4).2.writePart 7 (took s 4).1 20 (writeMax 1 - 32)).1 = some stOK ∧ (((took s 4).2.writePart 7 (took s 4).1 20 (writeMax 1 - 32)).2.signalPart 7 (bk + 0x4100) 1 0).1 = some stOK) ∧
    (let s := pkt 4 (at2 0x4000 ++ [3, 0] ++ at2 0x4100 ++ [1, 0, 0, 0, 0, 0, 0x55]); ((took s 4).2.writePart 7 (took s 4).1 20 (writeMax 1 - 32)).1 = some stPacketInvalid) ∧
    (let s := pkt 4 (at2 0x4000 ++ [4, 0] ++ at2 0x4100 ++ [1, 0, 0, 1, 0, 0, 0x55]); takes s 4 = true ∧ pw (took s 4).1 17 ≠ 0) ∧
    (let s := paged 1 4 ([7 * 65536, 0, 4, 0] ++ at2 0x4100 ++ [1, 0, 0, 0, 0, 0, 0x55]); takes s 4 = true ∧ headerBad (took s 4).1 = false ∧ ((took s 4).2.writePart 7 (took s 4).1 20 (writeMax 1 - 32)).1 = none) ∧
    (let s := paged 1 4 (at2 0x4000 ++ [4, 0] ++ [7 * 65536, 0] ++ [1, 0, 0, 0, 0, 0, 0x55]); takes s 4 = true ∧ ((took s 4).2.writePart 7 (took s 4).1 20 (writeMax 1 - 32)).1 = some stOK ∧ (((took s 4).2.writePart 7 (took s 4).1 20 (writeMax 1 - 32)).2.signalPart 7 (7 * 65536) 1 0).1 = none) := by
  decide +kernel

theorem test_witness_PacketEffects_of_waits :
    (let s := pkt 5 (at2 0x4000 ++ [0, 0, 0, 0]); let w := took s 5; let b := w.2.setRing 7 { w.2.ring 7 with blocked := some (.wait s.clk none) }; takes s 5 = true ∧ headerBad w.1 = false ∧ w.2.serves = true ∧ b.packetWords 7 = some w.1 ∧ w.2.clk = s.clk ∧ (b.crownRead 3 (bk + 0x4000) 4).1 = some (stOK, [0, 0, 0, 0]) ∧ condMet w.1 [0, 0, 0, 0] = true) ∧
    (let s := pkt 5 (at2 0x4000 ++ [1, 0, 0, 0]); condMet (took s 5).1 [0, 0, 0, 0] = false) ∧
    (let s := pkt 5 (at2 0x14000 ++ [0, 0, 0, 0]); let w := took s 5; let b := w.2.setRing 7 { w.2.ring 7 with blocked := some (.wait s.clk none) }; takes s 5 = true ∧ (b.crownRead 3 (bk + 0x14000) 4).1 = some (stDenied, [])) ∧
    (let s := pkt 5 (at2 0x4000 ++ [0, 0, 7, 0]); takes s 5 = true ∧ pw (took s 5).1 12 % 8 = 7) ∧
    (let s := paged 1 5 [7 * 65536, 0, 0, 0, 0, 0]; let w := took s 5; let b := w.2.setRing 7 { w.2.ring 7 with blocked := some (.wait s.clk none) }; takes s 5 = true ∧ b.packetWords 7 = some w.1 ∧ (b.crownRead 77 (7 * 65536) 4).1 = none) ∧
    (let s := pkt 5 (at2 0x4000 ++ [0, 0, 0, 1]) { ring0 with blocked := some (.wait 9000 none) }; s.packetWords 7 = some (words s) ∧ s.serves = true ∧ s.clk < 9000 + pw (words s) 13 * 3300 ∧ (s.crownRead 3 (bk + 0x4000) 4).1 = some (stOK, [0, 0, 0, 0]) ∧ condMet (words s) [0, 0, 0, 0] = true) ∧
    (let s := pkt 5 (at2 0x4000 ++ [0, 0, 0, 1]) { ring0 with blocked := some (.wait 6700 none) }; pw (words s) 13 ≠ 0 ∧ 6700 + pw (words s) 13 * 3300 ≤ s.clk) ∧
    (let s := pkt 5 (at2 0x14000 ++ [0, 0, 0, 0]) { ring0 with blocked := some (.wait 9000 none) }; (s.crownRead 3 (bk + 0x14000) 4).1 = some (stDenied, [])) ∧
    (let s := paged 1 5 [7 * 65536, 0, 0, 0, 0, 0] { ring0 with blocked := some (.wait 9000 none) }; s.packetWords 7 = some (words s) ∧ (s.crownRead 77 (7 * 65536) 4).1 = none) ∧
    (let s := pkt 5 (at2 0x4000 ++ [0, 0, 0, 0]) { ring0 with blocked := some (.wait 9000 (some stDenied)) }; s.packetWords 7 = some (words s) ∧ (s.ring 7).blocked = some (.wait 9000 (some stDenied))) := by
  decide +kernel

theorem test_witness_PacketEffects_of_fences_and_code :
    (let s := pkt 7 []; let w := took s 7; let b := w.2.setRing 7 { w.2.ring 7 with blocked := some (.fence false) }; takes s 7 = true ∧ headerBad w.1 = false ∧ w.2.serves = true ∧ b.packetWords 7 = some w.1 ∧ b.launches = []) ∧
    (let s : State := { pkt 7 [] { ring0 with blocked := some (.fence true) } with launches := [(1, { small .running with ring := 7 })] }; s.packetWords 7 = some (words s) ∧ s.serves = true ∧ (small .running).state ≠ .ended ∧ (small .running).table = false) ∧
    (let s := pkt 6 (at2 0x6000 ++ [100, 0x10005, 0]); let w := took s 6; takes s 6 = true ∧ headerBad w.1 = false ∧ pw w.1 11 % 2 ^ 16 = 5 ∧ (w.2.crownRead 3 (bk + 0x6000) 100).1 = some (stOK, List.replicate 100 0) ∧ loadObject (List.replicate 100 0) 0 = .imageInvalid) ∧
    (let s := pkt 6 (at2 0x16000 ++ [100, 5, 0]); takes s 6 = true ∧ ((took s 6).2.crownRead 3 (bk + 0x16000) 100).1 = some (stDenied, [])) ∧
    (let s := paged 1 6 [7 * 65536, 0, 100, 5, 0]; takes s 6 = true ∧ ((took s 6).2.crownRead 77 (7 * 65536) 100).1 = none) ∧
    (let s := pkt 6 (at2 0x6000 ++ [0, 5, 0]); takes s 6 = true ∧ pw (took s 6).1 10 = 0 ∧ (took s 6).2.launches = []) ∧
    (let s : State := { pkt 6 (at2 0x6000 ++ [0, 1, 0]) with launches := [(1, { small .running with ring := 7 })] }; takes s 6 = true ∧ pw (took s 6).1 11 = 1 ∧ (small .running).owner = 3 ∧ (small .running).code.handle = 1) ∧
    (let s := pkt 6 (at2 0x6000 ++ [0, 1024, 0]); takes s 6 = true ∧ 1024 ≤ pw (took s 6).1 11 % 2 ^ 16) := by
  decide +kernel

theorem test_witness_PacketEffects_of_launches :
    (let s := pkt (1 + 256) ([5] ++ List.replicate 23 0 ++ [18] ++ List.replicate 31 0); let w := took s 1; takes s 1 = true ∧ headerBad w.1 = false ∧ w.2.pending = 0 ∧ (w.2.accept 7 w.1 (pd2 w.1 12)).1 = true) ∧
    (let s := pkt 1 []; takes s 1 = true ∧ headerBad (took s 1).1 = true) ∧
    (let s := pkt 8 (at2 0x1000 ++ [1]); let w := took s 8; takes s 8 = true ∧ headerBad w.1 = false ∧ pd2 w.1 8 % 16 = 0 ∧ (w.2.acceptTable 7 (bk + 0x1000) 1).1.isSome = true) ∧
    (let s := paged 1 8 [7 * 65536, 0, 1]; takes s 8 = true ∧ ((took s 8).2.acceptTable 7 (7 * 65536) 1).1 = none) ∧
    (let s := pkt 8 (at2 0x1000 ++ [257]); takes s 8 = true ∧ 256 < pw (took s 8).1 10) := by
  decide +kernel

/-- A dependence on the record at `bk`. -/
def dep (h : Word) (strict : Bool := false) (satisfied : Bool := false) : Dep := { addr := BitVec.ofNat 52 bk, strict, handle := h, satisfied }

/-- A module with a launch whose dependence's record begins with a word. -/
def recorded1 (l : Launch) (w : Nat) : State := { holding l with bankOwner := [(5, 3)], bank := Memory.write [] 0x50000 (toBytes 4 w) }

/-- A queued launch of priority 7 and a victim of four tiles, for both of which the power is not enough. -/
def crowded (l : Launch) : State :=
  { holding l with
    launches := [(1, l), (2, { small .running with id := 2, ox := 30, oy := 30 })], tiles := [], schReserve := 0, schSlice := 1
    bu := { ready := 0xFFFFFFFF, dial := 1000, base := 0, tile := 1000, budget := 7 } }

theorem test_witness_StartChecks_of_records :
    (let l : Launch := { small .queued with deps := [dep 7], tstart := 1000 }; let s := recorded1 l 0; s.launch? 1 = some l ∧ s.rel.wishes = [] ∧ s.fenceReason 1 = none ∧ (s.crownWordDo 3 bk).1 = some 0 ∧ ((s.crownWordDo 3 bk).2.crownWordDo 3 (bk + 4)).1 = some 0 ∧ (dep 7).handle ≠ 0 ∧ (dep 0).handle = 0) ∧
    (let l : Launch := { small .queued with deps := [dep 0], tstart := 1000 }; let s := recorded1 l 0x12; (s.crownWordDo 3 bk).1 = some 0x12 ∧ (0x12 : Word).toNat % 2 ^ 8 ≠ 0) ∧
    (let l : Launch := { small .queued with deps := [dep 7 true], tstart := 1000 }; let s := recorded1 l 0; let s1 := s.dependenceCheck 1; l.checked = false ∧ s1.ending 1 = false ∧ (s1.launch? 1).map (fun x => x.deps) = some [dep 7 true] ∧ l.tstart.toNat ≤ s.dialNow.toNat) ∧
    (let l : Launch := { small .placed with deps := [dep 0], tstart := 900, late := 99 }; let s := recorded1 l 0; let s1 := s.dependenceCheck 1; (s1.launch? 1).map (fun x => (x.depsOk, x.releaseAt, x.state)) = some (true, none, .placed) ∧ 900 + 99 < s.dialNow.toNat) ∧
    (let l : Launch := { small .placed with deps := [dep 0 false true], tstart := 900, late := 100, checked := true }; let s := recorded1 l 0; s.ending 1 = false ∧ l.depsOk = true ∧ s.dialNow.toNat ≤ 900 + 100) ∧
    (let l : Launch := { small .placed with deps := [dep 0 false true], tstart := 900, checked := true, releaseAt := some 10001 }; l.releaseAt ≠ none ∧ l.late = 0) := by
  decide +kernel

theorem test_witness_Placement_of_two_rectangles :
    (let l : Launch := { small .queued with dmask := 0xFFFF, dual := true }; let s : State := { holding l with tiles := [] }; s.turnOf l = true ∧ s.fits l .all ≠ none ∧ (s.fits l (.these [])).isSome = true) := by
  decide +kernel

theorem test_witness_Preemption_of_a_victim :
    (let l : Launch := { small .queued with prio := 7, waitSince := 0 }; let s := crowded l; let cands := s.candidates fun v => decide (s.effPrio v < s.effPrio l); s.placing = true ∧ l.waits = true ∧ s.mayPlace l = true ∧ s.fits l (.these []) = none ∧ (s.ticksAt7 l).any (fun t => decide (s.schReserve.toNat * 1000 < t)) = true ∧ s.reservedOne = none ∧ l.heldTiles = [] ∧ s.victims l cands [] = some [2]) ∧
    (let l : Launch := { small .queued with prio := 7, waitSince := 0 }; let s := crowded l; let s1 := s.setLaunch 1 { l with reserved := true }; s1.reservedOne = some { l with reserved := true } ∧ s1.victims { l with reserved := true } (s1.candidates fun v => decide (s1.effPrio v < s1.effPrio l)) [] = some [2]) ∧
    (let l : Launch := { small .queued with prio := 0, waitSince := 10000 }; let s := crowded l; s.placing = true ∧ l.waits = true ∧ s.mayPlace l = true ∧ s.fits l (.these []) = none ∧ s.schSlice ≠ 0 ∧ s.reservedOne = none ∧ s.launches.all (fun m => !s.before m.2 l || !m.2.waits) = true ∧ s.victims l (expired s l) [] = some [2] ∧ s.fits l (.these [2]) ≠ none ∧ s.areaHolds 3 [2] = true) ∧
    (let l : Launch := { small .queued with prio := 0, waitSince := 10000 }; let s : State := { crowded l with schSlice := 4 }; s.victims l (expired s l) [] = none ∧ s.clk < 0 + s.schSlice.toNat * 3300) ∧
    (let l : Launch := { small .queued with prio := 0, waitSince := 10000 }; let s : State := { crowded l with ctxAreas := [(3, 3)] }; s.areaHolds 3 [2] = false ∧ s.victims l (expired s l) [] = none) := by
  decide +kernel

theorem test_witness_SwapsAndEnds_of_pairs :
    (let l := small .swapping; let s := holding l .halted; l.allTiles.all (fun k => (s.tile k).settled) = true ∧ (s.modTiles l.allTiles fun t => t.macroStop s.clk).pairSplit l = none) ∧
    (let l : Launch := { small .swapping with w := 1, h := 1, dual := true, tox := 30, toy := 30 }; let s : State := { clk := 10000, launches := [(1, l)], tiles := [(tileAt 20 20, { prog 1 with run := .halted }), (tileAt 30 30, { prog 2 with run := .halted })] }; l.allTiles.all (fun k => (s.tile k).stopped && (s.tile k).quiet && (s.tile k).settled && (s.tile k).bal.paused) = true ∧ (s.modTiles l.allTiles fun t => t.macroStop s.clk).pairSplit l = some 0) ∧
    (let l : Launch := { small .running with w := 1, h := 1, dual := true, tox := 30, toy := 30 }; let s : State := { clk := 10000, launches := [(1, l)], tiles := [(tileAt 20 20, { prog 1 with run := .halted, cir := 1 }), (tileAt 30 30, { prog 1 with run := .halted })] }; l.allTiles.all (fun k => (s.tile k).ended) = true ∧ l.allTiles.Nodup ∧ (s.tile (l.tileOf 0)).cir ≠ (s.tile (l.twinOf 0)).cir) ∧
    (let l : Launch := { small .restoring with w := 1, h := 1, ctxs := [newCtx 0 5 0] }; let s : State := { clk := 10000, launches := [(1, l)], tiles := [(tileAt 20 20, { launch := some 1 })] }; s.launch? 1 = some l ∧ l.ctxs.all SavedCtx.ok = true ∧ s.holders 1 = []) ∧
    (let l : Launch := { small .restoring with w := 1, h := 1, ctxs := [newCtx 0 5 0] }; let s : State := { clk := 10000, launches := [(1, l)], tiles := [(tileAt 20 20, { launch := some 1 }), (tileAt 40 40, { mxOwner := some (1, 0), mxown := 0x10005, launch := some 2 })] }; s.holders 1 ≠ []) := by
  decide +kernel

/-- A module with one UALink port up and a key of owner 77, whose paged space is `tree0`'s. -/
def linked (state : Nat := 0) (f : Bridge → Bridge := id) : State :=
  let s := tree0 state
  { s with xl := { s.xl with lock := true }
           br := f { id := 5, lock := true, keys := [{ owner := 77, key := 9, phase := false }]
                     ports := vset (vset (Vector.replicate 24 {}) 23 { en := true, state := 2 }) 22 { en := true, state := 2 } } }

/-- A read of page 7 by owner 77 of a device. -/
def ask (dev : BitVec 10) (size : Nat) (outPort : Nat := 0) : UalReq :=
  { dev, src := 1, seq := 0, issuer := 77, target := 77, phase := false, tag := 0, header := [], addr := 7 * 65536, kind := 0, size
    payload := [], outPort, ext := {} }

/-- A request of owner 77 for a device, signed with that key. -/
def signed (r : UalReq) : UalReq :=
  { r with issuer := 77, target := 77, phase := false,
           tag := kmac 9 (r.header ++ toBytes 2 (77 : BitVec 16).toNat ++ toBytes 2 (77 : BitVec 16).toNat ++ r.payload) }

theorem tagOk_signed (state : Nat) (r : UalReq) : tagOk (linked state) (signed r) := by
  refine ⟨{ owner := 77, key := 9, phase := false }, ?_, 9, ?_, rfl⟩
  · simp [linked, signed, Bridge.key]
  · simp [signed, FabricKey.forPhase]

theorem test_witness_LinksAndKeys_of_requests :
    (let r := ask 5 64; region r.addr.toNat = .paged ∧ ualOk r = true ∧ (linked 0).br.ualHeld = [] ∧ ((linked 0).accessSpan (ualAccess r) 5).1 = .ok (clean (List.replicate 64 0)) ∧ ((linked 1).accessSpan (ualAccess r) 5).1 = .error none ∧ ((linked 0).accessSpan (ualAccess { r with target := 78 }) 5).1 = .error (some stUnmapped)) ∧
    (let r := ask 5 3; ualOk r = false) ∧
    (let r := ask 6 64 22; let s := linked 0 (fun b => { b with fwd := true, routes := [(6, 0x400000)] }); r.dev ≠ s.br.id ∧ s.br.fwd = true ∧ r.outPort ≠ 23 ∧ (tabGet 0 s.br.routes r.dev.toNat).getLsbD r.outPort = true ∧ (portOf s r.outPort).state = 2 ∧ (portOf s 23).state = 2 ∧ s.br.lock = true) ∧
    ({ bu := { ready := 0x1000000 } } : State).bu.ready.getLsbD 24 = true := by
  decide +kernel

/-- A module with an HDM decoder over that page. -/
def hosted (state : Nat := 0) : State := linked state fun b => { b with hdm := vset b.hdm 0 { en := true, size := 1, owner := 77 } }

theorem test_witness_HostMemory_of_accesses :
    (let h : Hdm := vget {} (hosted 0).br.hdm 0; h.en = true ∧ h.hbase.toNat ≤ 7 * 65536 ∧ 7 * 65536 < h.hbase.toNat + hdmBytes h ∧ (hosted 0).br.hostHeld = []) ∧
    (let a : Access := { addr := 7 * 65536, n := 64, op := .read, issuer := 77, target := 77, crown := true, agent := .host, src := 0, req := 7 * 1024 }; ((hosted 0).access a).1 = .done stOK (clean (List.replicate 64 0)) ∧ answers ((hosted 1).access a).1 = false ∧ ((hosted 0).access { a with addr := 8 * 65536 }).1 = .done stUnmapped []) ∧
    (let a : Access := { addr := 7 * 65536, n := 64, op := .write (clean (List.replicate 64 9)), issuer := 77, target := 77, crown := true, agent := .host, src := 0, req := 7 * 1024 }; ((hosted 0).access a).1 = .done stOK [] ∧ answers ((hosted 1).access a).1 = false) := by
  decide +kernel

/-- An accepted submission of rank 0 at bank memory. -/
def sub0 (src : Nat) (kind : Nat) : Submission :=
  { group := 0, rank := 0, seqNo := 0, tile := T, kind, rop := 0, len := 64, src := { addr := BitVec.ofNat 52 src }
    dst := { addr := BitVec.ofNat 52 (bk + 0x1000) }, cc := 15, issuer := 0, arriveAt := 90, accepted := true }

/-- Two ranks of group 0 have submitted; this device, by its number, is the home or not. -/
def coll2 (id : BitVec 10 := 5) (src : Nat := bk) (len1 : Nat := 64) (kind : Nat := 0) : State :=
  let s := coll1 90
  { s with br := { s.br with id, subs := [sub0 src kind, { sub0 src kind with rank := 1, len := len1 }] } }

theorem test_witness_Collectives_begin :
    (let s := coll2; s.br.cen = true ∧ (grp s 0).en = true ∧ s.br.colls = [] ∧ s.groupHome (grp s 0) = s.br.id.toNat ∧ (ready s 0).length = (here s 0).length ∧ (ready s 0).all (fun b => decide (b.len = 64)) = true ∧ (s.readSources (ready s 0)).1 = .ok [clean (List.replicate 64 0), clean (List.replicate 64 0)]) ∧
    (let s := coll2 5 (bankBase - 64); (s.readSources (ready s 0)).1 = .error (some stNoTarget)) ∧
    (let s := coll2 5 bk 128; s.groupHome (grp s 0) = s.br.id.toNat ∧ (ready s 0).map (fun b => b.len) = [64, 128]) ∧
    (let s := coll2 5 bk 64 1; (ready s 0).all (fun b => decide (b.kind = 1)) = true ∧ 64 % (64 * (grp s 0).ranks) ≠ 0) ∧
    (let s := coll2 6; s.groupHome (grp s 0) ≠ s.br.id.toNat ∧ here s 0 = [] ∧ s.groupHome (grp s 0) = 5) ∧
    (let s := coll1 100; let b : Submission := { group := 0, rank := 0, seqNo := 0, tile := T, kind := 0, rop := 0, len := 64, src := { addr := 0 }, dst := { addr := 0 }, cc := 15, issuer := 3, arriveAt := 100 }; s.br.subs = [b] ∧ (grp s 0).en = true ∧ aLaunch.owner = (grp s 0).owner ∧ s.member (grp s 0) 0 = (s.br.id.toNat, aLaunch.handle, (s.tile T).tlin)) := by
  decide +kernel

theorem test_witness_Collectives_land :
    (let s0 := coll2; let c : Collective := { group := 0, seqNo := 0, kind := 0, result := clean (List.replicate 64 3), landed := [] }; let s : State := { s0 with br := { s0.br with colls := [c] } }; let b := (s.br.subs.getD 1 (sub0 bk 0)); b.rank = 1 ∧ (s.br.colls.find? fun c => decide (c.group = 0)) = some c ∧ 0 < (collSlice 0 b.len (grp s 0).ranks 1).2 ∧ s.chunkBytes c b (grp s 0) 0 {} = some (clean (List.replicate 64 3)) ∧ b.dev = none ∧ (s.accessSpan (b.access b.dst b.dissuer 0 64 (.write (clean (List.replicate 64 3))) {}) 2).1 = .ok [] ∧ (s.accessSpan (b.access { addr := BitVec.ofNat 52 (bankBase - 64) } b.dissuer 0 64 (.write (clean (List.replicate 64 3))) {}) 2).1 = .error (some stNoTarget)) ∧
    (let s0 := coll2; let c : Collective := { group := 0, seqNo := 0, kind := 0, result := clean (List.replicate 64 3), landed := [(1, 0)] }; (1, 0) ∈ c.landed ∧ s0.br.cen = true) ∧
    (let s := coll2 6; s.chunkBytes ⟨0, 0, 0, [], [], []⟩ ((s.br.subs.getD 1 (sub0 bk 0))) (grp s 0) 0 { data := [7] } = some (clean (7 :: List.replicate 63 0))) := by
  decide +kernel

/-- The launch of 2 × 2 tiles, fence unit 15 at a stage of a fence over it. -/
def fencing (stage : Nat) (tests : List Nat := []) (testing : List Nat := []) : State :=
  let f : Fence := { busy := true, stage, launches := [1], tests, reason := 0x11, info := { status := 0x11 }
                     rect := BitVec.ofNat 64 (20 + 20 * 2 ^ 16 + 2 * 2 ^ 32 + 2 * 2 ^ 48) }
  { holding (small .running) with rel := { testing, fences := vset (Vector.replicate 16 {}) 15 f } }

theorem test_witness_Fences_stages :
    (let s := fencing 2; (fenceOf s 15).busy = true ∧ (fenceOf s 15).stage = 2 ∧ (fenceOf s 15).tests = [] ∧ (small .running).tiles.all (fun k => decide ((s.tile k).far = [])) = true ∧ s.br.subs = [] ∧ (List.range 16).all (fun g => decide ((fenceOf s g).stage ≠ 1)) = true) ∧
    (let s := fencing 2 [tileAt 20 20]; (fenceOf s 15).tests ≠ []) ∧
    (let s := fencing 3 [tileAt 20 20]; (fenceOf s 15).stage = 3 ∧ (fenceOf s 15).tests.all (fun k => !s.rel.testing.contains k) = true) ∧
    (let s := fencing 3 [tileAt 20 20] [tileAt 20 20]; (fenceOf s 15).stage = 3 ∧ (fenceOf s 15).tests.all (fun k => !s.rel.testing.contains k) = false) ∧
    (let s0 := fencing 2; let s := s0.setTile (tileAt 20 20) { s0.tile (tileAt 20 20) with far := [{ id := 4, kind := .load 4, dests := [], issuedAt := 2 }] }; (s.tile (tileAt 20 20)).far.map (fun r => r.phase) = [.sent]) ∧
    (let s := fencing 2; (fenceOf s 0).busy = false ∧ boxesMeet (boxOf (fenceOf s 15).rect) (20, 20, 1, 1) = true) ∧
    (let s := holding (small .running); s.launches.any (fun m => m.2.holds && m.2.allTiles.any (fun k => (rectTiles 20 20 1 1).contains k) && m.2.allTiles.any fun k => !(rectTiles 20 20 1 1).contains k) = true) := by
  decide +kernel

theorem test_witness_ErrorReports_of_tests :
    (let s : State := { rel := { testing := [25], diverged := [(25, 26)] } }; 25 ∈ s.rel.testing ∧ s.rel.evEn = false ∧ s.rel.diverged.find? (fun p => decide (p.1 = 25) || decide (p.2 = 25)) = some (25, 26) ∧ ((({ s with rel := { s.rel with testing := [] } } : State).raiseEvent 17 9 25 noId 1).rel.testing) = []) ∧
    (let s : State := { rel := { evEn := true, unread := true, evCons := BitVec.ofNat 64 (bk + 0x1000) } }; (s.crownWordDo 0 (bk + 0x1000)).1 = some s.rel.evSeq) ∧
    (let s : State := { rel := { evEn := true, unread := true, evSeq := 3, evCons := BitVec.ofNat 64 (bk + 0x1000) }, clk := 5 }; (s.crownWordDo 0 (bk + 0x1000)).1 ≠ some s.rel.evSeq ∧ (s.crownWordDo 0 (bk + 0x1000)).2.rel.msix0At ≤ 5) ∧
    (let s : State := { bankPoison := [4] }; s.tagAt (scrubMem 0x80000) 16 = true ∧ s.tagAt (scrubMem 0x80000) 20 = false) := by
  decide +kernel

/-- A DUAL launch of one tile and its twin, with the oldest messages of both. -/
def paired (a b : List Egress) (clk : Nat := 1000000) : State :=
  { clk, launches := [(1, { small .running with w := 1, h := 1, dual := true, tox := 30, toy := 30 })]
    tiles := [(tileAt 20 20, { prog 0 with egress := a }), (tileAt 30 30, { prog 0 with egress := b })] }

theorem test_witness_TwinMessages_of_a_pair :
    (let e : Egress := { k := 0, kind := 1, words := [1], since := 999990 }; let s := paired [e] [e]; (s.tile (tileAt 20 20)).launch = some 1 ∧ (s.launch? 1).map (fun l => (l.id, l.dual, l.tileOf 0, l.twinOf 0)) = some (1, true, tileAt 20 20, tileAt 30 30) ∧ (s.tile (tileAt 20 20)).diverged = false ∧ (s.tile (tileAt 20 20)).fenced = false ∧ e.since + 2 ≤ s.clk ∧ s.rel.wishes = [] ∧ s.fenceReason 1 = none) ∧
    (let a : Egress := { k := 0, kind := 1, words := [1], since := 0 }; let b : Egress := { a with since := 900000 }; let s := paired [a] [b]; min a.since b.since + s.rel.dual.toNat % 2 ^ 16 * 3300 < max a.since b.since) ∧
    (let a : Egress := { k := 0, kind := 1, words := [1], since := 0 }; let s := paired [a] []; a.since + s.rel.dual.toNat % 2 ^ 16 * 3300 ≤ s.clk ∧ (s.tile (tileAt 30 30)).egress = []) ∧
    (let a : Egress := { k := 0, kind := 1, words := [1], since := 999999 }; let s := paired [a] []; s.clk < a.since + s.rel.dual.toNat % 2 ^ 16 * 3300) ∧
    (let b : Egress := { k := 0, kind := 1, words := [1], since := 0 }; let s := paired [] [b]; (s.tile (tileAt 20 20)).egress = [] ∧ b.since + s.rel.dual.toNat % 2 ^ 16 * 3300 ≤ s.clk) := by
  decide +kernel

theorem test_witness_Handover_of_heartbeats :
    (let f : Fw := { watch := true, lastBeat := 0 }; f.phase ≠ .switched ∧ f.hang = false ∧ f.lastBeat + 20 * 3300000 ≤ 66000000 ∧ ¬ f.lastBeat + 20 * 3300000 ≤ 65999999) ∧
    ({ phase := .committed } : Fw).phase ≠ .switched ∧ ({} : Fw).watch = false ∧ ({ phase := .switched, heldWrites := [(2 ^ 24 - 32, List.replicate 32 1)] } : Fw).heldWrites.all (fun w => decide (w.1 + w.2.length ≤ 2 ^ 24)) = true ∧
    ({ phase := .switched } : Fw).doorbells = [] ∧ (10 : Word).toNat < 64 ∧ ({ fw := { arb := some 9 } } : State).arbOf.toNat < 10 := by
  decide +kernel

theorem test_witness_BootRom_of_phases :
    ({ booting := some 256, sb := .booting } : Fw).booting = some 256 ∧ ({ booting := some 256, recovery := true } : Fw).recovery = true ∧
    ({ phase := .switched } : Fw).phase = .switched ∧ ({ sb := .ready } : Fw).sb ≠ .reset := by
  decide +kernel

theorem test_witness_Identity_of_sessions :
    (let s : State := { bu := { ready := 0xFFFFFFFF }, fw := { pod := some 9, sessions := [{ id := 4, requester := some 9 }], ideKeys := [(2, 5)] } }; s.serves = true ∧ (∃ p, s.fw.pod = some p ∧ ∃ x ∈ s.fw.sessions, x.id = 4 ∧ x.requester = some p) ∧ (∃ e ∈ s.fw.ideKeys, e.1 = 2) ∧ (∀ x ∈ s.fw.sessions, x.id ≠ 5) ∧ s.br.keys.length < 4096 ∧ (3 : BitVec 16) ≠ 0 ∧ (3 : BitVec 16) ≠ 0xFFFF) ∧
    (let s : State := { fw := { idBusy := true, idJob := 0x0100000000000040 } }; s.fw.idBusy = true) := by
  refine ⟨⟨by decide +kernel, ⟨9, rfl, _, List.mem_singleton.mpr rfl, rfl, rfl⟩, by decide +kernel, by decide +kernel, by decide +kernel, by decide, by decide⟩, rfl⟩

theorem test_witness_CrownWrites_of_nudged_rings :
    ({ nudged := [7] } : Fw).nudged ≠ [] ∧ (1 : BitVec 256).getLsbD 0 = true ∧ ({} : State).crnStands 0x10A0030 4 = true ∧ ({} : State).crnStands 0x10A0018 8 = false ∧ (BitVec.ofNat 256 (2 ^ 30)).getLsbD 30 = true := by
  decide +kernel

theorem test_witness_StepRunsDecoded_of_a_quiet_module :
    (let s : State := { clk := 100 }; s.due = none ∧ s.agenda = [] ∧ s.fw.mbQueue = [] ∧ s.br.ualHeld = [] ∧ s.br.hostHeld = [] ∧ s.rel.owed = []) ∧
    (let s : State := { clk := 66000000, fw := { phase := .switched } }; s.due = some .handover ∧ runBy .handover .handoverTimeout) ∧
    (let s : State := { clk := 66000000, fw := { watch := true } }; s.due = some .hang ∧ runBy .hang .heartbeatHang) := by
  refine ⟨by decide +kernel, ⟨by decide +kernel, rfl⟩, ⟨by decide +kernel, rfl⟩⟩

/-! ### Words written out from the encoding tables (R87 to R97, Table 5-3)

As sixty-four digits: slots 7 to 0, seven digits each (source, destination, guard), then the header. -/

theorem test_decode_cuJmp_with_a_literal :
    decode 0x123456700000000000000FFF200000000000000000000000000000000000033A =
      .ok (.cuJmp { gap := 3, s := true, slot := 4, src := 0xFFF, lit := some 0xA1234567 }) := by decide +kernel
theorem test_decode_iaRol_guarded :
    decode 0x0000000000000000530B90000000000000000000000000000000000000000000 =
      .ok (.iaRol false { slot := 5, src := 5, grd := 9 }) := by decide +kernel
theorem test_decode_mdRemu :
    decode 0x000000003F507700000000000000000000000000000000000000000000000000 =
      .ok (.mdRemu { slot := 6, src := 0x3F, grd := 7 }) := by decide +kernel
theorem test_decode_agFmode :
    decode 0x00460B0000000000000000000000000000000000000000000000000000000000 =
      .ok (.agFmode { slot := 7, src := 4 }) := by decide +kernel
theorem test_decode_lsStwr_with_a_gap :
    decode 0x000000000000000000000004710000000000000000000000000000000000FF00 =
      .ok (.lsStwr { gap := 255, slot := 4, src := 4 }) := by decide +kernel
theorem test_decode_vuRmax_of_a_wide_source :
    decode 0x000000000000000000000000000000000000000000000000005F82A000000020 =
      .ok (.vuRmax { s := true, slot := 0, src := 0x5F }) := by decide +kernel
theorem test_decode_mxMfmt :
    decode 0x0000000000000040791300000000000000000000000000000000000000000000 =
      .ok (.mxMfmt { slot := 5, src := 0x407 }) := by decide +kernel
theorem test_decode_chWaddr :
    decode 0x000000000000000000000080A1E0000000000000000000000000000000000000 =
      .ok (.chWaddr { slot := 4, src := 0x80 }) := by decide +kernel
theorem test_decode_balSpin :
    decode 0x0000000000000000000007FFB0D0000000000000000000000000000000000000 =
      .ok (.balSpin { slot := 4, src := 0x7FF }) := by decide +kernel
theorem test_decode_syIntack :
    decode 0x0000000401C0D000000000000000000000000000000000000000000000000000 =
      .ok (.syIntack { slot := 6, src := 0x401 }) := by decide +kernel
theorem test_decode_kyKeyclr :
    decode 0x000000000000000000000061D06F000000000000000000000000000000000000 =
      .ok (.kyKeyclr { slot := 4, src := 0x61, grd := 15 }) := by decide +kernel
theorem test_decode_qsEnq :
    decode 0x010E030000000000000000000000000000000000000000000000000000000000 =
      .ok (.qsEnq { slot := 7, src := 0x10 }) := by decide +kernel
theorem test_encode_cuHalt :
    encode (.cuHalt { slot := 4, src := 0x400 }) =
      some 0x00000000000000000000040020D0000000000000000000000000000000000000 := by decide +kernel
theorem test_decode_two_triggers :
    (decode 0x00000000000000009507F0043015000000000000000000000000000000000100).toOption.map (fun i => match i with | .bundleIssue b => (b.gap, bundleMoves b) | _ => (0, [])) =
      some (1, [(4, { src := 4, dst := 0x301, grd := 5 }), (5, { src := 9, dst := 0x507, grd := 15 })]) := by decide +kernel
theorem test_decode_refuses_a_reserved_header :
    decode 0x00000000000000000000040020D0000000000000000000000000000000000080 =
      .error .headerField := by decide +kernel
theorem test_decode_refuses_guard_eight :
    decode 0x00000000000000000000040020D8000000000000000000000000000000000000 =
      .error (.guardEight 4) := by decide +kernel
theorem test_decode_refuses_a_reserved_source :
    decode 0x00000000E820D000000000000000000000000000000000000000000000000000 =
      .error (.sourceReserved 6 0x0E8) := by decide +kernel
theorem test_decode_refuses_a_wide_source_on_a_narrow_bus :
    decode 0x05F8000000000000000000000000000000000000000000000000000000000000 =
      .error (.wideInNarrowSlot 7 0x05F) := by decide +kernel


/-! ### Ill-formed terms: each check of `Instr.wf` refuses one -/

theorem test_wf_refuses_a_single_trigger_as_a_bundle :
    (Instr.bundleIssue (moveBundle 0x20D { slot := 4, src := 0x400 })).wf = false := by decide +kernel
theorem test_wf_refuses_an_illegal_bundle :
    (Instr.bundleIssue { moveBundle 0x300 { slot := 4, src := 0x068 } with gap := 1 }).wf = false := by decide +kernel
theorem test_wf_refuses_a_literal_beside_a_move_in_slot_seven :
    (Instr.iaAdd false { slot := 7, src := 3, lit := some 1 }).wf = false := by decide +kernel
theorem test_wf_refuses_a_literal_source_without_a_literal : (Instr.cuJmp { slot := 4, src := 0xFFF }).wf = false := by decide +kernel
theorem test_wf_refuses_guard_eight : (Instr.mdDiv { slot := 4, src := 3, grd := 8 }).wf = false := by decide +kernel
theorem test_wf_refuses_a_wide_source_on_a_narrow_bus : (Instr.lsLdw { slot := 4, src := 0x040 }).wf = false := by decide +kernel
theorem test_wf_refuses_a_tile_that_does_not_exist :
    (Instr.resultComplete (80 * 128) 1).wf = false ∧ (Instr.interruptEntry 0x40040).wf = false := by decide +kernel
theorem test_wf_refuses_numbers_beyond_their_tables :
    (Instr.resultComplete 0 13).wf = false ∧ (Instr.streamFill 0 8).wf = false ∧ (Instr.layoutAdmit 16 0).wf = false ∧
    (Instr.layoutAdmit 0 4).wf = false ∧ (Instr.ringPoll 4096).wf = false ∧ (Instr.queueSliceExpiry 256).wf = false ∧
    (Instr.dependencePoll 0 8).wf = false ∧ (Instr.collBegin 4096).wf = false ∧ (Instr.windowFree 4096).wf = false ∧
    (Instr.revocationApply 0 18).wf = false ∧ (Instr.hdmCtlWrite 8 0).wf = false ∧ (Instr.brPortRetryClear 64).wf = false ∧
    (Instr.fenceComplete 16).wf = false ∧ (Instr.edgeDown 24).wf = false ∧ (Instr.pllLockLoss 16).wf = false ∧
    (Instr.bringupCheckDone 64 true).wf = false := by decide +kernel
theorem test_wf_refuses_a_retirement_bit_beyond_the_map :
    (Instr.retirementMapWrite 16 []).wf = false ∧ (Instr.retirementMapWrite 0 [10240]).wf = false := by decide +kernel
theorem test_wf_refuses_a_register_access_out_of_form :
    (Instr.crnRegisterWrite crownBase 1 0).wf = false ∧ (Instr.crnRegisterWrite (crownBase + 2) 4 0).wf = false := by decide +kernel


/-! ### Effects of single operations: the specification's worked examples -/

/-- The tile after an operation runs on it. -/
def ran (i : Instr) (t : Tile) : Tile := match exec i (only t) with | .next s => s.me | _ => {}

/-- The results in flight of a socket after an operation: the cycle of completion counted from the trigger, and the value. -/
def gives (i : Instr) (t : Tile) (sock : Nat) : List (Nat × Wide) := ((ran i t).sock sock).fly.map fun r => (r.due - 100, r.val)

/-- The move of `v1` to a trigger, in slot 0. -/
def mvWide : TrigMove := { slot := 0, src := 0x041 }

theorem test_iaAdd_wraps : gives (.iaAdd false mv) (prog 0xFFFFFFFF [(4, 2)]) 1 = [(1, 1)] := by decide +kernel
theorem test_iaSub_subtracts_the_trigger : gives (.iaSub true mv) (prog 3 [(8, 1)]) 2 = [(1, 0xFFFFFFFE)] := by decide +kernel
theorem test_iaSar_beyond_the_width : gives (.iaSar false mv) (prog 32 [(4, 0x80000000)]) 1 = [(1, 0xFFFFFFFF)] := by decide +kernel
theorem test_iaClz_of_zero : gives (.iaClz false mv) (prog 0) 1 = [(1, 32)] := by decide +kernel
theorem test_mdMac_adds_b : gives (.mdMac mv) (prog 7 [(12, 5), (13, 2)]) 3 = [(3, 37)] := by decide +kernel
theorem test_mdDiv_truncates_toward_zero : gives (.mdDiv mv) (prog 2 [(12, 0xFFFFFFF9)]) 3 = [(18, 0xFFFFFFFD)] := by decide +kernel
theorem test_mdRem_takes_the_dividend's_sign : gives (.mdRem mv) (prog 2 [(12, 0xFFFFFFF9)]) 3 = [(18, 0xFFFFFFFF)] := by decide +kernel
theorem test_agIncw_steps_the_latch : (ran (.agIncw mv) (prog 16 [(16, 88), (17, 96)])).latchN 4 0 = 8 := by decide +kernel
theorem test_agIncw_gives_the_old_offset : gives (.agIncw mv) (prog 16 [(16, 88), (17, 96)]) 4 = [(1, 88)] := by decide +kernel
theorem test_agBcyc_index : gives (.agBcyc mv) (prog 17 [(16, 4), (17, 3)]) 4 = [(1, 5)] := by decide +kernel
theorem test_agBcyc_owner : gives (.agBcyc mv) (prog 17 [(16, 4), (17, 0x80000003)]) 4 = [(1, 1)] := by decide +kernel
theorem test_lsLdbs_extends_the_sign :
    gives (.lsLdbs mv) { prog 0x100 with ls := [⟨0x100, 0x80⟩] } 5 = [(3, 0xFFFFFF80)] := by decide +kernel
theorem test_vuFma_rounds_once :
    gives (.vuFma mv) (prog 0x3F800800 [(24, 0x3F800800), (25, 0xBF801000)]) 6 = [(4, 0x33800000)] := by decide +kernel
theorem test_vuFexp2_of_three : ((gives (.vuFexp2 mv) (prog 0x40400000) 6).map fun r => lane r.2 0) = [0x41000000] := by decide +kernel
theorem test_vuFlog2_of_a_half : ((gives (.vuFlog2 mv) (prog 0x3F000000) 6).map fun r => lane r.2 0) = [0xBF800000] := by decide +kernel
theorem test_vuPacki8_saturates :
    ((gives (.vuPacki8 mv) (prog 0 [(24, 0xFFFFFF3800000007FFFFFFFB0000012C)]) 6).map fun r => lane r.2 0) = [0x8007FB7F] := by
  decide +kernel
theorem test_vuRsum_follows_the_tree :
    ((gives (.vuRsum mvWide)
      { prog with v := Vector.replicate 32 (mkWide fun i => if i = 0 then 0x4B800000 else 0x3F800000) } 6).map fun r => lane r.2 0) =
      [0x4B800007] := by decide +kernel
theorem test_matrix_step_rounds_each_product :
    mstep (mstep 0x3F800000 (bfVal 0x3980) (bfVal 0x3980)) (bfVal 0x3980) (bfVal 0x3980) = 0x3F800000 := by decide +kernel
theorem test_cuLoop_of_none_skips : (ran (.cuLoop mv) (prog 0 [(0, 20)])).pc = 21 := by decide +kernel
theorem test_cuTrap_enters : ((ran (.cuTrap mv) (prog 9)).sup, (ran (.cuTrap mv) (prog 9)).tinfo >>> 32) = (true, 9) := by decide +kernel

end Sys2Proof.Tests
end

section
/-! PROOFS. The control socket: the jumps, calls and returns of R161 to R164, and `nextwork` (R59, R170). -/

namespace Sys2Proof.Proofs.ControlSocket

open Machine Claims

/-! ### What the issue of an operation comes to, by the shape of its answer -/

section Issue
variable {s : State} {code : Nat} {m : TrigMove} {v : Wide} {t : Tile} {op : OpFn}

/-- An operation whose answer is one of the traps of Table 6-4 has only that trap as its effect (R102, R181). -/
theorem issueOne_ctxTrap (h : Starts s code m v t) {c : Cause} {d : Nat}
    (ho : op (s.ctx code m v t) (s.setTile s.cur t) = (s.ctx code m v t).trap c (2 ^ 32 * d)) :
    s.issueOne code op m = trapped s c (info6 m code d) :=
  issueOne_trap h ho

/-- The first request to the sequencer stands as it is. -/
theorem join_empty (e : Eff) : ({} : Eff).join e = e := by
  obtain ⟨next, notBefore, stop, cirClear, loopReg⟩ := e
  cases next <;> cases stop <;> cases loopReg <;> simp [Eff.join]

/-- An operation that redirects fetch, with its tile as `t'` (R157). -/
theorem issueOne_redirect (h : Starts s code m v t) {t' : Tile} {q : Word}
    (ho : op (s.ctx code m v t) (s.setTile s.cur t) = redirect (s.setTile s.cur t') q) :
    s.issueOne code op m = s.issued m t' { next := some (q, true) } :=
  (issueOne_go h ho).trans (by rw [join_empty]; rfl)

/-- An operation that asks nothing and leaves the state as it finds it. -/
theorem issueOne_unchanged (h : Starts s code m v t)
    (ho : op (s.ctx code m v t) (s.setTile s.cur t) = .go (s.setTile s.cur t) {}) :
    s.issueOne code op m = s.issued m t :=
  issueOne_go h ho

end Issue

/-! ### Jumps and calls (R161, R162) -/

/-- The answer of a jump to `q`, and of a call to `q`. -/
def jumpOrCall (calls : Bool) (x : Ctx) (s : State) (q : Word) : OpOut := if calls then x.call s q else redirect s q

/-- The tile after a jump, and after a call: a call stands its link word two cycles later (R161). -/
def linked (s : State) (calls : Bool) (t : Tile) : Tile := if calls then t.resultN 0 s.clk 2 (linkWord s.me) else t

section Jumps
variable {s : State} {code : Nat} {m : TrigMove} {v : Wide} {t : Tile} {op : OpFn}

/-- The link word that an operation makes is that of Table 6-2. -/
theorem link_ctx : (s.ctx code m v t).link = linkWord s.me := by
  simp [Ctx.link, linkWord, State.ctx, Nat.mul_comm]

theorem jumpOrCall_ctx (calls : Bool) (q : Word) :
    jumpOrCall calls (s.ctx code m v t) (s.setTile s.cur t) q = redirect (s.setTile s.cur (linked s calls t)) q := by
  cases calls with
  | false => rfl
  | true =>
    simp only [jumpOrCall, linked, if_true, Ctx.call, link_ctx]
    exact congrArg (redirect · q) (setTile_modTile ..)

theorem issueOne_jumpOrCall (h : Starts s code m v t) {calls : Bool} {q : Word}
    (ho : op (s.ctx code m v t) (s.setTile s.cur t) = jumpOrCall calls (s.ctx code m v t) (s.setTile s.cur t) q) :
    s.issueOne code op m = s.issued m (linked s calls t) { next := some (q, true) } :=
  issueOne_redirect h (ho.trans (jumpOrCall_ctx calls q))

end Jumps

/-- A relative target is the sum of the two's-complement numbers, modulo 2^32 (R162). -/
theorem add_eq_ofInt (p n : Word) : p + n = BitVec.ofInt 32 (p.toInt + n.toInt) := by
  rw [BitVec.ofInt_add, BitVec.ofInt_toInt, BitVec.ofInt_toInt]

/-- Each direct row issues an operation that jumps or calls, to an absolute or a relative target. -/
theorem exec_jumpRow {r : (TrigMove → Instr) × Nat × Bool × Bool} (hr : r ∈ jumpRows) :
    ∃ op : OpFn, (∀ m s, exec (r.1 m) s = .next (s.issueOne r.2.1 op m)) ∧
      ∀ x s, op x s = jumpOrCall r.2.2.1 x s (if r.2.2.2 then x.p + x.n else x.n) := by
  simp only [jumpRows, List.mem_cons, List.not_mem_nil, or_false] at hr
  obtain rfl | rfl | rfl | rfl := hr
  · exact ⟨opCuJmp, fun _ _ => rfl, fun _ _ => rfl⟩
  · exact ⟨opCuJrel, fun _ _ => rfl, fun _ _ => rfl⟩
  · exact ⟨opCuCall, fun _ _ => rfl, fun _ _ => rfl⟩
  · exact ⟨opCuCallrel, fun _ _ => rfl, fun _ _ => rfl⟩

theorem jumpsAndCalls : JumpsAndCalls := by
  intro s m v t r hr h
  obtain ⟨op, hexec, hop⟩ := exec_jumpRow hr
  rw [hexec, issueOne_jumpOrCall h (hop _ _), add_eq_ofInt]
  rfl

/-! ### Table jumps (R163) -/

/-- The bits of a number that name a bundle as a target. -/
theorem bits_low_twelve (x : Nat) : bits x 11 0 = x % 4096 := by simp [bits]

/-- The byte address of entry `i` of the table that the latch value `a` describes (R163). -/
def entryByte (a i : Nat) : Nat := a % 2 ^ 17 / 2 * 2 + 2 * i

/-- The answer of a table jump or a table call to what the table gives. -/
def tableAnswer (calls : Bool) (x : Ctx) (s : State) : TabOut → OpOut
  | .trap c addr => x.trap c (2 ^ 32 * (addr % 2 ^ 17))
  | .out => .go s {}
  | .target q => jumpOrCall calls x s q

/-- Each table row issues an operation that answers what its look-up gives; both sample latch `a` of `cu`. -/
theorem exec_tableRow {r : (TrigMove → Instr) × Nat × Bool} (hr : r ∈ tableRows) :
    sockOf r.2.1 = 0 ∧ ∃ op : OpFn, (∀ m s, exec (r.1 m) s = .next (s.issueOne r.2.1 op m)) ∧
      ∀ x s, op x s = tableAnswer r.2.2 x s x.table := by
  simp only [tableRows, List.mem_cons, List.not_mem_nil, or_false] at hr
  obtain rfl | rfl := hr
  · exact ⟨rfl, opCuJtab, fun _ _ => rfl, fun x s => by unfold opCuJtab; cases x.table <;> rfl⟩
  · exact ⟨rfl, opCuCalltab, fun _ _ => rfl, fun x s => by unfold opCuCalltab; cases x.table <;> rfl⟩

/-- What the halfword at a byte address gives, in the order of the checks: the local store, what the mode may reach,
poison, and then its low twelve bits as the target (R163, R27). -/
def entryOut (t : Tile) (addr : Nat) : TabOut :=
  if 0x18000 < addr + 2 then .trap .lsRange addr
  else if lsLimit t < addr + 2 then .trap .privilege addr
  else if t.poisoned addr 2 then .trap .fetchPoison addr
  else .target (BitVec.ofNat 32 (t.mem addr 2 % 4096))

theorem entryOut_lsRange {t : Tile} {addr : Nat} (h : 0x18000 < addr + 2) : entryOut t addr = .trap .lsRange addr :=
  if_pos h

theorem entryOut_privilege {t : Tile} {addr : Nat} (hl : 0x17000 < addr + 2) (hr : addr + 2 ≤ 0x18000)
    (hs : t.sup = false) : entryOut t addr = .trap .privilege addr := by
  simp [entryOut, lsLimit, hs, hl, hr.not_gt]

theorem lsLimit_le (t : Tile) : lsLimit t ≤ 0x18000 := by
  unfold lsLimit; split <;> omega

theorem entryOut_reached {t : Tile} {addr : Nat} (h : addr + 2 ≤ lsLimit t) :
    entryOut t addr = if t.poisoned addr 2 then .trap .fetchPoison addr
      else .target (BitVec.ofNat 32 (t.mem addr 2 % 4096)) := by
  rw [entryOut, if_neg (h.trans (lsLimit_le t)).not_gt, if_neg h.not_gt]

/-- Within the local store, a program goes beyond what it may reach from `supBase` on, and the supervisor never does. -/
theorem beyond_lsLimit {t : Tile} {n : Nat} (h : ¬ 0x18000 < n) :
    (!t.sup && decide (supBase < n)) = true ↔ lsLimit t < n := by
  rw [Bool.and_eq_true, decide_eq_true_iff]
  cases hs : t.sup <;> simp [lsLimit, supBase, hs, not_lt.1 h]

section Table
variable {s : State} {code : Nat} {m : TrigMove} {v : Wide} {t : Tile} {op : OpFn} {calls : Bool}

/-- The look-up: nothing from COUNT on, else what the entry's halfword gives (R163). -/
theorem table_ctx (hc : sockOf code = 0) :
    (s.ctx code m v t).table = if (t.latchN 0 0).toNat / 2 ^ 20 ≤ (narrowOf v).toNat then .out
      else entryOut s.me (entryByte (t.latchN 0 0).toNat (narrowOf v).toNat) := by
  have hcount : bits (t.latchN 0 0).toNat 31 20 = (t.latchN 0 0).toNat / 2 ^ 20 := by
    have := (t.latchN 0 0).isLt
    simp only [bits]; omega
  have hbase : bits (t.latchN 0 0).toNat 16 1 * 2 + 2 * (narrowOf v).toNat =
      entryByte (t.latchN 0 0).toNat (narrowOf v).toNat := by
    simp only [bits, entryByte]; omega
  have ha : (s.ctx code m v t).a = t.latchN 0 0 := congrArg (t.latchN · 0) hc
  have hn : (s.ctx code m v t).n = narrowOf v := rfl
  have hpre : (s.ctx code m v t).pre = s.me := rfl
  simp only [Ctx.table, ha, hn, hpre, hcount, hbase, bits_low_twelve, entryOut, lsSize]
  by_cases hl : 0x18000 < entryByte (t.latchN 0 0).toNat (narrowOf v).toNat + 2
  · simp only [if_pos hl]
  · simp only [if_neg hl, beyond_lsLimit hl]

variable (h : Starts s code m v t) (hop : ∀ x s, op x s = tableAnswer calls x s x.table)
include h hop

theorem issueOne_table_out (ht : (s.ctx code m v t).table = .out) : s.issueOne code op m = s.issued m t :=
  issueOne_unchanged h (by rw [hop, ht]; rfl)

theorem issueOne_table_target {q : Word} (ht : (s.ctx code m v t).table = .target q) :
    s.issueOne code op m = s.issued m (linked s calls t) { next := some (q, true) } :=
  issueOne_jumpOrCall h (by rw [hop, ht]; rfl)

theorem issueOne_table_trap {c : Cause} {addr : Nat} (ht : (s.ctx code m v t).table = .trap c addr) :
    s.issueOne code op m = trapped s c (info6 m code (addr % 2 ^ 17)) :=
  issueOne_ctxTrap h (by rw [hop, ht]; rfl)

end Table

theorem tableJumps : TableJumps := by
  intro s m v t r hr h a i addr
  obtain ⟨hsock, op, hexec, hop⟩ := exec_tableRow hr
  have hout (hi : a / 2 ^ 20 ≤ i) : (s.ctx r.2.1 m v t).table = .out := (table_ctx hsock).trans (if_pos hi)
  have hin (hi : i < a / 2 ^ 20) : (s.ctx r.2.1 m v t).table = entryOut s.me addr :=
    (table_ctx hsock).trans (if_neg hi.not_ge)
  simp only [hexec, Host.Outcome.next.injEq]
  refine ⟨fun hi => ?_, fun hi hl hp => ?_, fun hi hl => ?_, fun hi hl hr hs => ?_, fun hi hl hp => ?_⟩
  · exact issueOne_table_out h hop (hout hi)
  · exact issueOne_table_target h hop ((hin hi).trans (by rw [entryOut_reached hl, hp]; rfl))
  · exact issueOne_table_trap h hop ((hin hi).trans (entryOut_lsRange hl))
  · exact issueOne_table_trap h hop ((hin hi).trans (entryOut_privilege hl hr hs))
  · exact issueOne_table_trap h hop ((hin hi).trans (by rw [entryOut_reached hl, hp]; rfl))

/-! ### Returns (R164) -/

theorem returns : Returns := by
  intro s m v t h d
  constructor
  · intro hd
    refine congrArg _ (issueOne_redirect h ?_)
    have hop : opCuRet (s.ctx 0x206 m v t) (s.setTile s.cur t) = redirect _ _ := if_neg hd.not_gt
    rw [hop, bits_low_twelve]
    exact congrArg (redirect · _) (setTile_modTile ..)
  · intro hd
    exact congrArg _ (issueOne_ctxTrap h (if_pos hd))

/-- Settles O2: each row's operation jumps, calls, pops or traps, and the laws of the issue carry that to the state. -/
theorem controlTransfers : Obligations.ControlTransfers := ⟨jumpsAndCalls, tableJumps, returns⟩

/-! ### `nextwork` (R59, R170) -/

/-- The tile after `nextwork` with guard number `g` and the item found: WID and the guard, or the guard cleared. -/
def afterWork (t : Tile) (g : Nat) : Option DWord → Tile
  | some w => { t.setGuard g true with wid := w }
  | none => t.setGuard g false

theorem opCuNextwork_eq (x : Ctx) (s : State) :
    opCuNextwork x s = x.ok s fun t => afterWork t (x.n.toNat % 8)
      (if x.pre.isSpawn then none else (x.launch s).bind fun l => l.nextWork x.pre.widf x.pre.wid) := by
  have hg : bits x.n.toNat 2 0 = x.n.toNat % 8 := by simp [bits]
  simp only [opCuNextwork, hg]
  split
  next w hw => rw [hw]; rfl
  next hw => rw [hw]; rfl

theorem exec_cuNextwork {s : State} {m : TrigMove} {v : Wide} {t : Tile} (h : Starts s 0x20B m v t)
    {item : Option DWord} (hitem : (if s.me.isSpawn then none
      else (s.me.launch.bind s.launch?).bind fun l => l.nextWork s.me.widf s.me.wid) = item) :
    exec (.cuNextwork m) s = .next (s.issued m (afterWork t ((narrowOf v).toNat % 8) item)) :=
  hitem ▸ congrArg _ (issueOne_ok h (opCuNextwork_eq ..))

/-- Settles O5: by whether the tile is a spawn tile, and whether its launch has a next item. -/
theorem workItems : Obligations.WorkItems := by
  intro s m v t h g item
  constructor
  · intro w hs hw
    exact exec_cuNextwork h ((if_neg (by simp [hs])).trans hw)
  · rintro (hs | hn)
    · exact exec_cuNextwork h (if_pos hs)
    · exact exec_cuNextwork h ((congrArg (ite _ none) hn).trans (ite_self none))

end Sys2Proof.Proofs.ControlSocket
end

section
/-! PROOFS. The integer sockets and the multiply and divide socket: the results of Tables 7-1 to 7-3 (R185 to R191). -/

namespace Sys2Proof.Proofs.IntegerSockets

open Machine Claims
open ControlSocket (add_eq_ofInt)

/-! ### Words as two's-complement numbers: the model's operations give the tables' results -/

section Values
variable (a b c : Word)

theorem sub_eq_ofInt : a - b = BitVec.ofInt 32 (a.toInt - b.toInt) := by
  rw [Int.sub_eq_add_neg, BitVec.ofInt_add, BitVec.ofInt_neg, BitVec.ofInt_toInt, BitVec.ofInt_toInt, BitVec.sub_eq_add_neg]

theorem mul_eq_ofInt : a * b = BitVec.ofInt 32 (a.toInt * b.toInt) := by
  rw [BitVec.ofInt_mul, BitVec.ofInt_toInt, BitVec.ofInt_toInt]

theorem mul_add_eq_ofInt : a * b + c = BitVec.ofInt 32 (a.toInt * b.toInt + c.toInt) := by
  rw [BitVec.ofInt_add, BitVec.ofInt_toInt, mul_eq_ofInt]

/-- A left shift multiplies, and leaves nothing from 32 on (R185). -/
theorem shl32_eq_mul : shl32 a b = if 32 ≤ b.toNat then 0 else BitVec.ofNat 32 (a.toNat * 2 ^ b.toNat) := by
  by_cases h : 32 ≤ b.toNat
  · rw [if_pos h, shl32, if_neg h.not_gt]
  · rw [if_neg h, shl32, if_pos (not_le.1 h)]
    exact BitVec.eq_of_toNat_eq (by simp [Nat.shiftLeft_eq])

theorem ushiftRight_eq_div : a >>> b.toNat = if 32 ≤ b.toNat then 0 else BitVec.ofNat 32 (a.toNat / 2 ^ b.toNat) := by
  by_cases h : 32 ≤ b.toNat
  · rw [if_pos h, BitVec.ushiftRight_eq_zero h]; rfl
  · rw [if_neg h, ← Nat.shiftRight_eq_div_pow, ← BitVec.toNat_ushiftRight, BitVec.ofNat_toNat, BitVec.setWidth_eq]

/-- An arithmetic right shift divides, rounding down, and leaves copies of the sign from 32 on (R185). -/
theorem sshiftRight_eq_div : a.sshiftRight b.toNat =
    if 32 ≤ b.toNat then (if a.msb then 0xFFFFFFFF else 0) else BitVec.ofInt 32 (a.toInt / 2 ^ b.toNat) := by
  by_cases h : 32 ≤ b.toNat
  · rw [if_pos h]
    cases hs : a.msb with
    | true => rw [BitVec.sshiftRight_eq_of_msb_true hs, BitVec.ushiftRight_eq_zero h]; rfl
    | false => rw [BitVec.sshiftRight_eq_of_msb_false hs, BitVec.ushiftRight_eq_zero h]; rfl
  · rw [if_neg h, ← BitVec.ofInt_toInt (x := a.sshiftRight b.toNat), BitVec.toInt_sshiftRight, Int.shiftRight_eq_div_pow]
    simp

theorem rotateLeft_eq_or : a.rotateLeft (b.toNat % 32) = (a <<< (b.toNat % 32)) ||| (a >>> (32 - b.toNat % 32)) := by
  rw [BitVec.rotateLeft_def, Nat.mod_mod]

theorem ite_slt_eq_min : (if a.slt b then a else b) = BitVec.ofInt 32 (min a.toInt b.toInt) := by
  simp only [BitVec.slt_iff_toInt_lt]
  split
  next h => rw [min_eq_left h.le, BitVec.ofInt_toInt]
  next h => rw [min_eq_right (not_lt.1 h), BitVec.ofInt_toInt]

theorem ite_slt_eq_max : (if a.slt b then b else a) = BitVec.ofInt 32 (max a.toInt b.toInt) := by
  simp only [BitVec.slt_iff_toInt_lt]
  split
  next h => rw [max_eq_right h.le, BitVec.ofInt_toInt]
  next h => rw [max_eq_left (not_lt.1 h), BitVec.ofInt_toInt]

theorem ite_ult_eq_min : (if a.ult b then a else b) = BitVec.ofNat 32 (min a.toNat b.toNat) := by
  simp only [BitVec.ult_iff_toNat_lt]
  split
  next h => simp [min_eq_left h.le]
  next h => simp [min_eq_right (not_lt.1 h)]

theorem ite_ult_eq_max : (if a.ult b then b else a) = BitVec.ofNat 32 (max a.toNat b.toNat) := by
  simp only [BitVec.ult_iff_toNat_lt]
  split
  next h => simp [max_eq_right h.le]
  next h => simp [max_eq_left (not_lt.1 h)]

theorem clz32_eq : BitVec.ofNat 32 (clz32 b) = if b = 0 then 32 else BitVec.ofNat 32 (31 - Nat.log2 b.toNat) := by
  by_cases h : b = 0
  · subst h; rfl
  · have hn : b.toNat ≠ 0 := fun h0 => h (BitVec.eq_of_toNat_eq h0)
    rw [if_neg h, clz32, bitLen, if_neg hn]
    congr 1; omega

theorem upTo_eq_range (n : Nat) : upTo n = List.range n := by
  induction n with
  | zero => rfl
  | succ n ih => rw [upTo, ih, List.range_succ]

theorem popc32_eq : popc32 b = (List.range 32).countP fun i => b.getLsbD i := by
  rw [popc32, upTo_eq_range, List.countP_eq_length_filter]

theorem divU_eq : divU a b = if b = 0 then 0xFFFFFFFF else a / b := by
  rw [divU, ← BitVec.toNat_udiv, BitVec.ofNat_toNat, BitVec.setWidth_eq]

theorem remU_eq : remU a b = if b = 0 then a else a % b := by
  rw [remU, ← BitVec.toNat_umod, BitVec.ofNat_toNat, BitVec.setWidth_eq]

theorem remS_eq : remS a b = if b = 0 then a else BitVec.ofInt 32 (a.toInt - b.toInt * a.toInt.tdiv b.toInt) := by
  rw [remS, Int.tmod_def]

/-! ### Bit fields (R187) -/

theorem bits_eq_extract (hi lo : Nat) : bits a.toNat hi lo = (a.extractLsb' lo (hi + 1 - lo)).toNat := by
  rw [bits, BitVec.extractLsb'_toNat, Nat.shiftRight_eq_div_pow]

theorem getLsbD_bfxMask (w : Nat) {i : Nat} (hi : i < 32) : (bfxMask w).getLsbD i = decide (i < w) := by
  rw [bfxMask, BitVec.getLsbD_ofNat, Nat.testBit_two_pow_sub_one, decide_eq_true hi, Bool.true_and]

/-- The field that an extract takes from a word. -/
theorem getLsbD_field (lo w : Nat) {i : Nat} (hi : i < 32) :
    ((a >>> lo) &&& bfxMask w).getLsbD i = (decide (i < w) && a.getLsbD (lo + i)) := by
  rw [BitVec.getLsbD_and, BitVec.getLsbD_ushiftRight, getLsbD_bfxMask w hi, Bool.and_comm]

/-- A nonempty low part of a number as two's complement is that of a word of its width. -/
theorem sextNat_eq_toInt (x : Nat) {w : Nat} (hw : 0 < w) : sextNat x w = (BitVec.ofNat w x).toInt := by
  obtain ⟨k, rfl⟩ : ∃ k, w = k + 1 := ⟨w - 1, by omega⟩
  rw [sextNat, BitVec.toInt_eq_toNat_cond, BitVec.toNat_ofNat, Nat.add_sub_cancel]
  have h2 : 2 ^ (k + 1) = 2 * 2 ^ k := Nat.pow_succ'
  split_ifs <;> omega

/-- Sign extension repeats the top bit of the field. -/
theorem getLsbD_sext (f : Word) {w i : Nat} (hw : 0 < w) (hi : i < 32) :
    (BitVec.ofInt 32 (sextNat f.toNat w)).getLsbD i = f.getLsbD (if i < w then i else w - 1) := by
  rw [sextNat_eq_toInt _ hw, BitVec.ofNat_toNat]
  change ((f.setWidth w).signExtend 32).getLsbD i = _
  rw [BitVec.getLsbD_signExtend, BitVec.msb_eq_getLsbD_last, BitVec.getLsbD_setWidth, BitVec.getLsbD_setWidth]
  split <;> simp [*]

/-- The word that an insert leaves: the field from `a`, the rest from `c`. -/
theorem getLsbD_insert (lo w : Nat) {i : Nat} (hi : i < 32) :
    ((c &&& ~~~(bfxMask w <<< lo)) ||| ((a &&& bfxMask w) <<< lo)).getLsbD i =
      if decide (lo ≤ i) && decide (i < lo + w) then a.getLsbD (i - lo) else c.getLsbD i := by
  simp only [BitVec.getLsbD_or, BitVec.getLsbD_and, BitVec.getLsbD_not, BitVec.getLsbD_shiftLeft,
    getLsbD_bfxMask w (show i - lo < 32 by omega), hi]
  by_cases hlo : lo ≤ i
  · have hw : i - lo < w ↔ i < lo + w := by omega
    by_cases h : i < lo + w <;> simp [hlo, hlo.not_gt, hw, h]
  · simp [hlo, not_le.1 hlo]

/-- A word written out bit by bit has those bits. -/
theorem getLsbD_bitList (f : Nat → Bool) {i : Nat} (hi : i < 32) :
    ((BitVec.ofBoolListLE ((List.range 32).map f)).setWidth 32).getLsbD i = f i := by
  rw [BitVec.getLsbD_setWidth, BitVec.getLsbD_ofBoolListLE]
  simp [hi, -BitVec.getLsbD_eq_getElem]

theorem bfxResult_eq_bitField (ctl : Word) : bfxResult a c ctl = bitField a ctl c := by
  refine BitVec.eq_of_getLsbD_eq fun i hi => ?_
  simp only [bfxResult, bfxWidth, bits_eq_extract, bitField, getLsbD_bitList _ hi]
  generalize (ctl.extractLsb' 0 (4 + 1 - 0)).toNat = lo
  generalize min (min (ctl.extractLsb' 5 (10 + 1 - 5)).toNat 32) (32 - lo) = w
  by_cases hins : ctl.getLsbD 12 = true
  · rw [if_pos hins, if_pos hins]
    exact getLsbD_insert a c lo w hi
  · rw [if_neg hins, if_neg hins]
    by_cases hsgn : (ctl.getLsbD 11 && decide (0 < w)) = true
    · have hw : 0 < w := of_decide_eq_true (Bool.and_eq_true_iff.1 hsgn).2
      rw [if_pos hsgn, hsgn, getLsbD_sext _ hw hi, Bool.true_and]
      split_ifs with hiw
      · simp [getLsbD_field a lo w hi, hiw]
      · rw [getLsbD_field a lo w (by omega)]
        simp [hw, Nat.add_sub_assoc hw]
    · rw [if_neg hsgn, eq_false_of_ne_true hsgn, getLsbD_field a lo w hi]
      by_cases hiw : i < w <;> simp [hiw]

end Values

/-- A saturated sum is the clamped one, and SAT is set when the two differ (R186). -/
theorem satS32_eq (z : Int) : satS32 z = (BitVec.ofInt 32 (clampS32 z), decide (z ≠ clampS32 z)) := by
  rw [satS32, clampS32]
  split_ifs with hlo hhi
  · have hz : max (-2 ^ 31) (min (2 ^ 31 - 1) z) = -2 ^ 31 := by omega
    rw [hz, decide_eq_true (by omega)]; rfl
  · have hz : max (-2 ^ 31) (min (2 ^ 31 - 1) z) = 2 ^ 31 - 1 := by omega
    rw [hz, decide_eq_true (by omega)]; rfl
  · have hz : max (-2 ^ 31) (min (2 ^ 31 - 1) z) = z := by omega
    rw [hz, decide_eq_false (not_not.2 rfl)]

/-! ### What the issue of an operation with a narrow result comes to -/

/-- An operation that only gives a result leaves it on its way in its socket. -/
theorem issueOne_res {s : State} {code : Nat} {m : TrigMove} {v : Wide} {t : Tile} (h : Starts s code m v t) {op : OpFn}
    {lat : Nat} {w : Word} {flags : BitVec 6}
    (ho : op (s.ctx code m v t) (s.setTile s.cur t) = (s.ctx code m v t).res (s.setTile s.cur t) lat w flags) :
    s.issueOne code op m = s.issued m (t.result (sockOf code) s.clk lat false (wideOf w) flags) :=
  issueOne_ok h ho

/-- The row issues an operation that gives the row's value of A, Bv and C after `lat` cycles, without a flag. -/
def Gives (r : Row) (lat : Nat) : Prop :=
  ∃ op : OpFn, (∀ m s, exec (r.instr m) s = .next (s.issueOne r.code op m)) ∧
    ∀ x s, op x s = x.res s lat (r.value x.a x.n x.b)

theorem Gives.exec_eq {r : Row} {lat sock : Nat} (hr : Gives r lat) {s : State} {m : TrigMove} {v : Wide} {t : Tile}
    (h : Starts s r.code m v t) (hsock : sockOf r.code = sock) :
    exec (r.instr m) s = .next (s.issued m (t.resultN sock s.clk lat
      (r.value (t.latchN sock 0) (narrowOf v) (t.latchN sock 1)))) := by
  obtain ⟨op, hexec, hop⟩ := hr
  subst hsock
  exact (hexec m s).trans (congrArg _ (issueOne_res h (hop _ _)))

/-! ### The integer sockets (Table 7-1) -/

/-- The code of an operation of a unit (R138). -/
theorem iaCode_eq (u : Bool) (n : Nat) : iaCode u n = 0x300 + n + if u then 0x100 else 0 := by
  cases u
  · rfl
  · exact (Nat.add_right_comm 0x300 n 0x100).symm

/-- A row of Table 7-1 whose operation gives the row's value. -/
theorem gives_ia {u : Bool} {instr : TrigMove → Instr} {value : Word → Word → Word → Word} (n : Nat) (op : OpFn)
    (hexec : ∀ m s, exec (instr m) s = .next (s.issueOne (iaCode u n) op m))
    (hop : ∀ x s, op x s = x.res s 1 (value x.a x.n x.b)) : Gives ⟨instr, 0x300 + n + if u then 0x100 else 0, value⟩ 1 :=
  ⟨op, iaCode_eq u n ▸ hexec, hop⟩

theorem gives_iaRows (u : Bool) : ∀ r ∈ iaRows u, Gives r 1 := by
  simp only [iaRows, List.forall_mem_cons, List.not_mem_nil, false_imp_iff, implies_true, and_true]
  exact ⟨
    gives_ia 0x00 opIaAdd (fun _ _ => rfl) fun x s => congrArg (x.res s 1) (add_eq_ofInt ..),
    gives_ia 0x01 opIaSub (fun _ _ => rfl) fun x s => congrArg (x.res s 1) (sub_eq_ofInt ..),
    gives_ia 0x04 opIaAnd (fun _ _ => rfl) fun _ _ => rfl,
    gives_ia 0x05 opIaOr (fun _ _ => rfl) fun _ _ => rfl,
    gives_ia 0x06 opIaXor (fun _ _ => rfl) fun _ _ => rfl,
    gives_ia 0x07 opIaAndn (fun _ _ => rfl) fun _ _ => rfl,
    gives_ia 0x08 opIaShl (fun _ _ => rfl) fun x s => congrArg (x.res s 1) (shl32_eq_mul ..),
    gives_ia 0x09 opIaShr (fun _ _ => rfl) fun x s => congrArg (x.res s 1) (ushiftRight_eq_div ..),
    gives_ia 0x0A opIaSar (fun _ _ => rfl) fun x s => congrArg (x.res s 1) (sshiftRight_eq_div ..),
    gives_ia 0x0B opIaRol (fun _ _ => rfl) fun x s => congrArg (x.res s 1) (rotateLeft_eq_or ..),
    gives_ia 0x0C opIaMin (fun _ _ => rfl) fun x s => congrArg (x.res s 1) (ite_slt_eq_min ..),
    gives_ia 0x0D opIaMax (fun _ _ => rfl) fun x s => congrArg (x.res s 1) (ite_slt_eq_max ..),
    gives_ia 0x0E opIaMinu (fun _ _ => rfl) fun x s => congrArg (x.res s 1) (ite_ult_eq_min ..),
    gives_ia 0x0F opIaMaxu (fun _ _ => rfl) fun x s => congrArg (x.res s 1) (ite_ult_eq_max ..),
    gives_ia 0x10 opIaEq (fun _ _ => rfl) fun _ _ => rfl,
    gives_ia 0x11 opIaNe (fun _ _ => rfl) fun _ _ => rfl,
    gives_ia 0x12 opIaLt (fun _ _ => rfl) fun _ _ => rfl,
    gives_ia 0x13 opIaLtu (fun _ _ => rfl) fun _ _ => rfl,
    gives_ia 0x14 opIaLe (fun _ _ => rfl) fun _ _ => rfl,
    gives_ia 0x15 opIaLeu (fun _ _ => rfl) fun _ _ => rfl,
    gives_ia 0x16 opIaSel (fun _ _ => rfl) fun x s => congrArg (x.res s 1) (ite_not ..),
    gives_ia 0x17 opIaClz (fun _ _ => rfl) fun x s => congrArg (x.res s 1) (clz32_eq _),
    gives_ia 0x18 opIaPopc (fun _ _ => rfl) fun x s => congrArg (x.res s 1) (congrArg _ (popc32_eq _)),
    gives_ia 0x19 opIaBfx (fun _ _ => rfl) fun x s => congrArg (x.res s 1) (bfxResult_eq_bitField ..)⟩

/-- Unit `u` is socket 1 or 2 (R138). -/
theorem sockOf_iaRows (u : Bool) : ∀ r ∈ iaRows u, sockOf r.code = if u then 2 else 1 := by
  cases u <;> decide

theorem integerResults : IntegerResults := fun _ u _ _ _ r hr h =>
  (gives_iaRows u r hr).exec_eq h (sockOf_iaRows u r hr)

/-! ### Saturation (R186) -/

theorem iaSat_eq (f : Int → Int → Int) (x : Ctx) (s : State) :
    iaSat f x s = x.res s 1 (BitVec.ofInt 32 (clampS32 (f x.a.toInt x.n.toInt)))
      (if f x.a.toInt x.n.toInt = clampS32 (f x.a.toInt x.n.toInt) then 0 else fSAT) := by
  simp only [iaSat, sgn, satS32_eq, satFlag, decide_eq_true_eq, ite_not]

/-- Each saturating row issues the saturating operation of its exact sum or difference. -/
theorem exec_satRow {u : Bool} {r : (TrigMove → Instr) × Nat × (Int → Int → Int)} (hr : r ∈ satRows u) :
    sockOf r.2.1 = (if u then 2 else 1) ∧
      ∀ m s, exec (r.1 m) s = .next (s.issueOne r.2.1 (iaSat r.2.2) m) := by
  simp only [satRows, List.mem_cons, List.not_mem_nil, or_false] at hr
  obtain rfl | rfl := hr <;> cases u <;> exact ⟨rfl, fun _ _ => rfl⟩

theorem saturatingResults : SaturatingResults := by
  intro s u m v t r hr h
  obtain ⟨hsock, hexec⟩ := exec_satRow hr
  rw [← hsock]
  exact (hexec m s).trans (congrArg _ (issueOne_res h (iaSat_eq ..)))

/-! ### The multiply and divide socket (Tables 7-2 and 7-3) -/

theorem gives_mdRows : ∀ r ∈ mdRows, sockOf r.1.code = 3 ∧ Gives r.1 r.2 := by
  simp only [mdRows, List.forall_mem_cons, List.not_mem_nil, false_imp_iff, implies_true, and_true]
  exact ⟨
    ⟨rfl, opMdMul, fun _ _ => rfl, fun x s => congrArg (x.res s 3) (mul_eq_ofInt ..)⟩,
    ⟨rfl, opMdMulh, fun _ _ => rfl, fun _ _ => rfl⟩,
    ⟨rfl, opMdMulhu, fun _ _ => rfl, fun _ _ => rfl⟩,
    ⟨rfl, opMdMac, fun _ _ => rfl, fun x s => congrArg (x.res s 3) (mul_add_eq_ofInt ..)⟩,
    ⟨rfl, opMdDiv, fun _ _ => rfl, fun _ _ => rfl⟩,
    ⟨rfl, opMdDivu, fun _ _ => rfl, fun x s => congrArg (x.res s 18) (divU_eq ..)⟩,
    ⟨rfl, opMdRem, fun _ _ => rfl, fun x s => congrArg (x.res s 18) (remS_eq ..)⟩,
    ⟨rfl, opMdRemu, fun _ _ => rfl, fun x s => congrArg (x.res s 18) (remU_eq ..)⟩⟩

theorem multiplyDivideResults : MultiplyDivideResults := by
  intro s m v t r hr h
  obtain ⟨hsock, hgives⟩ := gives_mdRows r hr
  exact hgives.exec_eq h hsock

/-- Settles O1: each row's operation gives the value of its table, and the laws of the issue carry it to the state. -/
theorem arithmeticResults : Obligations.ArithmeticResults := ⟨integerResults, saturatingResults, multiplyDivideResults⟩

end Sys2Proof.Proofs.IntegerSockets
end
